-- ==== Sys2Proof/Word.lean ====
section
/-! DEFINITION. The word types of the block and the shape of sparse storage (R9: bit 0 is the least significant). -/
namespace Sys2Proof

/-- A byte of a register, of a structure in host memory or of a message on a wire. -/
abbrev Byte := BitVec 8

/-- A 16-bit field. -/
abbrev Half := BitVec 16

/-- A 32-bit register or word. -/
abbrev Word := BitVec 32

/-- A 64-bit field. -/
abbrev Dword := BitVec 64

/-- Bytes in order, the byte at the lowest address (or first on the wire) first. -/
abbrev Bytes := List Byte

/-- Storage keyed by a number: pairs with strictly rising keys, none of them equal to what an unlisted key holds.
Host memory, register banks and every bank of units are held this way. -/
abbrev Sparse (α : Type) := List (Nat × α)

end Sys2Proof
end

