-- ==== Sys2Proof/Syntax.lean ====
section
/-! DEFINITION. The commands of the block: one constructor of Instr per row of spec/opcode_table.json. Each docstring names
the row and its rule. Host commands carry the tag of their entry (ring, SEQ, FLAGS) and their object handle (R51, R53). -/
namespace Sys2Proof

/-- Where a host command came from: its command ring, its SEQ and its FLAGS (R51). -/
structure Tag where
  ring : Fin 8
  seq : Word
  flags : Half
  deriving DecidableEq, Repr

/-- FLAGS bit 0, FENCE (R51, R52). -/
def Tag.fence (c : Tag) : Bool := c.flags.getLsbD 0
/-- FLAGS bit 1, URGENT (R51, R52). -/
def Tag.urgent (c : Tag) : Bool := c.flags.getLsbD 1

/-- The rings with an EN bit (R46, R49). -/
inductive Ring where
  | cmd (r : Fin 8)
  | evt
  | punt (r : Fin 16)
  | inj (r : Fin 16)
  deriving DecidableEq, Repr

/-- The two lanes of a tree port. -/
inductive Lane where
  | main
  | comp
  deriving DecidableEq, Repr

/-- A lane as the tables number it: 0 main, 1 companion. -/
def Lane.code : Lane → Nat
  | .main => 0
  | .comp => 1
/-- The lane of the same tree port that this one is not. -/
def Lane.other : Lane → Lane
  | .main => .comp
  | .comp => .main

/-- TREE_PROFILE_SET arguments (Table 3-5). -/
structure ProfileArgs where
  index : Byte
  lane : Byte
  rate : Byte
  pflags : Byte
  preLen : Half
  patLen : Byte
  delLen : Byte
  pattern : Dword
  delim : Dword
  guardBits : Half
  deriving DecidableEq, Repr

/-- Source t of a vector instruction: a vector register or, with S = 1, a scalar register (R211). -/
inductive VecSrc where
  | vec (n : BitVec 4)
  | sca (n : BitVec 5)
  deriving DecidableEq, Repr

/-- Predication of a vector instruction: U = 1, or a predicate with Z = 0 or Z = 1 (R211). -/
inductive Pred where
  | all
  | merging (n : BitVec 2)
  | zeroing (n : BitVec 2)
  deriving DecidableEq, Repr

/-- What the receiver saw of one granted burst (R112, R241): signal detect, lock, and every position, in f after the
map's frame start, at which the delimiter pattern was compared, with the number of bits that differed there (R242). -/
structure BurstObs where
  sd : Bool
  lock : Bool
  dels : List (Int × Nat)
  deriving DecidableEq, Repr

/-- A serial-number response found in a discovery window (R137): serial number, delimiter instant in f after the
map's frame start, reported random delay in f, when it reports one, and the message that carried it (R251). -/
structure SnResponse where
  serial : Dword
  delim : Int
  rand : Option Nat
  msg : Bytes
  deriving DecidableEq, Repr

/-- How a received frame came in (R369, R374, Table 12-11): whether it holds a code error; the 802.3br fragments it came in, none for a whole
frame; an SMD error, a reassembly error. -/
structure RxState where
  codeErr : Bool := false
  frags : Nat := 0
  smdErr : Bool := false
  assyErr : Bool := false
  deriving DecidableEq, Repr

/-- What Clause 73 auto-negotiation resolved (R355): the rate code, and whether the partner too asked for RS-FEC at code 1. -/
structure An73 where
  code : BitVec 3
  fec : Bool := false
  deriving DecidableEq, Repr

/-- How a decoder ran on a codeword (R246, R248): the first iteration at which it sees a zero syndrome, whether the independent checker
finds one, and whether bits were corrected. -/
structure DecodeObs where
  zeroAt : Option Nat
  zeroChecked : Bool
  corrected : Bool
  deriving DecidableEq, Repr

/-- One item of a corrected burst (R250, R251); `lost` is a header whose HEC is uncorrectable. -/
inductive TcItem where
  | frame (wireId : Half) (key : BitVec 2) (opens closes : Bool) (data : Bytes)
  | report (allocId : BitVec 14) (valid : Bool) (bytes : Nat)
  | ploam (msg : Bytes)
  | lost
  deriving DecidableEq, Repr

/-- An item with its place in the corrected burst: it takes bytes `ofs` to before `stop`, its header those before `hdr` (R249, R250, R253).
Items come in wire order. -/
structure PlacedItem where
  ofs : Nat
  hdr : Nat
  stop : Nat
  item : TcItem
  deriving DecidableEq, Repr

/-- DTM_NODE_SET arguments, by the kind of node its handle names (Table 11-7). -/
inductive NodeArgs where
  | flow (nflags : Byte) (parent weight : Half) (qlim cir cbs : Word)
  | term (nflags lane : Byte) (term weight prec : Half)
  | gen (weight : Half)
  | none
  deriving DecidableEq, Repr

/-- ULK_PORT_SET arguments (Table 12-6). -/
structure PortArgs where
  lanes : Byte
  topRate : Byte
  bringup : Byte
  pflags : Byte
  maxFrame : Half
  liveHold : Half
  qlim : Word
  qweight : Dword
  express : Byte
  deriving DecidableEq, Repr

/-- ULK_GATE_LIST arguments (Table 12-6). -/
structure GateArgs where
  gflags : Byte
  count : Half
  addr : Dword
  sec : BitVec 48
  ns : Word
  cycle : Word
  deriving DecidableEq, Repr

/-- ULK_PAUSE_SET arguments (Table 12-6). -/
structure PauseArgs where
  mode : Byte
  pflags : Byte
  pfcMask : Byte
  quanta : Half
  xoff : Word
  xon : Word
  deriving DecidableEq, Repr

/-- TAL_SNAPSHOT arguments (Table 16-2). -/
structure SnapArgs where
  sflags : Byte
  sec : BitVec 48
  ns : Word
  first : Word
  count : Word
  addr : Dword
  deriving DecidableEq, Repr

/-- TAL_PROFILE_START arguments (Table 16-2). -/
structure ProfArgs where
  port : Byte
  mode : Byte
  pflags : Byte
  pcLo : Half
  pcHi : Half
  every : Half
  startSfc : Dword
  frames : Word
  deriving DecidableEq, Repr

/-- The registers with a W1C field (R13; Tables 3-14, 3-17, 17-5, 19-9). -/
inductive W1cReg where
  | bootStatus
  | diagStatus
  | treeStatus (p : Fin 64)
  | treeRssi (p : Fin 64)
  deriving DecidableEq, Repr

/-- A step of the internal start-up (Table 17-1); whether a drift trained. -/
inductive BootStep where
  | ledger
  | memInit
  | drift (x : Fin 2) (trained : Bool)
  | pcie
  | done
  deriving DecidableEq, Repr

/-- A power rail (Table 18-3). -/
inductive Rail where
  | hub
  | pa
  | pb
  | sram
  | pon085
  | eth085
  | pon12
  | eth12
  | ddr
  | io
  deriving DecidableEq, Repr

/-- A PCI Express reset (R38). -/
inductive PcieReset where
  | fundamental
  | hot
  | flr
  deriving DecidableEq, Repr

/-- What a contained fault struck (R26, Table 1-3): the logic of a tree port, a cluster, a region or a port die. -/
inductive FaultLevel where
  | port (p : Fin 64)
  | cluster (c : Fin 16)
  | region (g : Fin 4)
  | die (x : Fin 2)
  deriving DecidableEq, Repr

/-- An exact-match table (Table 10-2). -/
inductive TableId where
  | svc
  | mac
  | val
  deriving DecidableEq, Repr

/-- A serial lane: an uplink lane (R341), a DMP lane or the heartbeat pair (R377, R378). -/
inductive SerialLane where
  | uplink (u : Fin 32)
  | dmp (k : Fin 8)
  | hb
  deriving DecidableEq, Repr

/-- A path to the mate (R385). -/
inductive Path where
  | dmp
  | hb
  deriving DecidableEq, Repr

/-- Path as the events number it: 0 DMP, 1 heartbeat. -/
def Path.code : Path → Nat
  | .dmp => 0
  | .hb => 1

/-- A grant of a mirrored map (Table 13-4): record, ALLOC_ID, terminal, class, start, size, profile, flags. -/
structure MirGrant where
  ri : Nat
  allocId : Nat
  term : Nat
  cls : Nat
  start : Nat
  size : Nat
  profIx : Nat
  ploamUp : Bool
  rptReq : Bool
  wake : Bool
  witness : Bool
  deriving DecidableEq, Repr

/-- The ranging state of a terminal as the mirror carries it (Table 13-4). -/
structure MirTerm where
  lane : Lane
  serial : Dword
  rtd : Int
  eqd : Int
  eqdBase : Int
  eqdPend : Option Int
  tresp : Nat
  deriving DecidableEq, Repr

/-- A slot of the calendar wheel (R226). -/
structure CalSlot where
  head : Nat := 0
  tail : Nat := 0
  count : Nat := 0
  deriving DecidableEq, Repr

/-- A checkpoint (Table 5-5). -/
structure Ckpt where
  lmem : Sparse Word
  scratch : Sparse Word
  cal : Sparse CalSlot
  v : Word
  shift : Nat
  half : Bool
  sfc : Nat
  deriving DecidableEq, Repr

/-- A mirror record of a tree (Table 13-4), and what the two packages ask of each other about it (R381, Table 13-8). The time of
F_N is device time of the sender in units of 2^-32 ns. -/
inductive MirrorRecord where
  | frame (sfc fn cyc rem : Nat) (digest : Option Word)
  | reports (sfc : Nat) (l : List (Nat × Nat))
  | maps (sfc : Nat) (main comp : List MirGrant)
  | bursts (sfc : Nat) (lane : Lane) (l : List (Bool × Word))
  | term (t : Nat) (x : Option MirTerm)
  | trunk (n : Nat) (dly asymM asymC : Int) (knownM knownC : Bool)
  | teqdAdj (v : Int)
  | keys (t : Nat) (k0 k1 : BitVec 128) (use1 : Bool) (sfc : Nat)
  | bcast (slot idx : Nat) (key : BitVec 128)
  | ckpt (c : Ckpt)
  | snapshotEnd
  | askSnapshot
  | askCkpt
  deriving DecidableEq, Repr

/-- The memory that an on-chip word belongs to, and what the word serves there (Table 15-2): a frame is named by its flow queue or
egress port and its place in the queue; `hub` says whether the word's second copy is lost too. -/
inductive OnChip where
  | winder (w : Fin 80) (data : Bool)
  | decoder (n : Fin 80)
  | portSram (p : Fin 64)
  | flowFrame (h : BitVec 20) (i : Nat)
  | egressFrame (u : Fin 32) (i : Nat)
  | tableEntry (t : TableId) (slot : Nat)
  | rule (upstream store : Bool) (r : Fin 32768)
  | macCache
  | hub (bothLost : Bool)
  | driftBuffer
  deriving DecidableEq, Repr

/-- What a DRAM read or a DDR5 device reported (R425, R426): a word read, with the local address of R424, its location and the
DDR5 command in progress; or a parity alert. -/
inductive DramError where
  | word (loc : Dword) (addr : Nat) (raw : BitVec 40) (cmdNow : Half)
  | command (loc : Dword) (cmdNow : Half)
  deriving DecidableEq, Repr

/-- A word that the scrubber reads (R429). -/
inductive ScrubWord where
  | chip (mem : OnChip) (raw : BitVec 39)
  | dram (addr : Nat) (raw : BitVec 40)
  deriving DecidableEq, Repr

/-- A unit under MEM_THAW (R442). -/
inductive RepairUnit where
  | winder (w : Fin 80)
  | decoder (n : Fin 80)
  deriving DecidableEq, Repr

/-- How a module answered a transfer (R124): the bytes read, or no acknowledgement or SCL held low for more than 25 ms. -/
inductive I2cOutcome where
  | ok (data : Bytes)
  | noAnswer
  deriving DecidableEq, Repr

/-- The commands of the block: one constructor per row of the opcode table, in its order. -/
inductive Instr where
  /-- NOP (R65). -/
  | nop (c : Tag) (obj : Word)
  /-- WAIT_TIME (R63). -/
  | waitTime (c : Tag) (obj : Word) (sec : BitVec 48) (ns : Word)
  /-- WAIT_EVENT (R63). -/
  | waitEvent (c : Tag) (obj : Word) (typ src mask : Half) (limit : Word)
  /-- READ_REG (R63). -/
  | readReg (c : Tag) (obj : Word) (off : Word) (count : Byte)
  /-- WRITE_REG (R63). -/
  | writeReg (c : Tag) (obj : Word) (off value mask : Word)
  /-- READ_STATE (R64). -/
  | readState (c : Tag) (obj : Word) (addr : Dword) (len : Word)
  /-- RESET_SCOPE (R63). -/
  | resetScope (c : Tag) (obj : Word)
  /-- TREE_ENABLE (R117). -/
  | treeEnable (c : Tag) (obj : Word) (lanes : Byte)
  /-- TREE_DISABLE (R119). -/
  | treeDisable (c : Tag) (obj : Word) (lanes : Byte)
  /-- TREE_LANE_SET (R91). -/
  | treeLaneSet (c : Tag) (obj : Word) (mainGen compGen gflags : Byte)
  /-- TREE_PROFILE_SET (R103). -/
  | treeProfileSet (c : Tag) (obj : Word) (a : ProfileArgs)
  /-- TREE_KEY_LOAD (R99). -/
  | treeKeyLoad (c : Tag) (obj : Word) (slot : Byte) (key : BitVec 128)
  /-- TREE_KEY_SWITCH (R101). -/
  | treeKeySwitch (c : Tag) (obj : Word) (slot : Byte) (sfc : Dword)
  /-- TREE_BCAST_KEY_LOAD (R102). -/
  | treeBcastKeyLoad (c : Tag) (obj : Word) (slot keyIdx : Byte) (key : BitVec 128)
  /-- TREE_PLOAM_SEND (R106). -/
  | treePloamSend (c : Tag) (obj : Word) (msg : Bytes)
  /-- TREE_MODULE_I2C (R124). -/
  | treeModuleI2c (c : Tag) (obj : Word) (op addr ofs len : Byte) (data : Bytes)
  /-- RNG_DISCOVER (R133). -/
  | rngDiscover (c : Tag) (obj : Word) (lane profile : Byte) (window far period : Half) (count : Word)
  /-- RNG_TERMINAL_ADD (R138). -/
  | rngTerminalAdd (c : Tag) (obj : Word) (serial : Dword) (lane rflags profile : Byte) (hint tresp : Word) (limit : Half)
  /-- RNG_TERMINAL_REMOVE (R142). -/
  | rngTerminalRemove (c : Tag) (obj : Word)
  /-- RNG_TRUNK_SET (R153). -/
  | rngTrunkSet (c : Tag) (obj : Word) (dly asymM asymC : Word) (tflags : Byte)
  /-- RNG_TRUNK_CONFIRM (R153). -/
  | rngTrunkConfirm (c : Tag) (obj : Word)
  /-- WND_IMAGE_LOAD (R187). -/
  | wndImageLoad (c : Tag) (obj : Word) (addr : Dword) (len : Word)
  /-- WND_SWAP (R188). -/
  | wndSwap (c : Tag) (obj : Word) (sflags : Byte) (sfc : Dword)
  /-- WND_ALLOC_WRITE (R167). -/
  | wndAllocWrite (c : Tag) (obj : Word) (rec : Bytes)
  /-- WND_ALLOC_REMOVE (R168). -/
  | wndAllocRemove (c : Tag) (obj : Word)
  /-- WND_WITNESS_SET (R182). -/
  | wndWitnessSet (c : Tag) (obj : Word) (en gap profile : Byte)
  /-- UPS_FLOW_SET (R255). -/
  | upsFlowSet (c : Tag) (obj : Word) (wireId term : Half) (lane fflags slot : Byte)
  /-- UPS_POLICER_SET (R258). -/
  | upsPolicerSet (c : Tag) (obj : Word) (cir cbs : Word) (pflags : Byte)
  /-- CLS_RULES_LOAD (R281). -/
  | clsRulesLoad (c : Tag) (obj : Word) (kind lflags : Byte) (addr : Dword) (first count : Word)
  /-- CLS_RULES_SWAP (R282). -/
  | clsRulesSwap (c : Tag) (obj : Word)
  /-- CLS_DEFAULT_SET (R278). -/
  | clsDefaultSet (c : Tag) (obj : Word) (action : Bytes)
  /-- CLS_INDIR_WRITE (R286). -/
  | clsIndirWrite (c : Tag) (obj : Word) (first count : Half) (addr : Dword)
  /-- TBL_WRITE (R313). -/
  | tblWrite (c : Tag) (obj : Word) (addr : Dword) (count : Word)
  /-- TBL_DELETE (R313). -/
  | tblDelete (c : Tag) (obj : Word) (addr : Dword) (count : Word)
  /-- TBL_DOMAIN_FLUSH (R309). -/
  | tblDomainFlush (c : Tag) (obj : Word) (dflags : Byte) (src : Word)
  /-- TBL_LPM_LOAD (R313). -/
  | tblLpmLoad (c : Tag) (obj : Word) (addr : Dword) (count : Word)
  /-- TBL_HOLDDOWN_SET (R307). -/
  | tblHolddownSet (c : Tag) (obj : Word) (hold : Word)
  /-- DTM_NODE_SET (R338). -/
  | dtmNodeSet (c : Tag) (obj : Word) (a : NodeArgs)
  /-- DTM_SHAPER_SET (R329). -/
  | dtmShaperSet (c : Tag) (obj : Word) (bucket sflags : Byte) (rate burst : Word)
  /-- DTM_WATCH_SET (R336). -/
  | dtmWatchSet (c : Tag) (obj : Word) (wflags : Byte) (node depthTh delayTh : Word)
  /-- DTM_PARTITION_SET (R323). -/
  | dtmPartitionSet (c : Tag) (obj : Word) (part : Byte) (res max : Word)
  /-- ULK_LANE_ENABLE (R361). -/
  | ulkLaneEnable (c : Tag) (obj : Word) (limit : Half)
  /-- ULK_LANE_DISABLE (R362). -/
  | ulkLaneDisable (c : Tag) (obj : Word)
  /-- ULK_PORT_SET (R344). -/
  | ulkPortSet (c : Tag) (obj : Word) (a : PortArgs)
  /-- ULK_BITSLIP (R347). -/
  | ulkBitslip (c : Tag) (obj : Word) (count : Byte)
  /-- ULK_GATE_LIST (R372). -/
  | ulkGateList (c : Tag) (obj : Word) (a : GateArgs)
  /-- ULK_PAUSE_SET (R365). -/
  | ulkPauseSet (c : Tag) (obj : Word) (a : PauseArgs)
  /-- MAT_PAIR_JOIN (R379). -/
  | matPairJoin (c : Tag) (obj : Word) (pkg mflags : Byte) (active : Dword) (limit : Half)
  /-- MAT_ROLE_SET (R389). -/
  | matRoleSet (c : Tag) (obj : Word) (role : Byte)
  /-- MAT_DARK_RELEASE (R400). -/
  | matDarkRelease (c : Tag) (obj : Word)
  /-- TOD_STEP (R413). -/
  | todStep (c : Tag) (obj : Word) (mode : Byte) (sec : BitVec 48) (ns : Word)
  /-- TOD_STEER (R413). -/
  | todSteer (c : Tag) (obj : Word) (freq : Word) (sflags : Byte)
  /-- TOD_TRIG_SET (R420). -/
  | todTrigSet (c : Tag) (obj : Word) (tflags : Byte) (sec : BitVec 48) (ns period width : Word)
  /-- MEM_THAW (R440). -/
  | memThaw (c : Tag) (obj : Word)
  /-- MEM_RETIRE (R441). -/
  | memRetire (c : Tag) (obj : Word)
  /-- MEM_ROW_REPAIR (R447). -/
  | memRowRepair (c : Tag) (obj : Word) (loc : Dword)
  /-- MEM_SCRUB_SET (R447). -/
  | memScrubSet (c : Tag) (obj : Word) (sramS : Half) (dramH : Byte)
  /-- TAL_SNAPSHOT (R455). -/
  | talSnapshot (c : Tag) (obj : Word) (a : SnapArgs)
  /-- TAL_WINDOW_SET (R457). -/
  | talWindowSet (c : Tag) (obj : Word) (wflags : Byte) (winMs : Half)
  /-- TAL_PROFILE_START (R459). -/
  | talProfileStart (c : Tag) (obj : Word) (a : ProfArgs)
  /-- TAL_PROFILE_STOP (R461). -/
  | talProfileStop (c : Tag) (obj : Word)
  /-- ADD (R203). -/
  | add (w : Fin 80) (rd rs rt : BitVec 5)
  /-- SUB (R203). -/
  | sub (w : Fin 80) (rd rs rt : BitVec 5)
  /-- AND (R203). -/
  | andR (w : Fin 80) (rd rs rt : BitVec 5)
  /-- OR (R203). -/
  | orR (w : Fin 80) (rd rs rt : BitVec 5)
  /-- XOR (R203). -/
  | xorR (w : Fin 80) (rd rs rt : BitVec 5)
  /-- SHL (R203). -/
  | shl (w : Fin 80) (rd rs rt : BitVec 5)
  /-- SHR (R203). -/
  | shr (w : Fin 80) (rd rs rt : BitVec 5)
  /-- SAR (R203). -/
  | sar (w : Fin 80) (rd rs rt : BitVec 5)
  /-- MUL (R203). -/
  | mul (w : Fin 80) (rd rs rt : BitVec 5)
  /-- MULHU (R203). -/
  | mulhu (w : Fin 80) (rd rs rt : BitVec 5)
  /-- MINU (R203). -/
  | minu (w : Fin 80) (rd rs rt : BitVec 5)
  /-- MAXU (R203). -/
  | maxu (w : Fin 80) (rd rs rt : BitVec 5)
  /-- SLT (R203). -/
  | slt (w : Fin 80) (rd rs rt : BitVec 5)
  /-- SLTU (R203). -/
  | sltu (w : Fin 80) (rd rs rt : BitVec 5)
  /-- SUBSAT (R203). -/
  | subsat (w : Fin 80) (rd rs rt : BitVec 5)
  /-- MFS (R192). -/
  | mfs (w : Fin 80) (rd idx : BitVec 5)
  /-- ADDI (R204). -/
  | addi (w : Fin 80) (rd rs : BitVec 5) (imm : Half)
  /-- ANDI (R204). -/
  | andi (w : Fin 80) (rd rs : BitVec 5) (imm : Half)
  /-- ORI (R204). -/
  | ori (w : Fin 80) (rd rs : BitVec 5) (imm : Half)
  /-- XORI (R204). -/
  | xori (w : Fin 80) (rd rs : BitVec 5) (imm : Half)
  /-- LUI (R204). -/
  | lui (w : Fin 80) (rd : BitVec 5) (imm : Half)
  /-- SHLI (R204). -/
  | shli (w : Fin 80) (rd rs n : BitVec 5)
  /-- SHRI (R204). -/
  | shri (w : Fin 80) (rd rs n : BitVec 5)
  /-- SARI (R204). -/
  | sari (w : Fin 80) (rd rs n : BitVec 5)
  /-- RORI (R204). -/
  | rori (w : Fin 80) (rd rs n : BitVec 5)
  /-- SLTI (R204). -/
  | slti (w : Fin 80) (rd rs : BitVec 5) (imm : Half)
  /-- SLTIU (R204). -/
  | sltiu (w : Fin 80) (rd rs : BitVec 5) (imm : Half)
  /-- LDW (R206). -/
  | ldw (w : Fin 80) (rd rb : BitVec 5) (pi : Bool) (disp : BitVec 15)
  /-- STW (R206). -/
  | stw (w : Fin 80) (rd rb : BitVec 5) (pi : Bool) (disp : BitVec 15)
  /-- LDV (R206). -/
  | ldv (w : Fin 80) (vd : BitVec 4) (rb : BitVec 5) (pi : Bool) (disp : BitVec 15)
  /-- STV (R206). -/
  | stv (w : Fin 80) (vd : BitVec 4) (rb : BitVec 5) (pi : Bool) (disp : BitVec 15)
  /-- LDA (R206). -/
  | lda (w : Fin 80) (rd rb : BitVec 5) (pi : Bool) (disp : BitVec 15)
  /-- STA (R206). -/
  | sta (w : Fin 80) (rd rb : BitVec 5) (pi : Bool) (disp : BitVec 15)
  /-- LDAV (R206). -/
  | ldav (w : Fin 80) (vd : BitVec 4) (rb : BitVec 5) (pi : Bool) (disp : BitVec 15)
  /-- LDAG (R206). -/
  | ldag (w : Fin 80) (vd vb : BitVec 4) (pi : Bool) (disp : BitVec 15)
  /-- BEQ (R208). -/
  | beq (w : Fin 80) (rs rt : BitVec 5) (off : Half)
  /-- BNE (R208). -/
  | bne (w : Fin 80) (rs rt : BitVec 5) (off : Half)
  /-- BLT (R208). -/
  | blt (w : Fin 80) (rs rt : BitVec 5) (off : Half)
  /-- BGE (R208). -/
  | bge (w : Fin 80) (rs rt : BitVec 5) (off : Half)
  /-- BLTU (R208). -/
  | bltu (w : Fin 80) (rs rt : BitVec 5) (off : Half)
  /-- BGEU (R208). -/
  | bgeu (w : Fin 80) (rs rt : BitVec 5) (off : Half)
  /-- JAL (R208). -/
  | jal (w : Fin 80) (rd : BitVec 5) (target : BitVec 12)
  /-- JALR (R208). -/
  | jalr (w : Fin 80) (rd rs : BitVec 5)
  /-- LOOP (R209). -/
  | loopR (w : Fin 80) (rs : BitVec 5) (len : BitVec 12)
  /-- LOOPI (R209). -/
  | loopi (w : Fin 80) (count len : BitVec 12)
  /-- VADD (R212). -/
  | vadd (w : Fin 80) (vd vs : BitVec 4) (t : VecSrc) (pr : Pred)
  /-- VSUB (R212). -/
  | vsub (w : Fin 80) (vd vs : BitVec 4) (t : VecSrc) (pr : Pred)
  /-- VAND (R212). -/
  | vand (w : Fin 80) (vd vs : BitVec 4) (t : VecSrc) (pr : Pred)
  /-- VOR (R212). -/
  | vor (w : Fin 80) (vd vs : BitVec 4) (t : VecSrc) (pr : Pred)
  /-- VXOR (R212). -/
  | vxor (w : Fin 80) (vd vs : BitVec 4) (t : VecSrc) (pr : Pred)
  /-- VSHL (R212). -/
  | vshl (w : Fin 80) (vd vs : BitVec 4) (t : VecSrc) (pr : Pred)
  /-- VSHR (R212). -/
  | vshr (w : Fin 80) (vd vs : BitVec 4) (t : VecSrc) (pr : Pred)
  /-- VSAR (R212). -/
  | vsar (w : Fin 80) (vd vs : BitVec 4) (t : VecSrc) (pr : Pred)
  /-- VMUL (R212). -/
  | vmul (w : Fin 80) (vd vs : BitVec 4) (t : VecSrc) (pr : Pred)
  /-- VMULHU (R212). -/
  | vmulhu (w : Fin 80) (vd vs : BitVec 4) (t : VecSrc) (pr : Pred)
  /-- VMINU (R212). -/
  | vminu (w : Fin 80) (vd vs : BitVec 4) (t : VecSrc) (pr : Pred)
  /-- VMAXU (R212). -/
  | vmaxu (w : Fin 80) (vd vs : BitVec 4) (t : VecSrc) (pr : Pred)
  /-- VSUBSAT (R212). -/
  | vsubsat (w : Fin 80) (vd vs : BitVec 4) (t : VecSrc) (pr : Pred)
  /-- VCEQ (R213). -/
  | vceq (w : Fin 80) (pd : BitVec 2) (vs : BitVec 4) (t : VecSrc) (pr : Pred)
  /-- VCNE (R213). -/
  | vcne (w : Fin 80) (pd : BitVec 2) (vs : BitVec 4) (t : VecSrc) (pr : Pred)
  /-- VCLTU (R213). -/
  | vcltu (w : Fin 80) (pd : BitVec 2) (vs : BitVec 4) (t : VecSrc) (pr : Pred)
  /-- VCLT (R213). -/
  | vclt (w : Fin 80) (pd : BitVec 2) (vs : BitVec 4) (t : VecSrc) (pr : Pred)
  /-- VCGEU (R213). -/
  | vcgeu (w : Fin 80) (pd : BitVec 2) (vs : BitVec 4) (t : VecSrc) (pr : Pred)
  /-- VCGE (R213). -/
  | vcge (w : Fin 80) (pd : BitVec 2) (vs : BitVec 4) (t : VecSrc) (pr : Pred)
  /-- VSEL (R214). -/
  | vsel (w : Fin 80) (vd vs : BitVec 4) (t : VecSrc) (pn : BitVec 2)
  /-- VRSUM (R214). -/
  | vrsum (w : Fin 80) (gd : BitVec 5) (vs : BitVec 4) (pr : Pred)
  /-- VRMINU (R214). -/
  | vrminu (w : Fin 80) (gd : BitVec 5) (vs : BitVec 4) (pr : Pred)
  /-- VRMAXU (R214). -/
  | vrmaxu (w : Fin 80) (gd : BitVec 5) (vs : BitVec 4) (pr : Pred)
  /-- VRMINI (R214). -/
  | vrmini (w : Fin 80) (gd : BitVec 5) (vs : BitVec 4) (pr : Pred)
  /-- VRMAXI (R214). -/
  | vrmaxi (w : Fin 80) (gd : BitVec 5) (vs : BitVec 4) (pr : Pred)
  /-- VBC (R214). -/
  | vbc (w : Fin 80) (vd : BitVec 4) (gs : BitVec 5) (pr : Pred)
  /-- VIDX (R214). -/
  | vidx (w : Fin 80) (vd : BitVec 4) (pr : Pred)
  /-- VINS (R214). -/
  | vins (w : Fin 80) (vd : BitVec 4) (gs : BitVec 5) (k : BitVec 3)
  /-- VEXT (R214). -/
  | vext (w : Fin 80) (gd : BitVec 5) (vs : BitVec 4) (k : BitVec 3)
  /-- PAND (R215). -/
  | pand (w : Fin 80) (pd ps pt : BitVec 2)
  /-- POR (R215). -/
  | por (w : Fin 80) (pd ps pt : BitVec 2)
  /-- PXOR (R215). -/
  | pxor (w : Fin 80) (pd ps pt : BitVec 2)
  /-- PANDN (R215). -/
  | pandn (w : Fin 80) (pd ps pt : BitVec 2)
  /-- PSET (R215). -/
  | pset (w : Fin 80) (pd : BitVec 2) (imm : Byte)
  /-- PFIRST (R215). -/
  | pfirst (w : Fin 80) (pd ps : BitVec 2)
  /-- PCNT (R215). -/
  | pcnt (w : Fin 80) (gd : BitVec 5) (ps : BitVec 2)
  /-- PTOG (R215). -/
  | ptog (w : Fin 80) (gd : BitVec 5) (ps : BitVec 2)
  /-- PFROMG (R215). -/
  | pfromg (w : Fin 80) (pd : BitVec 2) (gs : BitVec 5)
  /-- WAIT (R216). -/
  | wait (w : Fin 80) (rs : BitVec 5) (imm : Half)
  /-- SAMPLE (R216). -/
  | sample (w : Fin 80) (tag : Half)
  /-- HALT (R216). -/
  | halt (w : Fin 80)
  /-- VFT (R224). -/
  | vft (w : Fin 80) (vd vs : BitVec 4) (t : VecSrc) (pr : Pred)
  /-- VTNOW (R225). -/
  | vtnow (w : Fin 80) (rd : BitVec 5)
  /-- VTADV (R225). -/
  | vtadv (w : Fin 80) (rd rs : BitVec 5)
  /-- VTSET (R225). -/
  | vtset (w : Fin 80) (rs : BitVec 5)
  /-- VTSHIFT (R225). -/
  | vtshift (w : Fin 80) (rs : BitVec 5)
  /-- CALINS (R227). -/
  | calins (w : Fin 80) (rd rs rt : BitVec 5)
  /-- CALPOP (R228). -/
  | calpop (w : Fin 80) (rd rs : BitVec 5)
  /-- CALCNT (R228). -/
  | calcnt (w : Fin 80) (rd rs : BitVec 5)
  /-- RPTGET (R229). -/
  | rptget (w : Fin 80) (rd rt : BitVec 5)
  /-- RPTCNT (R229). -/
  | rptcnt (w : Fin 80) (rd : BitVec 5)
  /-- GRANT (R230). -/
  | grant (w : Fin 80) (rd rs rt : BitVec 5)
  /-- RNGWIN (R232). -/
  | rngwin (w : Fin 80) (rd rs rt : BitVec 5)
  /-- RNGTAIL (R234). -/
  | rngtail (w : Fin 80) (rd rs : BitVec 5)
  /-- PRECUT (R235). -/
  | precut (w : Fin 80) (rd rs rt : BitVec 5)
  /-- SEAL (R237). -/
  | sealMap (w : Fin 80) (inTime : Bool)
  /-- WAIT_TIME_REACHED (R63). -/
  | waitTimeReached (r : Fin 8)
  /-- WAIT_EVENT_LIMIT (R63). -/
  | waitEventLimit (r : Fin 8)
  /-- ULK_ENABLE_LIMIT (R361). -/
  | ulkEnableLimit (u : Fin 32)
  /-- PAIR_JOIN_LIMIT (R379). -/
  | pairJoinLimit
  /-- PLANNED_SWITCH_TIMEOUT (R389). -/
  | plannedSwitchTimeout (p : Fin 64)
  /-- REPORT_CUTOFF (R171). -/
  | reportCutoff (p : Fin 64)
  /-- LEARN_APPLY (R305). -/
  | learnApply
  /-- PROMOTE_BY_SILENCE (R388). -/
  | promoteBySilence (p : Fin 64)
  /-- MODULE_I2C_DONE (R124). -/
  | moduleI2cDone (c : Fin 16) (o : I2cOutcome)
  /-- CMD_DOORBELL (R48). -/
  | cmdDoorbell (r : Fin 8) (v : Word)
  /-- EVENT_DOORBELL (R48). -/
  | eventDoorbell (v : Word)
  /-- PUNT_DOORBELL (R48). -/
  | puntDoorbell (r : Fin 16) (v : Word)
  /-- INJECT_DOORBELL (R48). -/
  | injectDoorbell (r : Fin 16) (v : Word)
  /-- COMMAND_ENTRY_FETCH (R75). -/
  | commandEntryFetch (r : Fin 8)
  /-- COMMAND_START (R57). -/
  | commandStart (r : Fin 8)
  /-- RING_EN_WRITE (R49). -/
  | ringEnWrite (ring : Ring) (en : Bool)
  /-- RING_PAUSE_WRITE (R77). -/
  | ringPauseWrite (r : Fin 8) (b : Bool)
  /-- RING_RESUME_WRITE (R76). -/
  | ringResumeWrite (r : Fin 8)
  /-- EXPSEQ_WRITE (R77). -/
  | expseqWrite (r : Fin 8) (v : Word)
  /-- EVENT_RING_WRITE (R66). -/
  | eventRingWrite
  /-- CMD_EVT_LOST (R73). -/
  | cmdEvtLost
  /-- MSIX_MODERATION_TIMER (R74). -/
  | msixModerationTimer (vec : Fin 34)
  /-- PUNT_FRAME (R81). -/
  | puntFrame (r : Fin 16) (reason : Half) (ingress : Word) (data : Bytes) (stamp : Dword)
  /-- INJECT_FRAME (R82). -/
  | injectFrame (r : Fin 16)
  /-- INJECT_PAUSE_TIMEOUT (R83). -/
  | injectPauseTimeout (r : Fin 16)
  /-- TREE_FRAME_OFS_WRITE (R93). -/
  | treeFrameOfsWrite (p : Fin 64) (v : Word)
  /-- TREE_RSSI_ARM_WRITE (R114). -/
  | treeRssiArmWrite (p : Fin 64) (term : BitVec 10) (arm : Bool)
  /-- RNG_TEQD_WRITE (R128). -/
  | rngTeqdWrite (p : Fin 64) (v : Word)
  /-- TOD_CTRL_WRITE (R410). -/
  | todCtrlWrite (v : Word)
  /-- TOD_NOW_NS_READ (R416). -/
  | todNowNsRead
  /-- TAL_WIN_SEQ_READ (R458). -/
  | talWinSeqRead (x : Fin 96)
  /-- W1C_WRITE (R13). -/
  | w1cWrite (reg : W1cReg) (v : Word)
  /-- RC_READ (R13). -/
  | rcRead (c : Fin 16)
  /-- LOCAL_COUNTER_WRITE (R453). -/
  | localCounterWrite (off : Word) (v : Word)
  /-- HUB_DIAG_SEL_WRITE (R506). -/
  | hubDiagSelWrite (v : Word)
  /-- DIAG_WINDOW_READ (R505). -/
  | diagWindowRead (off : BitVec 24) (bad : Bool)
  /-- DRAM_EN_WRITE (R469). -/
  | dramEnWrite (v : Word)
  /-- REGISTER_WRITE (R503). -/
  | registerWrite (off : Word) (v : Word)
  /-- SERVICE_PORT_WRITE (R494). -/
  | servicePortWrite (off : Word) (v : Word)
  /-- SERVICE_PORT_SET_POINTER (R493). -/
  | servicePortSetPointer (off : Word)
  /-- SERVICE_PORT_READ (R494). -/
  | servicePortRead
  /-- RESET_N_ASSERT (R486). -/
  | resetNAssert
  /-- RESET_N_DEASSERT (R465). -/
  | resetNDeassert (straps : BitVec 3)
  /-- BOOT_STEP_COMPLETE (R465). -/
  | bootStepComplete (st : BootStep)
  /-- DRAM_READY (R469). -/
  | dramReady (failed : Byte)
  /-- POWER_RAIL_CHANGE (R484). -/
  | powerRailChange (rail : Rail) (up : Bool)
  /-- PCIE_RESET (R38). -/
  | pcieReset (kind : PcieReset)
  /-- FENCE_IN_ASSERT (R115). -/
  | fenceInAssert
  /-- FENCE_IN_DEASSERT (R116). -/
  | fenceInDeassert
  /-- FENCE_IN_QUALIFIED (R395). -/
  | fenceInQualified
  /-- FENCE_IN_RELEASED (R395). -/
  | fenceInReleased
  /-- DRIFT_LANE_FAULT (R21). -/
  | driftLaneFault (die : Fin 2) (lane : Fin 18)
  /-- DRIFT_SILENCE (R23). -/
  | driftSilence (die : Fin 2)
  /-- DRIFT_BLOCK_RECEIVE (R20). -/
  | driftBlockReceive (die : Fin 2) (lane : Fin 18) (crcGood : Bool)
  /-- HUB_DIE_FAULT (R36). -/
  | hubDieFault
  /-- PIPELINE_FAULT (R29). -/
  | pipelineFault (f : Fin 4)
  /-- UPLINK_LANE_FAULT (R30). -/
  | uplinkLaneFault (u : Fin 32)
  /-- CONTAINED_FAULT (R387). -/
  | containedFault (level : FaultLevel)
  /-- FRAME_START (R94). -/
  | frameStart (p : Fin 64)
  /-- DS_FRAME_RECEIVE (R97). -/
  | dsFrameReceive (p : Fin 64)
  /-- PROGRAM_START (R162). -/
  | programStart (p : Fin 64) (cyc rem : Nat)
  /-- SEAL_POINT (R179). -/
  | sealPoint (p : Fin 64)
  /-- CHECKPOINT_COMPLETE (R184). -/
  | checkpointComplete (p : Fin 64)
  /-- WINDER_WATCHDOG_TRIP (R183). -/
  | winderWatchdogTrip (w : Fin 80)
  /-- WINDER_FAULT (R183). -/
  | winderFault (w : Fin 80) (data : Bool)
  /-- WND_SPARE_TAKEOVER (R183). -/
  | wndSpareTakeover (p : Fin 64) (cyc rem : Nat)
  /-- SPARE_SELF_TEST (R183). -/
  | spareSelfTest (w : Fin 80) (pass : Bool)
  /-- BRST_PULSE (R110). -/
  | brstPulse (p : Fin 64) (slot : Nat)
  /-- RSSI_TRIG_FIRE (R114). -/
  | rssiTrigFire (p : Fin 64) (slot : Nat)
  /-- BURST_ACQUISITION (R241). -/
  | burstAcquisition (p : Fin 64) (slot : Nat) (o : BurstObs)
  /-- STEP_WATCH_END (R150). -/
  | stepWatchEnd (p : Fin 64)
  /-- CORRECTION_RESEND (R146). -/
  | correctionResend (p : Fin 64) (t : BitVec 10)
  /-- DISCOVERY_REQUEST (R134). -/
  | discoveryRequest (p : Fin 64) (lane : Lane)
  /-- DISCOVERY_WINDOW (R137). -/
  | discoveryWindow (p : Fin 64) (lane : Lane) (sd : Bool) (found : List SnResponse)
  /-- RANGING_WINDOW (R139): the delimiter instant and the message of a valid response. -/
  | rangingWindow (p : Fin 64) (lane : Lane) (resp : Option (Int × Bytes))
  /-- RANGING_LIMIT_EXPIRY (R139). -/
  | rangingLimitExpiry (p : Fin 64) (t : BitVec 10)
  /-- LDPC_DISPATCH (R245). -/
  | ldpcDispatch (c : Fin 16)
  /-- LDPC_DECODE_DONE (R246). -/
  | ldpcDecodeDone (d : Fin 80) (o : DecodeObs)
  /-- DECODER_FAULT (R248). -/
  | decoderFault (d : Fin 80)
  /-- DECODER_HOLD_TIMEOUT (R248). -/
  | decoderHoldTimeout (d : Fin 80)
  /-- BURST_DELINEATION (R250). -/
  | burstDelineation (p : Fin 64) (slot : Nat) (items : List PlacedItem)
  /-- REASSEMBLY_TIMEOUT (R254). -/
  | reassemblyTimeout (p : Fin 64) (flow : BitVec 14)
  /-- UPLINK_FRAME_RECEIVE (R374). -/
  | uplinkFrameReceive (u : Fin 32) (data : Bytes) (fcsGood : Bool) (rx : RxState) (stamp : Dword)
  /-- CLASSIFIER_PASS (R275). -/
  | classifierPass (f : Fin 4)
  /-- RECIRC_PASS (R280). -/
  | recircPass (f : Fin 4)
  /-- GENERATION_RETIRE (R283). -/
  | generationRetire (d : Fin 2)
  /-- SUMP_MOVE (R297). -/
  | sumpMove (table : TableId) (bucket : Nat)
  /-- AGER_VISIT (R308). -/
  | agerVisit (mac : BitVec 48) (dom : BitVec 14)
  /-- FLUSH_SWEEP_END (R309). -/
  | flushSweepEnd (b : BitVec 14)
  /-- DTM_SELECT (R325). -/
  | dtmSelect (p : Fin 64)
  /-- DTM_CALENDAR_SLOT (R328). -/
  | dtmCalendarSlot (slot : Fin 131072)
  /-- DTM_SWEEP_SAMPLE (R335). -/
  | dtmSweepSample (h : BitVec 20)
  /-- WATCH_SAMPLE (R336). -/
  | watchSample (w : BitVec 12)
  /-- LANE_DRAIN_END (R120). -/
  | laneDrainEnd (p : Fin 64) (lane : Lane)
  /-- EGRESS_SELECT (R364). -/
  | egressSelect (u : Fin 32)
  /-- PAUSE_HOLD_EXPIRY (R365). -/
  | pauseHoldExpiry (u : Fin 32) (q : Option (Fin 8))
  /-- RX_FIFO_THRESHOLD (R367). -/
  | rxFifoThreshold (u : Fin 32)
  /-- PAUSE_REPEAT (R367). -/
  | pauseRepeat (u : Fin 32)
  /-- PREEMPT_VERIFY (R369). -/
  | preemptVerify (u : Fin 32) (answered : Bool)
  /-- GATE_ENTRY_CHANGE (R371). -/
  | gateEntryChange (u : Fin 32)
  /-- GATE_LIST_START (R372). -/
  | gateListStart (u : Fin 32)
  /-- LANE_SIGNAL_LOSS (R348). -/
  | laneSignalLoss (l : SerialLane)
  /-- LANE_SIGNAL_RETURN (R348). -/
  | laneSignalReturn (l : SerialLane)
  /-- LANE_LOCK_LOSS (R359). -/
  | laneLockLoss (l : SerialLane)
  /-- RELOCK_TIMEOUT (R359). -/
  | relockTimeout (l : SerialLane)
  /-- LADDER_MESSAGE (R351). -/
  | ladderMessage (l : SerialLane) (msg : Bytes)
  /-- LADDER_STEP_TIMEOUT (R351). -/
  | ladderStepTimeout (l : SerialLane) (relocked : Bool)
  /-- LISTEN_RETRY (R353). -/
  | listenRetry (l : SerialLane)
  /-- CL73_TRAINING_TIMEOUT (R355). -/
  | cl73TrainingTimeout (u : Fin 32)
  /-- LIVE_HOLD_EXPIRY (R357). -/
  | liveHoldExpiry (u : Fin 32)
  /-- UPLINK_DRAIN_END (R362). -/
  | uplinkDrainEnd (u : Fin 32)
  /-- LAMP_CHECK_SEND (R385). -/
  | lampCheckSend (path : Path)
  /-- LAMP_CHECK_RECEIVE (R385). -/
  | lampCheckReceive (path : Path) (msg : Bytes)
  /-- PATH_LOSS (R385). -/
  | pathLoss (path : Path) (valid : Bool)
  /-- MATE_ISOLATED (R392). -/
  | mateIsolated
  /-- NOBURST_WATCHDOG (R396). -/
  | noburstWatchdog (p : Fin 64)
  /-- MIRROR_RECORD_RECEIVE (R384). -/
  | mirrorRecordReceive (p : Fin 64) (m : MirrorRecord)
  /-- FAILOVER_END (R399). -/
  | failoverEnd (p : Fin 64)
  /-- PPS_IN_EDGE (R407). -/
  | ppsInEdge
  /-- PPS_WINDOW_END (R409). -/
  | ppsWindowEnd
  /-- SERVO_STEP (R408). -/
  | servoStep
  /-- TOD_IN_MESSAGE (R411). -/
  | todInMessage (msg : Bytes)
  /-- TOD_IN_SECONDS_STEP (R412). -/
  | todInSecondsStep
  /-- TOD_STEP_INSTANT (R413). -/
  | todStepInstant
  /-- TIME_10M_LOSS (R405). -/
  | time10mLoss
  /-- TIME_10M_QUALIFIED (R405). -/
  | time10mQualified
  /-- PULSE_OUTPUT_FIRE (R419). -/
  | pulseOutputFire (n : Fin 8)
  /-- SRAM_READ_ERROR (R428). -/
  | sramReadError (loc : Dword) (mem : OnChip) (raw : BitVec 39)
  /-- DRAM_FREEZE (R437). -/
  | dramFreeze (s : Fin 8) (e : DramError)
  /-- DDR_ALERT (R480). -/
  | ddrAlert (line : Bool) (parity : Byte) (cmdNow : Half)
  /-- SCRUB_PASS (R429). -/
  | scrubPass (loc : Dword) (word : ScrubWord)
  /-- REFRESH_TICK (R433). -/
  | refreshTick (s : Fin 8)
  /-- MR4_POLL (R435). -/
  | mr4Poll (s : Fin 8) (mr4 : Byte) (hot : Bool)
  /-- REAL_TIME_BURST (R434). -/
  | realTimeBurst (s : Fin 8) (granules activates ticks tookNs : Nat)
  /-- ROW_REPAIR_DONE (R444). -/
  | rowRepairDone (loc : Dword)
  /-- ARRAY_REPAIR_DONE (R445). -/
  | arrayRepairDone (loc : Dword)
  /-- THAW_COPY_DONE (R440). -/
  | thawCopyDone (s : Fin 8) (bad : List Dword)
  /-- LEDGER_WRITE (R446). -/
  | ledgerWrite
  /-- COUNTER_GATHER (R451). -/
  | counterGather (idx : BitVec 25)
  /-- SNAPSHOT_INSTANT (R455). -/
  | snapshotInstant
  /-- SNAPSHOT_COPY_DONE (R455). -/
  | snapshotCopyDone
  /-- WINDOW_END (R457). -/
  | windowEnd (x : Fin 96)
  /-- TEMP_SENSOR_READ (R497). -/
  | tempSensorRead (t : List (BitVec 10))
  /-- I2C_MASTER_FAULT (R28). -/
  | i2cMasterFault (c : Fin 16)
  /-- LANE_LOCK (R347). -/
  | laneLock (l : SerialLane)
  /-- RS_FAULT_CHANGE (R358). -/
  | rsFaultChange (u : Fin 32) (localF remoteF : Bool)
  /-- CL73_AUTONEG_DONE (R355). -/
  | cl73AutonegDone (u : Fin 32) (res : An73)
  /-- LADDER_MESSAGE_SEND (R350). -/
  | ladderMessageSend (l : SerialLane)
  /-- MARCH_TEST_DONE (R442). -/
  | marchTestDone (o : RepairUnit) (bad : List Dword) (pass : Bool)
  /-- TCK_EDGE (R495). -/
  | tckEdge (tms tdi : Bool)
  deriving DecidableEq, Repr

end Sys2Proof
end

