-- ==== Sys2Proof/Machine/Basics.lean ====
section
/-! DEFINITION. Helpers every unit uses: sparse storage in canonical form, little- and big-endian bytes, rounding,
signed fields. -/
namespace Sys2Proof.Machine
open Sys2Proof

/-- What key `k` holds: the listed value, or what an unlisted key holds. -/
def sget {α : Type} (dflt : Nat → α) : Sparse α → Nat → α
  | [], k => dflt k
  | (j, v) :: m, k => if j = k then v else sget dflt m k

/-- Removes key `k`. -/
def sdel {α : Type} : Sparse α → Nat → Sparse α
  | [], _ => []
  | (j, v) :: m, k => if j = k then sdel m k else (j, v) :: sdel m k

/-- Lists value `v` at key `k`, keys rising. -/
def sput {α : Type} : Sparse α → Nat → α → Sparse α
  | [], k, v => [(k, v)]
  | (j, w) :: m, k, v => if k < j then (k, v) :: (j, w) :: m else if k = j then (k, v) :: m else (j, w) :: sput m k v

/-- Writes key `k`, keeping the canonical form: a value that an unlisted key holds is not listed. -/
def sset {α : Type} [DecidableEq α] (dflt : Nat → α) (m : Sparse α) (k : Nat) (v : α) : Sparse α :=
  if v = dflt k then sdel m k else sput m k v

/-- Removes every key for which `p` holds. -/
def sclear {α : Type} (p : Nat → Bool) (m : Sparse α) : Sparse α := m.filter (fun e => !p e.1)

/-- Keys rising strictly from above `lo`, and nothing listed that an unlisted key holds. -/
def swfFrom {α : Type} [DecidableEq α] (dflt : Nat → α) : Option Nat → Sparse α → Bool
  | _, [] => true
  | lo, (j, v) :: m => (lo.all fun i => decide (i < j)) && !decide (v = dflt j) && swfFrom dflt (some j) m

/-- The canonical form. -/
def swf {α : Type} [DecidableEq α] (dflt : Nat → α) (m : Sparse α) : Bool := swfFrom dflt none m

/-- Replaces element `k` of a list by its image. -/
def modAt {α : Type} (f : α → α) : List α → Nat → List α
  | [], _ => []
  | x :: xs, 0 => f x :: xs
  | x :: xs, k + 1 => x :: modAt f xs k

/-- `n` bytes of `v`, least significant first (R11). -/
def le (n : Nat) (v : Nat) : Bytes :=
  match n with
  | 0 => []
  | k + 1 => BitVec.ofNat 8 v :: le k (v / 256)

/-- `n` bytes of `v`, most significant first (R11: network order). -/
def be (n : Nat) (v : Nat) : Bytes := (le n v).reverse

/-- Bytes to a number, least significant first. -/
def ofLe : Bytes → Nat
  | [] => 0
  | b :: bs => b.toNat + 256 * ofLe bs

/-- Bytes to a number, most significant first. -/
def ofBe (bs : Bytes) : Nat := ofLe bs.reverse

/-- Bytes `o` to `o + n - 1` of a structure, zero beyond its end. -/
def bslice (bs : Bytes) (o n : Nat) : Bytes :=
  let r := (bs.drop o).take n
  r ++ List.replicate (n - r.length) 0

/-- The little-endian field of `n` bytes at offset `o`. -/
def fld (bs : Bytes) (o n : Nat) : Nat := ofLe (bslice bs o n)

/-- The network-order field of `n` bytes at offset `o`. -/
def nfld (bs : Bytes) (o n : Nat) : Nat := ofBe (bslice bs o n)

/-- One byte at offset `o`, zero beyond the end. -/
def byteAt (bs : Bytes) (o : Nat) : Byte := bs.getD o 0

/-- Writes `v` over the bytes from offset `o`. -/
def patch (bs : Bytes) (o : Nat) (v : Bytes) : Bytes :=
  let base := bs ++ List.replicate (o - bs.length) 0
  base.take o ++ v ++ base.drop (o + v.length)

/-- Pads a structure with zero bytes to `n` bytes, or cuts it there. -/
def padTo (n : Nat) (bs : Bytes) : Bytes := bslice bs 0 n

/-- Bits [hi:lo] of a number (R9). -/
def bitsOf (v hi lo : Nat) : Nat := v / 2 ^ lo % 2 ^ (hi - lo + 1)

/-- Bit `i` of a number. -/
def bitOf (v i : Nat) : Bool := v / 2 ^ i % 2 == 1

/-- 1 for true, 0 for false. -/
def b2n (b : Bool) : Nat := if b then 1 else 0

/-- A 32-bit two's complement field. -/
def sint32 (v : Nat) : Int := (BitVec.ofNat 32 v).toInt

/-- The 32-bit two's complement field of an integer. -/
def uns32 (i : Int) : Nat := (BitVec.ofInt 32 i).toNat

/-- Ceiling of `a / b` (0 when `b` is 0). -/
def ceilDiv (a b : Nat) : Nat := if b = 0 then 0 else (a + b - 1) / b

/-- `a / b` rounded to the nearest whole number, a tie going to the smaller value. -/
def roundTieDown (a : Int) (b : Nat) : Int := (2 * a + b - 1).fdiv (2 * b)

/-- `a / b` truncated toward zero. -/
def truncDiv (a : Int) (b : Nat) : Int := Int.tdiv a b

/-- Saturating 32-bit sum. -/
def sat32 (a b : Nat) : Nat := min (a + b) 4294967295

/-- Removes the first element for which `p` holds. -/
def dropFirst {α : Type} (p : α → Bool) : List α → List α
  | [] => []
  | x :: xs => if p x then xs else x :: dropFirst p xs

/-- Applies `f` to every element for which `p` holds. -/
def modWhere {α : Type} (p : α → Bool) (f : α → α) (l : List α) : List α := l.map fun x => if p x then f x else x

/-- Insertion into a list sorted by a strict order. -/
def insertBy {α : Type} (lt : α → α → Bool) (x : α) : List α → List α
  | [] => [x]
  | y :: ys => if lt x y then x :: y :: ys else y :: insertBy lt x ys

/-- Insertion sort, stable. -/
def sortBy {α : Type} (lt : α → α → Bool) (l : List α) : List α := l.foldl (fun acc x => insertBy lt x acc) []

end Sys2Proof.Machine
end

