-- ==== Sys2Proof/Machine/UnitsPort.lean ====
section
/-! DEFINITION. The state of a tree port and of the units of its cluster (chapters 03 to 08): lanes, keys, profiles, ranging,
allocation records, map builder, upstream path, winders, LDPC decoders, pools, profilers. Default field values are reset values. -/
namespace Sys2Proof.Machine
open Sys2Proof

/-- A burst profile (Table 3-5); not VALID after reset. -/
structure Profile where
  valid : Bool := false
  fec : Bool := false
  lane : Lane := .main
  rate : Nat := 0
  preLen : Nat := 0
  patLen : Nat := 0
  delLen : Nat := 0
  pattern : Dword := 0
  delim : Dword := 0
  guardBits : Nat := 0
  deriving DecidableEq, Repr

/-- A frame in the downstream buffer of a lane (R95): flow handle, bytes still to send with their FCS, inject flight. -/
structure DsFrame where
  flow : Nat
  data : Bytes
  inj : Option Nat := none
  begun : Bool := false
  deriving DecidableEq, Repr

/-- A PLOAM message of the device's own or of the host (R105, R106, R109, chapter 04). -/
inductive Ploam where
  | assign (term : Nat) (serial : Dword)
  | rangingTime (term : Nat) (eqd : Int)
  | deactivate (term : Nat)
  | snGrant (eqdPre : Int)
  | announce (profile : Nat)
  | host (term : Nat) (msg : Bytes)
  deriving DecidableEq, Repr

/-- A host PLOAM message queued or waiting for a place in the queue (R108). -/
structure HostPloam where
  tag : Tag
  term : Nat
  msg : Bytes
  deriving DecidableEq, Repr

/-- State of a lane (Table 3-14). -/
inductive LaneState where
  | off
  | dark
  | lit
  | draining
  deriving DecidableEq, Repr

/-- A window request of ranging or discovery (R134, R138); requests are kept oldest first. `id` names the ranging attempt or the discovery
programme it belongs to. -/
structure RngReq where
  lane : Lane
  ranging : Bool
  wUs : Nat
  prof : Nat
  term : Nat
  far : Nat := 0
  id : Nat := 0
  deriving DecidableEq, Repr

/-- A grant in a map (R175, Table 7-4), with the profile content it was accepted under (R104). -/
structure Grant where
  ri : Nat
  allocId : Nat
  term : Nat
  lane : Lane
  cls : Nat
  start : Nat
  size : Nat
  profIx : Nat
  prof : Profile
  ploamUp : Bool := false
  rptReq : Bool := false
  wake : Bool := false
  witness : Bool := false
  deriving DecidableEq, Repr

/-- A window in a map (R135, R232): its request, start word, first occupied word and length in words; the profile content it was placed
under (R104) and the EqD_pre sent with it (R130, R135). -/
structure Win where
  req : RngReq
  s : Nat
  o : Nat
  len : Nat
  prof : Profile := {}
  pre : Int := 0
  deriving DecidableEq, Repr

/-- The map of one lane in the map builder (R172, R233). -/
structure MapB where
  grants : List Grant := []
  wins : List Win := []
  tail : Nat := 0
  deriving DecidableEq, Repr

/-- The discovery programme of a lane (R133, R134). -/
structure DiscProg where
  running : Bool := false
  prof : Nat := 0
  window : Nat := 250
  far : Nat := 0
  period : Nat := 8
  count : Nat := 0
  placed : Nat := 0
  wait : Nat := 0
  id : Nat := 0
  deriving DecidableEq, Repr

/-- One of the two lanes of a tree port. -/
structure LaneS where
  st : LaneState := .off
  gen : Nat := 0
  pend : Nat := 0
  darkSent : Bool := false
  los : Bool := false
  losCount : Nat := 0
  missCount : Nat := 0
  hostQ : List HostPloam := []
  hostWait : List HostPloam := []
  rngQ : List Ploam := []
  annNext : Nat := 0
  annPrio : Nat := 0
  buf : List DsFrame := []
  brstStart : Int := 0
  brstEnd : Option Int := none
  map : MapB := {}
  sealed : Option MapB := none
  prevFixed : List Grant := []
  prevEnd : Int := 0
  tail : Nat := 0
  disc : DiscProg := {}
  discPend : Option (Tag × DiscProg) := none
  winsOut : List (Nat × Win) := []
  acqSfc : Nat := 0
  acqEnd : Option Int := none
  deriving DecidableEq, Repr

/-- The two unicast key slots of a terminal (R98). -/
structure KeySlots where
  k0 : BitVec 128 := 0
  k1 : BitVec 128 := 0
  use1 : Bool := false
  deriving DecidableEq, Repr

/-- A broadcast key slot with its key index on the wire (R100, R102). -/
structure BcastKey where
  key : BitVec 128 := 0
  idx : Nat := 0
  deriving DecidableEq, Repr

/-- The ranging state of a terminal (Table 4-7) with its tracking state (R145 to R148). -/
structure Term where
  state : Nat := 0
  lane : Lane := .main
  limit : Bool := false
  trackFail : Bool := false
  silent : Bool := false
  risk : Bool := false
  serial : Dword := 0
  rtd : Int := 0
  eqd : Int := 0
  eqdBase : Int := 0
  eqdPend : Int := 0
  lastD : Int := 0
  tresp : Nat := 0
  dsDelay : Int := 0
  lastSfc : Nat := 0
  sends : Nat := 0
  corrFrames : Nat := 0
  corrSfc : Nat := 0
  missRun : Nat := 0
  heard : Bool := false
  deriving DecidableEq, Repr

/-- A trunk entry (R152) with its re-route state per lane and its KNOWN flags before the step (R153). -/
structure Trunk where
  dly : Int := 0
  asymM : Int := 0
  asymC : Int := 0
  knownM : Bool := false
  knownC : Bool := false
  rerouteM : Bool := false
  rerouteC : Bool := false
  wasM : Bool := false
  wasC : Bool := false
  deriving DecidableEq, Repr

/-- A ranging attempt of RNG_TERMINAL_ADD (Table 4-3): its window step, 3 or 6, and the windows passed without response. -/
structure Attempt where
  tag : Tag
  id : Nat := 0
  term : Nat
  lane : Lane
  randKnown : Bool
  prof : Nat
  hint : Int
  er : Int
  step6 : Bool := false
  tries : Nat := 0
  rtd : Int := 0
  eqd : Int := 0
  posted : Bool := false
  deriving DecidableEq, Repr

/-- A step watch (R149): frame starts left and the latest d of each terminal. -/
structure Watch where
  left : Nat
  kept : List (Nat × Int)
  deriving DecidableEq, Repr

/-- A trunk command waiting for the next frame start (R153): RNG_TRUNK_SET values, or none for RNG_TRUNK_CONFIRM. -/
structure TrunkPend where
  tag : Tag
  trunk : Nat
  vals : Option (Int × Int × Int × Bool × Bool)
  deriving DecidableEq, Repr

/-- A pending key command (R99, R101, R102). -/
inductive KeyPend where
  | load (tag : Tag) (term : Nat) (slot1 : Bool) (key : BitVec 128)
  | bcast (tag : Tag) (slot : Nat) (idx : Nat) (key : BitVec 128)
  | switch (tag : Tag) (term : Nat) (slot1 : Bool) (sfc : Nat)
  deriving DecidableEq, Repr

/-- A report in the report queue (R170): record, bytes, superframe counter. -/
structure Rpt where
  ri : Nat
  bytes : Nat
  sfc : Nat
  deriving DecidableEq, Repr

/-- A slot of the image store (R187, Table 7-6). `bad`: it breaks Table 5-12 or 7-9, or was never loaded. -/
structure Image where
  bad : Bool := true
  code : List Word := []
  data : Bytes := []
  version : Nat := 0
  entry : Nat := 0
  deriving DecidableEq, Repr

/-- A WND_SWAP waiting for its frame (R188). -/
structure SwapReq where
  tag : Tag
  initData : Bool
  clearSched : Bool
  sfc : Nat
  deriving DecidableEq, Repr

/-- Why the map of a frame was not sealed by SEAL (Table 5-7). -/
inductive RunEnd where
  | none
  | running
  | sealedOk
  | halted
  | faulted
  deriving DecidableEq, Repr

/-- The winder side of a tree port (chapters 05 and 07). The field `winder` of port p resets to 5 (p div 4) + p mod 4. `wild`: a mistake of
the active image or of its program leaves the maps open until another image is active (Tables 5-12, 6-21); `calOpen`: the link words of
the calendar are not those of Table 7-9; `odd`: a record has fields outside Table 5-2; `past`: the seal point of this frame has passed. -/
structure WndPort where
  winder : Nat := 0
  half : Bool := false
  image : Bool := false
  img0 : Image := {}
  img1 : Image := {}
  swap : Option SwapReq := none
  firstSfc : Nat := 0
  alloc : Sparse Word := []
  admitSeq : Word := 0
  allocPend : List (Tag × Nat × Option Bytes) := []
  rptQ : List Rpt := []
  rptSet : List Rpt := []
  rptFetched : List Rpt := []
  v : Word := 0
  shift : Nat := 8
  cal : Sparse CalSlot := []
  ckpts : List Ckpt := []
  ckptPend : Option Ckpt := none
  ckptRpts : List Rpt := []
  run : RunEnd := .none
  runSfc : Nat := 0
  marks : List (Nat × Nat) := []
  sealCyc : Nat := 0
  lastMissed : Bool := false
  noWitness : Bool := false
  witEn : Bool := true
  witGap : Nat := 10
  witProf : Nat := 0
  witPend : Option (Tag × Bool × Nat × Nat) := none
  takeover : Option (Nat × Nat) := none
  faultNext : Bool := false
  cutDone : Bool := false
  past : Bool := false
  wild : Bool := false
  calOpen : Bool := false
  odd : Bool := false
  deriving DecidableEq, Repr

/-- A service flow record (Table 8-2) with its upstream policer (R257): CIR in 64 kb/s, CBS in bytes, T in 10^-6 bytes
at time-base cycle `tAt`. -/
structure Flow where
  wireId : Nat := 0
  term : Nat := 0
  lane : Nat := 0
  flags : Byte := 0
  slot : Byte := 0
  cir : Nat := 0
  cbs : Nat := 0
  t : Nat := 0
  tAt : Nat := 0
  deriving DecidableEq, Repr

/-- The reassembly state of a flow (R254): bytes so far, its allocation, frames since the last burst of it. -/
structure Reasm where
  data : Bytes
  allocId : Nat
  lane : Lane
  idle : Nat
  deriving DecidableEq, Repr

/-- An acquisition slot (chapter 08): the grant, the frame whose header carried it, and how far it has come: codewords still in the decoder
pool, the first one lost (R249), the uncorrectable ones (R246). -/
structure AcqSlot where
  id : Nat
  g : Grant
  sfc : Nat
  pulsed : Bool := false
  received : Bool := false
  stamp : Dword := 0
  cwLeft : Nat := 0
  cwLost : Option Nat := none
  uncorr : List Nat := []
  deriving DecidableEq, Repr

/-- The tally of one lane's upstream frame (R113, R148, R262); `res` holds, per burst settled, its slot, whether it was received,
and the CRC-32 of its decrypted payload (Table 13-4). -/
structure FrameTally where
  lane : Lane
  sfc : Nat
  left : Nat
  missed : Nat := 0
  first : Nat := 0
  sampled : Nat := 0
  sdSeen : Bool := false
  rngBursts : Nat := 0
  rngMeasured : Nat := 0
  rngSd : Nat := 0
  res : List (Nat × Bool × Word) := []
  deriving DecidableEq, Repr

/-- A missed-burst log entry (Table 8-4). -/
structure MbEntry where
  ri : Nat := 0
  allocId : Nat := 0
  lane : Nat := 0
  cause : Nat := 0
  isPartial : Bool := false
  sfc : Nat := 0
  deriving DecidableEq, Repr

/-- The upstream path of a tree port (chapter 08). -/
structure UpsPort where
  ctrl : Word := 0x25800002#32
  flows : Sparse Flow := []
  dsFlows : Sparse Flow := []
  dsPend : List (Nat × Flow) := []
  reasm : Sparse (Option Reasm) := []
  slots : List AcqSlot := []
  slotNext : Nat := 0
  frames : List FrameTally := []
  mbLog : Sparse MbEntry := []
  widx : Word := 0
  deriving DecidableEq, Repr

/-- The frame tick of a region (R93): device time of the last one in units of 2^-32 ns, and how many there have been. -/
structure Tick where
  at0 : Nat := 0
  n : Nat := 0
  deriving DecidableEq, Repr

/-- A grant as the TC layer's map carries it (R175): ALLOC_ID, start, size or GPON stop, profile, flags. -/
structure WireGrant where
  allocId : Nat
  start : Nat
  ext : Nat
  prof : Nat
  ploamUp : Bool
  rptReq : Bool
  wake : Bool
  deriving DecidableEq, Repr

/-- A tree port (chapters 03 to 08); `fnAt` is the device time of its last frame start in units of 2^-32 ns, `tickN` the region tick it
followed. `hold`: R32 holds its lasers
off for a fault whose scope is 1 the tree port or a unit, 2 the cluster, 3 the region, 4 the port die. -/
structure Port where
  losFrames : Byte := 0x08#8
  brstM : Word := 0x00000C10#32
  brstC : Word := 0x00000C10#32
  rssiTerm : Nat := 0
  rssiArm : Bool := false
  rssiDone : Bool := false
  rssiTime : Word := 0x00640000#32
  ofs : Word := 0
  ofsInForce : Word := 0
  sfc : Nat := 0
  counting : Bool := false
  fresh : Bool := false
  fnAt : Nat := 0
  tickN : Nat := 0
  fence : Bool := false
  fenceAt : Option Nat := none
  firedAt : Option Nat := none
  main : LaneS := {}
  comp : LaneS := {}
  gponFec : Bool := false
  gponFecPend : Bool := false
  drainWait : List (Tag × Bool × Bool) := []
  enableWait : List (Tag × Bool × Bool) := []
  keys : Sparse KeySlots := []
  keyPend : List KeyPend := []
  bcast : Sparse BcastKey := []
  profs : Sparse Profile := []
  profPend : List (Tag × Nat × Profile) := []
  rngCtrl : Word := 0x00000003#32
  teqd : Word := 0x1E600000#32
  teqdAdj : Int := 0
  terms : Sparse Term := []
  trunk0 : Trunk := {}
  trunk1 : Trunk := {}
  trunkPend : List TrunkPend := []
  watch : Option Watch := none
  framesSinceRole : Nat := 8
  rngReqs : List RngReq := []
  reqSeq : Nat := 0
  attempts : List Attempt := []
  removes : List (Tag × Nat) := []
  wnd : WndPort := {}
  ups : UpsPort := {}
  hold : Nat := 0
  deriving DecidableEq, Repr

/-- An entry of the loop stack (R209). -/
structure LoopEnt where
  start : Nat
  stop : Nat
  left : Nat
  deriving DecidableEq, Repr

/-- A winder (chapter 06): Table 5-11, Table 6-1, its memories, and the issue state of R197, R198 and R220. Keys of `ready`
are 0-31 for g, 32-47 for v, 48-51 for p. Cycles count from the program start of the run. `late`: the seal point ended its last run, so
that a GRANT or RNGWIN on its way to the map builder comes after the map is closed (R163). -/
structure Winder where
  st : Nat := 0
  port : Nat := 0
  cause : Nat := 0
  selfTest : Bool := false
  running : Bool := false
  late : Bool := false
  pc : BitVec 12 := 0
  g : Sparse Word := []
  v : Sparse Word := []
  p : Sparse Byte := []
  loops : List LoopEnt := []
  cyc0 : Nat := 0
  rem0 : Nat := 0
  cycle : Nat := 0
  ready : Sparse Nat := []
  portFree : Nat := 0
  loads : List Nat := []
  calFree : Nat := 0
  localFree : Nat := 0
  frameNo : Word := 0
  sfc : Nat := 0
  allocN : Nat := 0
  imem : Sparse Word := []
  lmem : Sparse Word := []
  deriving DecidableEq, Repr

/-- A codeword in a decoder pool (R245): port, acquisition slot, index within the burst. -/
structure Codeword where
  port : Nat
  slot : Nat
  idx : Nat
  deriving DecidableEq, Repr

/-- An LDPC decoder (Table 8-8): the codeword it holds and the cap on its iterations (R246). -/
structure Decoder where
  st : Nat := 0
  cause : Nat := 0
  selfTest : Bool := false
  held : Option Codeword := none
  cap : Nat := 0
  deriving DecidableEq, Repr

/-- A profiler record (R460, Table 16-5). -/
structure ProfRec where
  pc : Nat
  marker : Bool
  lat : Nat := 0
  word : Word
  issue : Nat
  winder : Nat
  sfc : Nat
  deriving DecidableEq, Repr

/-- What TAL_PROFILE_START asks for (Table 16-2). -/
structure ProfSet where
  port : Nat := 0
  mode : Nat := 0
  ring : Bool := false
  lo : Nat := 0
  hi : Nat := 0
  every : Nat := 0
  startSfc : Nat := 0
  frames : Nat := 0
  deriving DecidableEq, Repr

/-- A module-management transfer (R124). -/
structure I2cJob where
  tag : Tag
  port : Nat
  op : Nat
  addr : Nat
  ofs : Nat
  len : Nat
  data : Bytes
  deriving DecidableEq, Repr

/-- The winder profiler of a cluster (R459 to R462): the recording in force, the buffer oldest first, the command that waits for
its program start; `opn` newest records wait for their LAT, which counts from cycle `opnAt`. -/
structure Profiler where
  on : Bool := false
  set : ProfSet := {}
  pend : Option (Tag × ProfSet) := none
  wrapped : Bool := false
  recs : List ProfRec := []
  reason : Nat := 0
  runs : Nat := 0
  firstSfc : Nat := 0
  lastSfc : Nat := 0
  cnt : Nat := 0
  opn : Nat := 0
  opnAt : Nat := 0
  deriving DecidableEq, Repr

/-- The pieces a cluster holds in common: decoder pool (R245, R246), module-management I2C master (R124, R28), winder profiler. `arriving`
lists the codewords of acquired bursts that have not reached the queue, with the time-base cycle at which the last bit of each is in. -/
structure Cluster where
  queue : List Codeword := []
  arriving : List (Nat × Codeword) := []
  iterMax : Byte := 0x0A#8
  qMax : Nat := 0
  i2cFailed : Bool := false
  i2cQ : List I2cJob := []
  prof : Profiler := {}
  deriving DecidableEq, Repr

end Sys2Proof.Machine
end

