-- ==== Sys2Proof/Machine/UnitsSys.lean ====
section
/-! DEFINITION. The state of the units that are not tied to one tree: rings and banksman (chapter 02), drifts and faults
(chapter 01), protection (chapter 13), local counters (chapter 16). Default field values are reset values. -/
namespace Sys2Proof.Machine
open Sys2Proof

/-- How far an accepted command has come (R57, R59): held back by its ring, started but waiting for its object, running. -/
inductive Phase where
  | held
  | started
  | running
  deriving DecidableEq, Repr

/-- An accepted command that has not completed (R57, R58): its tag, object, opcode, itself, and a value its family keeps. -/
structure Active where
  tag : Tag
  obj : Word
  opc : Nat
  cmd : Instr
  phase : Phase
  aux : Nat := 0
  deriving DecidableEq, Repr

/-- How far the unpredictable result of a mistake may extend (R87 and the mistake tables of the chapters). -/
inductive Reach where
  /-- Any object of the package (Table 2-18). -/
  | package
  /-- A tree port: lanes, sideband, terminals, records and frames (Tables 3-19, 4-12, 5-12, 8-10). -/
  | tree (p : Nat)
  /-- The maps and seals of a tree port, and the winder that serves it (Tables 5-12, 6-21). -/
  | maps (p w : Nat)
  /-- The calendar of a tree port (Table 7-9). -/
  | calendar (p w : Nat)
  /-- The fixed grants of a tree port and its CUT bits (Table 7-9). -/
  | fixed (p w : Nat)
  /-- The I2C bus of a tree port (Table 3-19): what stands on the wire. -/
  | i2c (p : Nat)
  /-- Both stores of a rule set (Table 9-17). -/
  | ruleSet (k : Nat)
  /-- An indirection table (Table 9-17). -/
  | indir (t : Nat)
  /-- The learnt entries of a domain (Table 10-13). -/
  | learnt (b : Nat)
  /-- The nodes below a generation node (Table 11-11). -/
  | nodes (g : Nat)
  /-- The buffer partitions; with the watch slots (Table 11-11). -/
  | parts (watches : Bool)
  /-- Uplink lanes and ports of the quads from lane `lo` to below `hi` (Table 12-14). -/
  | quads (lo hi : Nat)
  /-- One uplink port (Table 12-14). -/
  | uplink (u : Nat)
  /-- Device time (Table 14-9). -/
  | time
  /-- One pulse output (Table 14-9). -/
  | output (n : Nat)
  /-- The spare rows of the ledger (Table 15-16). -/
  | spares
  /-- The scrub intervals (Table 15-16). -/
  | scrub
  /-- A bandwidth window (Table 16-11). -/
  | window (x : Nat)
  /-- The profiler of a cluster (Table 16-11). -/
  | profiler (c : Nat)
  /-- Host memory (Tables 2-18, 16-11). -/
  | host
  deriving DecidableEq, Repr

/-- A command ring (Table 2-13). -/
structure CmdRing where
  baseLo : Word := 0
  baseHi : Word := 0
  size : Nat := 0
  en : Bool := false
  pause : Bool := false
  paused : Bool := false
  halted : Bool := false
  rptr : Nat := 0
  wptr : Nat := 0
  expSeq : Word := 0
  gapSeq : Word := 0
  deriving DecidableEq, Repr

/-- A punt or inject ring (Table 2-13, Table 2-17), with the completed frames since its last message (R74) and, for an
inject ring, the frames sent towards an uplink port that have not left (R83). -/
structure PktRing where
  baseLo : Word := 0
  baseHi : Word := 0
  size : Nat := 0
  ctrl : Word := 0x00000100#32
  rptr : Nat := 0
  wptr : Nat := 0
  deriving DecidableEq, Repr

/-- An inject send in flight (R82 to R84): ring, first descriptor, FLAGS of its descriptors, frames that have not ended, its status once one of
them was given up, transmit stamp asked for and taken, and the uplink port it is bound for. -/
structure InjFlight where
  ring : Nat
  first : Nat
  flags : Bytes
  left : Nat
  status : Nat := 0
  stampReq : Bool
  stamp : Dword := 0
  port : Option Nat
  deriving DecidableEq, Repr

/-- An event the banksman has sequenced (Table 2-9). -/
structure EvEntry where
  seq : Word
  typ : Nat
  src : Nat
  urgent : Bool
  bytes : Bytes
  deriving DecidableEq, Repr

/-- A CMD_DONE that a command is ready to raise (Table 2-6). -/
structure Done where
  tag : Tag
  opc : Nat
  status : Nat
  result : Bytes
  time : Dword
  deriving DecidableEq, Repr

/-- What a running command asks of the banksman, in the order raised (R66, R67). -/
inductive BankOp where
  | event (typ src : Nat) (payload : Bytes) (time : Dword)
  | done (d : Done)
  | evtDoorbell (v : Nat) (time : Dword)
  | ringWrite
  | lostFlush (time : Dword)
  | timer (vec timeUs : Nat)
  | frameDone (vec count : Nat)
  | spoilRing (rptr wptr : Nat)
  | setEn (en : Bool) (time : Dword)
  | setReg (off : Nat) (v : Nat)
  | pcieReset
  | reset
  deriving DecidableEq, Repr

/-- A run of discarded events (R73); `due` once its CMD_EVT_LOST waits for space in the reserved part. -/
structure LostRun where
  n : Nat
  lastSeq : Word
  typ : Nat
  due : Bool := false
  deriving DecidableEq, Repr

/-- The banksman, the event ring and the MSI-X moderation (R66 to R74). -/
structure Bank where
  baseLo : Word := 0
  baseHi : Word := 0
  size : Nat := 0
  en : Bool := false
  wptr : Nat := 0
  rptr : Nat := 0
  rseq : Word := 0
  modr : Word := 0x00000001#32
  seq : Word := 0
  lastSeq : Word := 0xFFFFFFFF#32
  backlog : List EvEntry := []
  held : List Done := []
  lost : Option LostRun := none
  lostCnt : Word := 0
  count0 : Nat := 0
  time0 : Bool := false
  counts : Sparse Nat := []
  timers : Sparse Bool := []
  messages : List Nat := []
  deriving DecidableEq, Repr

/-- A drift (R19 to R23): lanes that have failed, spares in use as failed lane and spare, the states of R23 and R467, CRC failures as
lane and time-base cycle; the number of the next block, and the blocks whose check failed and that the sender holds until their
acknowledgement returns, as lane and number, in their original order. -/
structure Drift where
  failed : List Nat := []
  steered : List (Nat × Nat) := []
  silent : Bool := false
  held : Bool := false
  crcFails : List (Nat × Nat) := []
  next : Nat := 0
  unacked : List (Nat × Nat) := []
  deriving DecidableEq, Repr

/-- A local counter (R451): VAL and its carry-pending bit CP. -/
structure Ctr where
  val : Word := 0
  cp : Bool := false
  deriving DecidableEq, Repr

/-- A path to the mate (R385): lost, lanes locked, sequence numbers sent and received, consecutive valid and acknowledged lamp
checks while it is lost. -/
structure PathS where
  lost : Bool := true
  locked : Bool := false
  txSeq : Word := 0
  rxSeq : Word := 0
  good : Nat := 0
  deriving DecidableEq, Repr

/-- What the deputy round found in one frame (Table 13-8): map mismatches, bursts missed here, bursts compared, payload mismatches,
and mismatches of every check that counts. -/
structure FrameChk where
  map : Nat := 0
  missed : Nat := 0
  total : Nat := 0
  payload : Nat := 0
  all : Nat := 0
  deriving DecidableEq, Repr

/-- How far a planned switch or a release from dark hold has come (R389, R400): nothing planned; release at the next frame start;
released, the mate not yet shown active; light at the next frame start; a release asked for; promoted, its first burst awaited. -/
inductive Plan where
  | none
  | release
  | released
  | light
  | asked
  | promoted
  deriving DecidableEq, Repr

/-- What has arrived of the mirror of frame `sfc` (R384): frame record, report set, sealed maps, which lanes those grant bursts on; `pre`: some
of it came before the snapshot (R381). -/
structure MirGot where
  sfc : Nat
  frame : Bool := false
  reports : Bool := false
  maps : Bool := false
  mapM : Bool := false
  mapC : Bool := false
  pre : Bool := false
  deriving DecidableEq, Repr

/-- The protection state of one tree (Tables 13-2, 13-14, 13-15). `fenceBy` is the cause of MAT_RELEASED while the tree is fenced, 0 when R32 fenced it without a release;
`lightF` holds a promoted tree dark to its frame start (R389); `mateAdj` is the
mirrored RNG_TEQD_ADJ; `mir` and `brs` hold what arrived of the mirror of the last frames, `due` the frame whose mirror is judged next and the
active's next frame start after it, in units of 2^-32 ns of the own device time (R384). -/
structure TreeProt where
  role : Nat := 0
  failover : Bool := false
  plan : Plan := .none
  fenceBy : Nat := 0
  lightF : Bool := false
  snapshot : Bool := false
  kind4 : Bool := false
  heardAt : Option Nat := none
  shownAt : Option Nat := none
  owes : Bool := false
  mirror : Bool := false
  phase : Bool := false
  ckptOk : Bool := false
  cur : FrameChk := {}
  hist : List FrameChk := []
  sinceEv : Nat := 16
  mateAdj : Int := 0
  mir : List MirGot := []
  brs : List (Nat × Lane) := []
  due : Option (Nat × Int) := none
  start : Option (Nat × Nat × Nat) := none
  maps : Option (Nat × List MirGrant × List MirGrant) := none
  ckptNew : Option Ckpt := none
  ownRes : List (Nat × Lane × List (Bool × Word)) := []
  actRes : List (Nat × Lane × List (Bool × Word)) := []
  deriving DecidableEq, Repr

/-- The protection unit (chapter 13). `timeOfs` is MAT_TIME_OFS in ns; `mateStandby` has the trees on which the mate, joined, is not
active. -/
structure Prot where
  ctrl : Word := 0x00000001#32
  joined : Bool := false
  pkg : Nat := 0
  join : Option (Tag × Dword) := none
  dmp : PathS := {}
  hb : PathS := {}
  dmpRate : Nat := 0
  fenceOut : Bool := false
  isolated : Bool := false
  timeOfs : Int := 0
  mateActive : Dword := 0
  mateArmed : Dword := 0
  mateStandby : Dword := 0
  trees : Sparse TreeProt := []
  deriving DecidableEq, Repr

end Sys2Proof.Machine
end

