-- ==== Sys2Proof/Machine/UnitsBoard.lean ====
section
/-! DEFINITION. The state of the board side, the time unit, memory integrity and the tally reader (chapters 14 to 19). Default field
values are reset values. -/
namespace Sys2Proof.Machine
open Sys2Proof
/-- The variants of the family (Table 0-1). -/
inductive Variant where
  | skx6450
  | skx6410
  | skx3250
  | skx6450n
  deriving DecidableEq, Repr

/-- The states of a TAP controller (R495: IEEE 1149.1). -/
inductive TapState where
  | reset
  | idle
  | selDr
  | capDr
  | shiftDr
  | exit1Dr
  | pauseDr
  | exit2Dr
  | updDr
  | selIr
  | capIr
  | shiftIr
  | exit1Ir
  | pauseIr
  | exit2Ir
  | updIr
  deriving DecidableEq, Repr

/-- The TAP (R495): its state, whether IDCODE is the instruction in force, the data register being shifted (none: its bits are not
in the manual), how many bits of the instruction register have been shifted. -/
structure Tap where
  st : TapState := .reset
  idcode : Bool := true
  dr : Option (List Bool) := none
  irBits : Nat := 0
  deriving DecidableEq, Repr

/-- The board side of the package and the hub global and PAD registers (chapters 17 to 19): RESET_N, start-up steps done, FENCE_IN,
straps sampled, sensors in 0.25 degrees, service-port pointer and the time-base cycle since which RESET_N is high, rails up. -/
structure Board where
  resetN : Bool := true
  since : Nat := 0
  memInit : Bool := false
  driftA : Bool := false
  driftB : Bool := false
  pcieUp : Bool := false
  bootDone : Bool := false
  hostReset : Bool := false
  scratch : Word := 0
  diagSel : Word := 0
  ueSeen : Bool := false
  hostResetAt : Option Nat := none
  ueAt : Option Nat := none
  ueOfs : Nat := 0
  straps : BitVec 3 := 0
  padCtrl : Word := 0x0000016E#32
  temps : Sparse Int := []
  otArmed : Bool := true
  svcPtr : Word := 0
  fenceIn : Bool := false
  rails : List Rail := [.hub, .pa, .pb, .sram, .pon085, .eth085, .pon12, .eth12, .ddr, .io]
  tap : Tap := {}
  deriving DecidableEq, Repr

/-- A schedule of a pulse output (R419), in ns of device time; `next` is its next instant. A PERIOD of 0 means 2^32. -/
structure Sched where
  start : Nat
  periodic : Bool
  period : Nat
  width : Nat
  next : Nat
  deriving DecidableEq, Repr

/-- A pulse output (R419, R420): the schedule that runs, the one that awaits its first edge, and the time-base cycle at which the
pulse in progress ends. -/
structure Trig where
  act : Option Sched := none
  pend : Option Sched := none
  endAt : Nat := 0
  deriving DecidableEq, Repr

/-- A TOD_STEP that awaits its step instant (R413): set, or add; seconds and nanoseconds. -/
structure StepReq where
  tag : Tag
  isSet : Bool
  sec : Int
  ns : Int
  deriving DecidableEq, Repr

/-- The time unit (chapter 14). `frac` and FREQ count 2^-32 ns; `integ` is I in units of 2^-32 ppb. `last` is the stamp P of the last
accepted edge in ns, `big` and `good` count consecutive accepted edges above 1,000 ns and within 20 ns, `seen` is the cycle of the
last edge at the ball; `servo` and `secs` are steps that await their instant, `msg` the seconds of the last valid TOD_IN message. -/
structure TimeUnit where
  sec : Nat := 0
  ns : Nat := 0
  frac : Nat := 0
  freq : Int := 0
  integ : Int := 0
  ctrl : Word := 0x00003410#32
  locked : Bool := false
  holdover : Bool := false
  sysRef : Bool := true
  lost10m : Bool := false
  secValid : Bool := false
  adj : Word := 0
  last : Option Int := none
  err : Int := 0
  big : Nat := 0
  good : Nat := 0
  seen : Option Nat := none
  servo : Option Int := none
  msg : Option Nat := none
  secs : Option Int := none
  step : Option StepReq := none
  latFrac : Nat := 0
  latSec : Nat := 0
  trigs : Sparse Trig := []
  deriving DecidableEq, Repr
/-- A DRAM subchannel (Tables 15-5 and 15-15): state (0 in service, 1 frozen, 2 thawing, 3 retired), the capture block, corrections
since the last thaw, the thaw in progress. -/
structure Sub where
  st : Nat := 0
  hot : Bool := false
  debt : Nat := 0
  mr4 : Byte := 0
  capture : Option Bytes := none
  ce : Nat := 0
  thaw : Option Tag := none
  deriving DecidableEq, Repr

/-- Corrections of a row since its last repair (R440), and the bit corrected last, as word and column. -/
structure RowCnt where
  n : Nat := 0
  bit : Option (Nat × Nat) := none
  deriving DecidableEq, Repr

/-- A repair in progress (R444, R445): row or array, its location, the MEM_ROW_REPAIR that asked for it. -/
structure Repair where
  array : Bool
  loc : Dword
  tag : Option Tag
  deriving DecidableEq, Repr

/-- A record of the wear ledger (R446). -/
structure LedgerRec where
  loc : Dword
  kind : Nat
  hours : Nat
  deriving DecidableEq, Repr

/-- Counts of the ledger summary (Table 15-8): seconds of power, seconds per temperature range, words corrected and uncorrectable,
row and array repairs. -/
structure LedgerCnt where
  secs : Nat := 0
  temps : Sparse Nat := []
  ceChip : Nat := 0
  ceDram : Nat := 0
  ueChip : Nat := 0
  ueDram : Nat := 0
  rows : Nat := 0
  arrays : Nat := 0
  deriving DecidableEq, Repr

/-- The non-volatile store (R446): it survives every reset. Spare rows used by array and by DRAM bank, groups whose spare array is
used, units retired. -/
structure Ledger where
  cnt : LedgerCnt := {}
  recs : List LedgerRec := []
  spares : Sparse Nat := []
  groups : List Nat := []
  subs : List Nat := []
  winders : List Nat := []
  decs : List Nat := []
  drift : List (Nat × Nat) := []
  deriving DecidableEq, Repr

/-- Memory integrity (chapter 15). `cnt` holds the counts that the next periodic write stores. -/
structure Ddr where
  ctrl : Word := 0x00040C06#32
  ready : Bool := false
  nvmOk : Bool := false
  sparesOut : Bool := false
  sramS : Nat := 60
  dramH : Nat := 24
  cfg : Sparse Word := []
  subs : Sparse Sub := []
  rows : Sparse RowCnt := []
  repairs : List Repair := []
  march : List (Tag × RepairUnit) := []
  cnt : LedgerCnt := {}
  nv : Ledger := {}
  deriving DecidableEq, Repr

/-- Results of a bandwidth window (Table 16-4). -/
structure WinCtr where
  outB : Nat := 0
  outF : Nat := 0
  inB : Nat := 0
  inF : Nat := 0
  deriving DecidableEq, Repr

/-- The bandwidth window of a port (R457, R458): settings, start of the window in progress in ns of device time, its counts,
the results stored last, and those that the last read of TAL_WIN_SEQ latched. -/
structure BwWin where
  en : Bool := false
  evt : Bool := false
  ms : Nat := 0
  start : Nat := 0
  cur : WinCtr := {}
  last : WinCtr := {}
  seq : Word := 0
  latched : WinCtr := {}
  deriving DecidableEq, Repr

/-- A backing counter (R451): B, R (kept to 64 bits, so that R453 moves it without loss), the cycle of its last gather. -/
structure Backing where
  b : Dword := 0
  r : Dword := 0
  at0 : Option Nat := none
  deriving DecidableEq, Repr

/-- A snapshot that waits for T_S or is being copied (R455): its command, T_S in ns, first index, count, host address; once taken, the
subchannels out of service at T_S. -/
structure SnapReq where
  tag : Tag
  at0 : Nat
  first : Nat
  count : Nat
  addr : Nat
  taken : Bool := false
  dead : List Nat := []
  deriving DecidableEq, Repr

/-- The tally reader (chapter 16). Uplink port u has window 64 + u. -/
structure Tally where
  ctrl : Word := 0x00000001#32
  wins : Sparse BwWin := []
  back : Sparse Backing := []
  copy : Sparse Dword := []
  snap : Option SnapReq := none
  lastAt : Nat := 0
  invalid : Nat := 0
  gatherMax : Nat := 0
  deriving DecidableEq, Repr
end Sys2Proof.Machine
end

