-- ==== Sys2Proof/Machine/UnitsHub.lean ====
section
/-! DEFINITION. The state of the hub die's data path (chapters 09 to 12): classifier, service tables, traffic manager, uplink ports
and serial lanes. Default field values are reset values. -/
namespace Sys2Proof.Machine
open Sys2Proof

/-- A frame on its way into a forwarding pipeline (R260, R374, Table 2-12): pipeline, rule set 1 or 0, flow handle or uplink
port, terminal, bytes without FCS, receive stamp, and whether it was injected. -/
structure InFrame where
  pipe : Nat
  upstream : Bool
  num : Nat
  term : Nat
  data : Bytes
  stamp : Dword
  injected : Bool := false
  deriving DecidableEq, Repr

/-- A frame in a recirculation queue (R280): generation stamp and META of the second pass; whether an odd STRIP cut it (Table 9-17). -/
structure RecFrame where
  fr : InFrame
  gen : Nat
  md : Nat
  odd : Bool := false
  deriving DecidableEq, Repr

/-- A rule store (R281): head of each bank configuration, its layout in the low byte, comparators keyed 64 b + j (8 bytes), rules of 128 bytes by index, and how
many frames each rule has applied to (R287). -/
structure RuleStore where
  layout : Sparse Nat := []
  comps : Sparse Bytes := []
  rules : Sparse Bytes := []
  hits : Sparse Nat := []
  deriving DecidableEq, Repr

/-- A rule set (R281, R282, Table 9-14). -/
structure RuleSet where
  gen : Nat := 0
  old : Nat := 0
  swap : Option Tag := none
  st0 : RuleStore := {}
  st1 : RuleStore := {}
  parse : Word := 0x00100100#32
  stpid : Word := 0x00009100#32
  deriving DecidableEq, Repr

/-- The classifier (chapter 09). -/
structure Cls where
  pipeDown : List Nat := []
  inQ : List InFrame := []
  recQ : List RecFrame := []
  set0 : RuleSet := {}
  set1 : RuleSet := {}
  upDflt : Sparse Bytes := []
  dnDflt : Sparse Bytes := []
  indir : Sparse Nat := []
  hashSel : Sparse Word := []
  hashSeed : Sparse Word := []
  dead : List Nat := []
  live : Word := 0
  deriving DecidableEq, Repr

/-- An exact-match table (R295, R296): entries of 32 bytes keyed 4 x bucket + slot, the sump oldest first, and whether
TBL_TABLE_FULL has been raised since an entry was last freed. -/
structure ExTable where
  slots : Sparse Bytes := []
  sump : List Bytes := []
  fullSaid : Bool := false
  deriving DecidableEq, Repr

/-- A learn request (R304): address, domain, source in DEST format, terminal. -/
structure LearnReq where
  mac : Bytes
  dom : Nat
  dest : Nat
  term : Nat
  deriving DecidableEq, Repr

/-- A TBL_DOMAIN_FLUSH in progress (R309). -/
structure Flush where
  tag : Tag
  dom : Nat
  withStatic : Bool
  filter : Option Nat
  deriving DecidableEq, Repr

/-- The service tables (chapter 10). -/
structure Tbl where
  ctrl : Word := 0x0000012C#32
  doms : Sparse Bytes := []
  hold : Sparse Nat := []
  oddHold : List Nat := []
  epoch : Sparse Nat := []
  svc : ExTable := {}
  mac : ExTable := {}
  val : ExTable := {}
  learnQ : List LearnReq := []
  flushes : List Flush := []
  deriving DecidableEq, Repr

/-- A token bucket (R327): RATE in 64 kb/s, BURST in bytes, signed tokens (Table 11-6) in 10^-6 bytes at time-base cycle `tAt`. -/
structure Bucket where
  rate : Nat := 0
  burst : Nat := 0
  t : Int := 0
  tAt : Nat := 0
  deriving DecidableEq, Repr

/-- A frame in a flow queue: bytes, device time of its admission in ns, inject flight, an uncorrectable cell (Table 15-2). -/
structure QFrame where
  data : Bytes
  at0 : Nat
  inj : Option Nat := none
  bad : Bool := false
  deriving DecidableEq, Repr

/-- A flow queue (R318, Tables 11-6 and 11-7); `s` is the tag its next frame starts from (R324). -/
structure FlowQ where
  valid : Bool := false
  exp : Bool := false
  police : Bool := false
  parent : Nat := 0
  weight : Nat := 1
  qlim : Nat := 0
  cir : Nat := 0
  cbs : Nat := 0
  t : Nat := 0
  tAt : Nat := 0
  record : Bytes := []
  q : List QFrame := []
  s : Word := 0
  lastDepth : Nat := 0
  lastDelay : Nat := 0
  maxDepth : Nat := 0
  maxDelay : Nat := 0
  deriving DecidableEq, Repr

/-- A terminal node (R318, R331). -/
structure TermNode where
  valid : Bool := false
  lane : Nat := 0
  term : Nat := 0
  weight : Nat := 1
  prec : Nat := 0
  admitSeq : Word := 0
  peak : Bucket := {}
  min : Bucket := {}
  minEff : Nat := 0
  cut : Bool := false
  v : Word := 0
  s : Word := 0
  deriving DecidableEq, Repr

/-- A generation node or a port output (R317). -/
structure TopNode where
  weight : Nat := 1
  peak : Bucket := {}
  v : Word := 0
  s : Word := 0
  deriving DecidableEq, Repr

/-- A watch slot (R336, Table 11-6). -/
structure WatchSlot where
  en : Bool := false
  node : Word := 0
  depthTh : Nat := 0
  delayTh : Nat := 0
  n : Nat := 0
  lastDepth : Nat := 0
  maxDepth : Nat := 0
  sumDepth : Nat := 0
  lastDelay : Nat := 0
  maxDelay : Nat := 0
  sumDelay : Nat := 0
  above : Bool := false
  deriving DecidableEq, Repr

/-- A partition of the packet buffer (R321). -/
structure Part where
  res : Nat
  max : Nat := 524288
  used : Nat := 0
  deriving DecidableEq, Repr

/-- The downstream traffic manager (chapter 11). `cal` lists calendared nodes by handle with their slot. -/
structure Dtm where
  ctrl : Word := 0x00000003#32
  flows : Sparse FlowQ := []
  nodes : Sparse TermNode := []
  gens : Sparse TopNode := []
  outs : Sparse TopNode := []
  admits : Sparse Word := []
  watches : Sparse WatchSlot := []
  part0 : Part := { res := 196608 }
  part1 : Part := { res := 131072 }
  part2 : Part := { res := 16384 }
  poolHigh : Bool := true
  cal : List (Nat × Nat) := []
  onDrift : List (Nat × Lane × DsFrame) := []
  sweepUs : Nat := 0
  deriving DecidableEq, Repr

/-- The record of an uplink port (R343, Table 12-6). -/
structure PortCfg where
  n : Nat := 1
  top : Nat := 4
  bring : Nat := 1
  preempt : Bool := false
  noverify : Bool := false
  fec25 : Bool := false
  maxFrame : Nat := 9600
  liveHold : Nat := 10
  qlim : Nat := 0
  qw : Bytes := []
  express : Byte := 0
  deriving DecidableEq, Repr

/-- A frame in an egress queue (R363). -/
structure EgFrame where
  tc : Nat
  data : Bytes
  inj : Option Nat := none
  bad : Bool := false
  deriving DecidableEq, Repr

/-- A gate list (R371): entries as interval and gates, base in ns of device time, cycle. -/
structure GateList where
  ents : List (Nat × Byte)
  base : Nat
  cycle : Nat
  deriving DecidableEq, Repr

/-- How far an uplink port has come (R348 to R362). -/
inductive Stage where
  | idle
  | ladder
  | listen
  | autoneg
  | training
  | fixed
  | done
  | relock
  | draining
  deriving DecidableEq, Repr

/-- A preemptable frame that has left its queue under active preemption (R369, R370): bytes of it with its FCS, how many earlier fragments took,
whether it is being sent now and since when in ns of device time, the stamp of its first fragment. -/
structure TxFrame where
  fr : EgFrame
  wire : Bytes
  off : Nat := 0
  on : Bool := true
  t0 : Nat
  stamp : Dword
  deriving DecidableEq, Repr

/-- An uplink port, named by its lowest lane (chapter 12); key 32 is the DMP port (R378). `act` is what took effect at the last
bring-up; `fec` says that RS-FEC is in use at code 1; `verN` counts the verify frames sent since the port came up, `verOk` says that
the partner answered, `verEnd` that the verification has ended. -/
structure Uplink where
  cfg : PortCfg := {}
  act : PortCfg := {}
  stage : Stage := .idle
  rate : Nat := 0
  rung : Nat := 0
  good : Option Nat := none
  sentGo : Bool := false
  swapped : Bool := false
  failed : Bool := false
  up : Bool := false
  lf : Bool := false
  rf : Bool := false
  fec : Bool := false
  verN : Nat := 0
  verOk : Bool := false
  verEnd : Bool := false
  q : List EgFrame := []
  cur : Option TxFrame := none
  v : Word := 0
  tags : Sparse Word := []
  mode : Nat := 0
  ignorePause : Bool := false
  tx : Bool := false
  pfcMask : Byte := 0
  quanta : Nat := 0
  xoff : Nat := 0
  xon : Nat := 0
  held : List Nat := []
  heldAll : Bool := false
  txXoff : Bool := false
  gate : Option GateList := none
  gIdx : Nat := 0
  gAt : Nat := 0
  gPend : Option (Tag × GateList × Nat) := none
  drain : List Tag := []
  deriving DecidableEq, Repr

/-- A serial lane (chapters 12 and 13): keys 0-31 uplink lanes, 32-39 DMP lanes, 40 the heartbeat pair. `eq` is what the equaliser was last seen
at, at time-base cycle `eqAt`, `eqSaved` its settings at the last good rung (R351). The last fields hold the GO sent and what the
partner's ladder messages have said in this step. -/
structure SLane where
  en : Bool := false
  wait : Option Tag := none
  signal : Bool := false
  lock : Bool := false
  ctrl : Word := 0
  ptp : Word := 0
  bitPos : Nat := 0
  eq : Bytes := []
  eqAt : Nat := 0
  eqSaved : Bytes := []
  goTx : Option Nat := none
  offer : Option (Nat × Nat) := none
  go : Option Nat := none
  doneRx : Option Nat := none
  deriving DecidableEq, Repr

end Sys2Proof.Machine
end

