-- ==== Sys2Proof/Machine/State.lean ====
section
/-! DEFINITION. The state of the block: the device, the banksman, host memory, the queue of waiting commands; the reasons a
step can stop; the state after reset. -/
namespace Sys2Proof.Machine
open Sys2Proof

/-- What the device puts on a wire or hands to a neighbour, newest last in `Dev.sent`. -/
inductive Sent where
  | dsFrame (p : Nat) (lane : Lane) (sfc : Nat) (map : List (List WireGrant)) (wins : List Win) (ploam : List Ploam) (pieces : List (Nat × Nat × Bytes))
  | brst (p : Nat) (lane : Lane) (start stop : Int)
  | rssi (p : Nat) (start : Int) (width : Nat)
  | i2c (p : Nat) (op addr ofs len : Nat) (data : Bytes)
  | i2cStop (p : Nat)
  | uplink (u : Nat) (express : Bool) (data : Bytes) (stamp : Dword)
  | fragment (u : Nat) (first last : Bool) (data : Bytes) (stamp : Dword)
  | verify (u : Nat)
  | advert (u : Nat) (codes : List Nat) (fec25 : Bool)
  | ladder (lane : Nat) (msg : Bytes)
  | lamp (path : Nat) (msg : Bytes)
  | mirror (p : Nat) (r : MirrorRecord)
  | pulse (n : Nat) (width : Nat)
  | todOut (msg : Bytes)
  | resend (die lane : Nat) (blocks : List Nat)
  | dramWrite (loc : Nat) (data : Nat)
  | tdo (bit : Bool)
  | readData (svc : Bool) (v : Word)
  deriving DecidableEq, Repr

/-- The device without the banksman. `late` holds timeouts and frames that found no buffer while other commands of the same cycle were
still waiting (R69, log entry 33). -/
structure Dev where
  variant : Variant := .skx6450
  free : Nat := 0
  now : Nat := 0
  outbox : List BankOp := []
  dma : List (Nat × Bytes) := []
  sent : List Sent := []
  board : Board := {}
  drifts : Sparse Drift := []
  ports : Sparse Port := []
  ticks : Sparse Tick := []
  winders : Sparse Winder := []
  decs : Sparse Decoder := []
  clusters : Sparse Cluster := []
  cmdRings : Sparse CmdRing := []
  puntRings : Sparse PktRing := []
  injRings : Sparse PktRing := []
  inj : List InjFlight := []
  lastRing : Nat := 7
  cmds : List Active := []
  ctrs : Sparse Ctr := []
  time : TimeUnit := {}
  prot : Prot := {}
  cls : Cls := {}
  tbl : Tbl := {}
  dtm : Dtm := {}
  ulk : Sparse Uplink := []
  lanes : Sparse SLane := []
  ddr : Ddr := {}
  tally : Tally := {}
  late : List Instr := []
  deriving DecidableEq, Repr

/-- The whole state. Host memory is the address space the rings and structures of the host lie in (R47). -/
structure State where
  dev : Dev := {}
  bank : Bank := {}
  mem : Sparse Byte := []
  pending : List Instr := []
  deriving DecidableEq, Repr

/-- Why a step stops. -/
inductive Fault where
  /-- Raised by an event of the board that Table 18-17 calls unpredictable without a bound: rails raised out of order, RESET_N released
  before its rails are up or with TEST high. Safe. -/
  | boardMistake
  deriving DecidableEq, Repr

/-- Why a command is turned away. -/
inductive Refusal where
  /-- Raised by the dispatcher for a row that has no meaning yet. Safe: the step stops. -/
  | notModelled (mnemonic : String)
  deriving DecidableEq, Repr

/-- The block right after power-on with RESET_N asserted (R16, R465): every field at its reset value. -/
def State.reset : State := {}

end Sys2Proof.Machine
end

