-- ==== Sys2Proof/Config.lean ====
section
/-! DEFINITION. What the manual leaves to the device or leaves open: constants without a body, so that no statement can rest on
a value of them. -/
namespace Sys2Proof

/-- The n-th value that the manual leaves open (log entry 5). Nothing is known of it. -/
opaque Config.freeValue : Nat → BitVec 64

/-- The n-th run of bytes that the manual leaves open (log entry 5). -/
opaque Config.freeBytes : Nat → Bytes

/-- What the n-th mistake of the host, of a program or of the board does to the device (R87, R218 and the mistake tables): any device,
or none for no effect. `Dev.spoil` takes from it what the Result column reaches (log entry 9). -/
opaque Config.mistake : Nat → Machine.Dev → Option Machine.Dev

/-- AES-128 counter mode over a frame: key, upstream, generation, superframe counter, position in the downstream frame or in the upstream one,
bytes (R100, R253). The TC layer's counter block is not in the manual (log entry 6). -/
opaque Config.aesCtr : BitVec 128 → Bool → Nat → Nat → Nat → Bytes → Bytes

/-- Payload bytes that a downstream frame carries: generation, GPON FEC on, grants, windows, messages of its header (R95, R96, Table
3-1). The TC layer fixes it (log entry 6). -/
opaque Config.dsRoom : Nat → Bool → Nat → Nat → Nat → Nat

/-- The duration of a bit and the bits of a word at an upstream rate outside Table 3-5, which the manual does not define (R222). -/
opaque Config.badBit : Nat → Nat → Nat
opaque Config.badWord : Nat → Nat → Nat

/-- The candidate bucket of a key by a table's first or second CRC-32C, whose start values are not in the manual (chapter 10,
log entry 5): table, hash, key. -/
opaque Config.bucket : Nat → Nat → Bytes → Nat

/-- The CRC-32 of the contents of a checkpoint (Table 13-4, Table 5-5): the manual does not give their order (log entry 5). -/
opaque Config.ckptDigest : Ckpt → Word

/-- The silicon stepping of the hub die (Table 19-6). -/
opaque Config.stepping : BitVec 4

end Sys2Proof
end

