-- ==== Sys2Proof/Machine/Ops.lean ====
section
/-! DEFINITION. The shared operations: access to units by number, device time, events, counters, host memory. -/
namespace Sys2Proof.Machine
open Sys2Proof

/-! ### Units by number -/

/-- Tree port `p` after reset: winder 5 (p div 4) + p mod 4 serves it (R25, Table 5-9). -/
def Port.dflt (p : Nat) : Port := { wnd := { winder := 5 * (p / 4) + p % 4 } }

/-- Winder `w` after reset (Table 5-11). -/
def Winder.dflt (w : Nat) : Winder := if w % 5 < 4 then { st := 1, port := 4 * (w / 5) + w % 5 } else {}

/-- LDPC decoder `n` after reset (Table 8-8). -/
def Decoder.dflt (n : Nat) : Decoder := if n % 5 < 4 then { st := 1 } else {}

def Dev.port (d : Dev) (p : Nat) : Port := sget Port.dflt d.ports p
def Dev.setPort (d : Dev) (p : Nat) (q : Port) : Dev := { d with ports := sset Port.dflt d.ports p q }
def Dev.modPort (d : Dev) (p : Nat) (f : Port → Port) : Dev := d.setPort p (f (d.port p))
def Dev.winder (d : Dev) (w : Nat) : Winder := sget Winder.dflt d.winders w
def Dev.setWinder (d : Dev) (w : Nat) (x : Winder) : Dev := { d with winders := sset Winder.dflt d.winders w x }
def Dev.modWinder (d : Dev) (w : Nat) (f : Winder → Winder) : Dev := d.setWinder w (f (d.winder w))
def Dev.dec (d : Dev) (n : Nat) : Decoder := sget Decoder.dflt d.decs n
def Dev.modDec (d : Dev) (n : Nat) (f : Decoder → Decoder) : Dev :=
  { d with decs := sset Decoder.dflt d.decs n (f (d.dec n)) }
def Dev.cluster (d : Dev) (c : Nat) : Cluster := sget (fun _ => {}) d.clusters c
def Dev.modCluster (d : Dev) (c : Nat) (f : Cluster → Cluster) : Dev :=
  { d with clusters := sset (fun _ => {}) d.clusters c (f (d.cluster c)) }
def Dev.drift (d : Dev) (x : Nat) : Drift := sget (fun _ => {}) d.drifts x
def Dev.modDrift (d : Dev) (x : Nat) (f : Drift → Drift) : Dev :=
  { d with drifts := sset (fun _ => {}) d.drifts x (f (d.drift x)) }
def Dev.tree (d : Dev) (p : Nat) : TreeProt := sget (fun _ => {}) d.prot.trees p
def Dev.modTree (d : Dev) (p : Nat) (f : TreeProt → TreeProt) : Dev :=
  { d with prot := { d.prot with trees := sset (fun _ => {}) d.prot.trees p (f (d.tree p)) } }
def Dev.modProt (d : Dev) (f : Prot → Prot) : Dev := { d with prot := f d.prot }
def Dev.cmdRing (d : Dev) (r : Nat) : CmdRing := sget (fun _ => {}) d.cmdRings r
def Dev.modCmdRing (d : Dev) (r : Nat) (f : CmdRing → CmdRing) : Dev :=
  { d with cmdRings := sset (fun _ => {}) d.cmdRings r (f (d.cmdRing r)) }
def Dev.punt (d : Dev) (r : Nat) : PktRing := sget (fun _ => {}) d.puntRings r
def Dev.modPunt (d : Dev) (r : Nat) (f : PktRing → PktRing) : Dev :=
  { d with puntRings := sset (fun _ => {}) d.puntRings r (f (d.punt r)) }
def Dev.injRing (d : Dev) (r : Nat) : PktRing := sget (fun _ => {}) d.injRings r
def Dev.modInj (d : Dev) (r : Nat) (f : PktRing → PktRing) : Dev :=
  { d with injRings := sset (fun _ => {}) d.injRings r (f (d.injRing r)) }

def Port.lane (q : Port) : Lane → LaneS
  | .main => q.main
  | .comp => q.comp
def Port.modLane (q : Port) (l : Lane) (f : LaneS → LaneS) : Port :=
  match l with
  | .main => { q with main := f q.main }
  | .comp => { q with comp := f q.comp }
def Port.term (q : Port) (t : Nat) : Term := sget (fun _ => {}) q.terms t
def Port.modTerm (q : Port) (t : Nat) (f : Term → Term) : Port :=
  { q with terms := sset (fun _ => {}) q.terms t (f (q.term t)) }
def Port.prof (q : Port) (i : Nat) : Profile := sget (fun _ => {}) q.profs i
def Port.keySlots (q : Port) (t : Nat) : KeySlots := sget (fun _ => {}) q.keys t
def Port.modKeys (q : Port) (t : Nat) (f : KeySlots → KeySlots) : Port :=
  { q with keys := sset (fun _ => {}) q.keys t (f (q.keySlots t)) }
def Port.bcastKey (q : Port) (n : Nat) : BcastKey := sget (fun _ => {}) q.bcast n
def Port.trunk (q : Port) (t : Nat) : Trunk := if t = 0 then q.trunk0 else q.trunk1
def Port.modTrunk (q : Port) (t : Nat) (f : Trunk → Trunk) : Port :=
  if t = 0 then { q with trunk0 := f q.trunk0 } else { q with trunk1 := f q.trunk1 }
def Port.flow (q : Port) (k : Nat) : Flow := sget (fun _ => {}) q.ups.flows k
def Port.dsFlow (q : Port) (k : Nat) : Flow := sget (fun _ => {}) q.ups.dsFlows k

def laneOf (n : Nat) : Lane := if n = 0 then .main else .comp

/-- A lane runs from the instant its TREE_ENABLE takes effect until its drain ends (R117). -/
def LaneS.running (l : LaneS) : Bool := l.st != .off
/-- Running and not draining: grants, windows and commands are accepted (R123, R173). -/
def LaneS.live (l : LaneS) : Bool := l.st == .dark || l.st == .lit

/-! ### Where units lie (R24, Table 1-2) -/

/-- The port die of a tree port. -/
def dieOfPort (p : Nat) : Nat := p / 32

/-- The BAR0 base of tree port `p` (chapter 03). -/
def portBase (p : Nat) : Nat := if p < 32 then 0x1000000 + 0x40000 * p else 0x2000000 + 0x40000 * (p - 32)
/-- The BAR0 base of winder `w` (chapter 05). -/
def winderBase (w : Nat) : Nat := if w < 40 then 0x1800000 + 0x1000 * w else 0x2800000 + 0x1000 * (w - 40)
/-- The BAR0 base of LDPC decoder `n` (chapter 08). -/
def decBase (n : Nat) : Nat := if n < 40 then 0x1840000 + 0x100 * n else 0x2840000 + 0x100 * (n - 40)
/-- The BAR0 base of the pool registers of cluster `c` (chapter 08). -/
def poolBase (c : Nat) : Nat := if c < 8 then 0x1844000 + 0x100 * c else 0x2844000 + 0x100 * (c - 8)

/-- Class of an object handle (R53). -/
def objClass (obj : Word) : Nat := obj.toNat / 2 ^ 24
/-- Index of an object handle (R53). -/
def objIndex (obj : Word) : Nat := obj.toNat % 2 ^ 24

/-- The tree port an object of the tree side belongs to (Table 2-4). -/
def objPort (obj : Word) : Option Nat :=
  match objClass obj with
  | 0x01 => some (objIndex obj)
  | 0x02 => some (objIndex obj / 2 ^ 10)
  | 0x03 => some (objIndex obj / 2 ^ 12)
  | 0x04 => some (objIndex obj / 2 ^ 14)
  | 0x11 => some (objIndex obj / 2)
  | _ => none

/-- The port die an object lies on (R23, R24). -/
def objDie (obj : Word) : Option Nat :=
  match objClass obj with
  | 0x05 | 0x06 => some (objIndex obj / 40)
  | 0x07 => some (objIndex obj / 8)
  | 0x08 => some (objIndex obj / 2)
  | 0x09 => some (objIndex obj)
  | _ => (objPort obj).map dieOfPort

/-! ### What the variant carries (Table 0-1, Table 0-2) -/

def Variant.hasDie (v : Variant) (x : Nat) : Bool := x == 0 || v != .skx3250
def Variant.hasDecoders (v : Variant) : Bool := v != .skx6410
def Variant.hasProt (v : Variant) : Bool := v != .skx6450n
def Variant.hasLane (v : Variant) (u : Nat) : Bool := u < 16 || v != .skx3250
def Variant.hasPort (v : Variant) (p : Nat) : Bool := v.hasDie (dieOfPort p)
/-- HUB_UNIT_PRESENT (Table 0-2). -/
def Variant.unitPresent : Variant → Word
  | .skx6450 => 0x0000FFFF#32
  | .skx6410 => 0x0000FFFB#32
  | .skx3250 => 0x00000FFD#32
  | .skx6450n => 0x0000FFEF#32

/-- The tree port of a traffic-manager node, by the kind and number of its handle's index (Table 11-1); 0 for a watch slot. -/
def nodePort (i : Nat) : Nat :=
  let k := i % 2 ^ 20
  match i / 2 ^ 20 with
  | 0 => k / 2 ^ 14
  | 1 => k / 2 ^ 9
  | 2 => k / 2
  | 3 => k
  | _ => 0

/-- The object is a unit the variant does not carry (Table 2-5 ABSENT, Table 17-2). -/
def objAbsent (v : Variant) (obj : Word) : Bool :=
  match objClass obj with
  | 0x06 => !v.hasDecoders || !v.hasDie (objIndex obj / 40)
  | 0x0A | 0x0B => !v.hasLane (objIndex obj)
  | 0x10 => decide (nodePort (objIndex obj) < 64) && !v.hasPort (nodePort (objIndex obj))
  | 0x12 => !v.hasProt
  | _ => (objDie obj).any fun x => !v.hasDie x

/-- The port die is cut off: silent (R23), or its drift did not train (R467). -/
def Dev.dieLost (d : Dev) (x : Nat) : Bool := (d.drift x).silent || (d.drift x).held
/-- The tree port exists and its port die is reachable. -/
def Dev.portUp (d : Dev) (p : Nat) : Bool := d.variant.hasPort p && !d.dieLost (dieOfPort p)
/-- The winder exists and its port die is reachable. -/
def Dev.winderUp (d : Dev) (w : Nat) : Bool := d.variant.hasDie (w / 40) && !d.dieLost (w / 40)

/-! ### Device time and events -/

/-- The TIME format of Table 2-9 (R70). -/
def packTime (sec ns : Nat) : Dword := BitVec.ofNat 64 (sec % 2 ^ 34 * 2 ^ 30 + ns)
/-- Device time now, in ns. -/
def Dev.devNs (d : Dev) : Nat := d.time.sec * 1000000000 + d.time.ns
/-- Device time now, in that format. -/
def Dev.stamp (d : Dev) : Dword := packTime d.time.sec d.time.ns

/-- The SOURCE field (R72). -/
def srcOf (cls inst : Nat) : Nat := cls * 4096 + inst

/-- Raises an event at its source (R66, R68). -/
def Dev.emit (d : Dev) (typ src : Nat) (payload : Bytes) : Dev :=
  { d with outbox := d.outbox ++ [.event typ src (padTo 16 payload) d.stamp] }

/-- Raises an event of tree port `p`. -/
def Dev.emitPort (d : Dev) (p typ : Nat) (payload : Bytes) : Dev := d.emit typ (srcOf 1 p) payload

/-- A superframe counter in 8 bytes (bits [63:51] zero). -/
def sfc8 (n : Nat) : Bytes := le 8 (n % 2 ^ 51)

/-- Hands something to a wire. -/
def Dev.send (d : Dev) (x : Sent) : Dev := { d with sent := d.sent ++ [x] }

/-- Asks for a write of host memory. -/
def Dev.write (d : Dev) (addr : Nat) (bs : Bytes) : Dev := { d with dma := d.dma ++ [(addr, bs)] }

/-- Takes the next free value (a value the manual leaves open), of `n` bits. -/
def Dev.pick (d : Dev) (n : Nat) : Nat × Dev :=
  ((Config.freeValue d.free).toNat % 2 ^ n, { d with free := d.free + 1 })

/-! ### Local counters (R450 to R454), keyed by counter index -/

/-- The index of the counter register at a BAR0 offset (Table 16-1). -/
def ctrIdx (off : Nat) : Nat := 16777216 + off / 4
/-- The local counter with an index. -/
def Dev.ctr (d : Dev) (i : Nat) : Ctr := sget (fun _ => {}) d.ctrs i
def Dev.setCtr (d : Dev) (i : Nat) (c : Ctr) : Dev := { d with ctrs := sset (fun _ => {}) d.ctrs i c }

/-- A counter as the host wrote it or the device counts it, in 64 bits with its carry. -/
def Ctr.wide (c : Ctr) : Dword := BitVec.ofNat 64 (c.val.toNat + b2n c.cp * 2 ^ 32)

/-- A reset takes the counters for which `p` holds to zero; R moves with each, so that B counts every increment once (R35, R452). -/
def Dev.clearCtrs (d : Dev) (p : Nat → Bool) : Dev :=
  { d with
    ctrs := sclear p d.ctrs
    tally := { d.tally with back := (d.ctrs.filter fun e => p e.1).foldl (fun m e =>
      let x := sget (fun _ => {}) m e.1
      sset (fun _ => {}) m e.1 { x with r := x.r - e.2.wide }) d.tally.back } }

/-- TAL_HALF_RANGE (R454): VAL was below half range and is at or above it now. -/
def Dev.halfRange (d : Dev) (i : Nat) (old new : Word) : Dev :=
  if d.tally.ctrl.getLsbD 0 && !old.msb && new.msb then d.emit 0x0C01 (srcOf 0xF 0) (le 4 i ++ le 4 new.toNat) else d

/-- Adds `n` to the counter with index `i`; a wrap sets CP (R451). -/
def Dev.bump (d : Dev) (i n : Nat) : Dev :=
  let c := d.ctr i
  let v := c.val + BitVec.ofNat 32 n
  (d.setCtr i { val := v, cp := c.cp || decide (2 ^ 32 ≤ c.val.toNat + n) }).halfRange i c.val v

/-- Counts in the counter register at a BAR0 offset. -/
def Dev.count (d : Dev) (off : Nat) (n : Nat := 1) : Dev := d.bump (ctrIdx off) n

/-- Counts in a register of tree port `p`. -/
def Dev.countPort (d : Dev) (p ofs : Nat) (n : Nat := 1) : Dev := d.count (portBase p + ofs) n

/-- Counter `k` of a service flow (Table 16-1). -/
def Dev.countFlow (d : Dev) (h k : Nat) (n : Nat := 1) : Dev := d.bump (8 * h + k) n

/-- Takes the next free run of bytes, at most `n` of them. -/
def Dev.pickBytes (d : Dev) (n : Nat) : Bytes × Dev := ((Config.freeBytes d.free).take n, { d with free := d.free + 1 })

/-! ### DRAM as its users see it (R430, R431, R437, R438, R469) -/

def Dev.sub (d : Dev) (s : Nat) : Sub := sget (fun _ => {}) d.ddr.subs s
def Dev.modSub (d : Dev) (s : Nat) (f : Sub → Sub) : Dev :=
  { d with ddr := { d.ddr with subs := sset (fun _ => {}) d.ddr.subs s (f (d.sub s)) } }
/-- Mirrored granule `g` has no copy that can be read: both subchannels of its pair are out of service. -/
def Dev.granuleLost (d : Dev) (g : Nat) : Bool := (d.sub (g % 4)).st != 0 && (d.sub (g % 4 + 4)).st != 0
/-- The context of a service flow cannot be read: 64 bytes each, one granule (Table 15-3). -/
def Dev.ctxLost (d : Dev) (h : Nat) : Bool := d.granuleLost h
/-- A MAC bucket of 128 bytes cannot be read. -/
def Dev.bucketLost (d : Dev) (b : Nat) : Bool := d.granuleLost (2 * b) || d.granuleLost (2 * b + 1)
/-- The subchannel of a backing counter: 16 bytes each in the counter backing store (Table 15-3, log entry 44). -/
def subOfCtr (i : Nat) : Nat := i / 4 % 8

/-! ### Bandwidth windows (R457) -/

/-- A time in the TIME format, in ns. -/
def stampNs (t : Dword) : Nat := t.toNat / 2 ^ 30 * 1000000000 + t.toNat % 2 ^ 30
def Dev.win (d : Dev) (x : Nat) : BwWin := sget (fun _ => {}) d.tally.wins x
def Dev.setWin (d : Dev) (x : Nat) (w : BwWin) : Dev :=
  { d with tally := { d.tally with wins := sset (fun _ => {}) d.tally.wins x w } }
/-- Counts a frame in the window of a port that holds its stamp. -/
def Dev.winCount (d : Dev) (x : Nat) (out : Bool) (bytes at0 : Nat) : Dev :=
  let w := d.win x
  if !w.en || decide (at0 < w.start) then d
  else d.setWin x { w with cur := if out then { w.cur with outB := w.cur.outB + bytes, outF := w.cur.outF + 1 }
    else { w.cur with inB := w.cur.inB + bytes, inF := w.cur.inF + 1 } }

/-! ### Host memory -/

/-- A byte of host memory that nothing has written (log entry 3). -/
def memDflt (_ : Nat) : Byte := 0#8
/-- Reads host memory. -/
def memRead (m : Sparse Byte) (addr n : Nat) : Bytes := (List.range n).map fun i => sget memDflt m (addr + i)
/-- Writes host memory. -/
def memWrite (m : Sparse Byte) (addr : Nat) : Bytes → Sparse Byte
  | [] => m
  | b :: bs => memWrite (sset memDflt m addr b) (addr + 1) bs

/-! ### Handles and trees -/

/-- The handle has the class and an index below the bound. -/
def objIs (obj : Word) (cls bound : Nat) : Bool := objClass obj == cls && decide (objIndex obj < bound)

/-- A terminal, allocation or flow handle: tree port and number within it. -/
def objTerm (obj : Word) : Nat × Nat := (objIndex obj / 2 ^ 10, objIndex obj % 2 ^ 10)
def objAlloc (obj : Word) : Nat × Nat := (objIndex obj / 2 ^ 12, objIndex obj % 2 ^ 12)
def objFlow (obj : Word) : Nat × Nat := (objIndex obj / 2 ^ 14, objIndex obj % 2 ^ 14)

/-- The tree is standby, armed or not (Table 13-2). -/
def Dev.deputy (d : Dev) (p : Nat) : Bool := (d.tree p).role == 2 || (d.tree p).role == 3

/-- Counts in a TREE_, RNG_ or UPS_ register, unless the tree is standby (R398). -/
def Dev.countTree (d : Dev) (p ofs : Nat) (n : Nat := 1) : Dev := if d.deputy p then d else d.countPort p ofs n

/-- The mate's lamp checks show it standby, armed, on tree `p` (MAT_PROT). -/
def Dev.mateArmed (d : Dev) (p : Nat) : Bool := d.prot.mateArmed.getLsbD p

/-- Device time in units of 2^-32 ns. -/
def Dev.devFine (d : Dev) : Nat := d.devNs * 2 ^ 32 + d.time.frac

end Sys2Proof.Machine
end

