-- ==== Sys2Proof/Machine/Life.lean ====
section
/-! DEFINITION. The life of a host command (R54 to R62): acceptance, the turns of the rings, start, completion; what a mistake of the host or
of a program does (R87). -/
namespace Sys2Proof.Machine
open Sys2Proof

/-! ### Room in the banksman (R47, R73) -/

/-- Entries of the event ring. -/
def Bank.entries (b : Bank) : Nat := 2 ^ b.size
/-- Entries between the read and the write pointer (R47). -/
def Bank.used (b : Bank) : Nat := (b.wptr + b.entries - b.rptr) % b.entries
/-- Events the ring has room for (R47). -/
def Bank.room (b : Bank) : Nat := if b.en then b.entries - 1 - b.used else 0
/-- Events held in the on-chip backlog because the ring has no room for them (R73). -/
def Bank.waiting (b : Bank) : Nat := b.backlog.length - b.room
/-- The unreserved part of the backlog is full (R73). -/
def Bank.unreservedFull (b : Bank) : Bool := 3584 ≤ b.waiting
/-- The reserved part is full too (R73). -/
def Bank.full (b : Bank) : Bool := 4096 ≤ b.waiting

/-! ### The life of a host command (R54 to R62) -/

/-- Status codes (Table 2-5). -/
def stOk : Nat := 0
def stAbsent : Nat := 1
def stFailed : Nat := 2
def stAbandoned : Nat := 3
def stTimeout : Nat := 4
def stGap : Nat := 5

/-- WAIT_TIME or WAIT_EVENT (R57, R59). -/
def isWait : Instr → Bool
  | .waitTime .. => true
  | .waitEvent .. => true
  | _ => false

/-- What a body of a host command may read beside the device. -/
structure Env where
  mem : Sparse Byte
  bank : Bank

/-- A host command made ready: opcode (Table 2-7), whether its handle and arguments are allowed and how far a mistake in them may extend
(R87), whether the function is absent on the variant, the RESULT it gives on a die that is cut off, and its effect once it begins. -/
structure HostCmd where
  opc : Nat
  good : Bool
  reach : List Reach := [.package]
  absent : Bool := false
  lost : Bytes := []
  body : Dev → Dev

/-- Commands of ring `r` accepted and not completed (R58): one whose completion is held for want of space has not completed (R73). -/
def Dev.active (d : Dev) (b : Bank) (r : Fin 8) : Nat :=
  (d.cmds.filter fun a => a.tag.ring == r).length + (b.held.filter fun x => x.tag.ring == r).length

/-- A command of the ring stands in the way of a later one (R52, R57). -/
def Dev.ringHolds (d : Dev) (c : Tag) : Bool :=
  d.cmds.any fun a => a.tag.ring == c.ring &&
    (isWait a.cmd || a.tag.fence || c.fence || a.phase == .held)

/-- An earlier-started command on the same handle has not completed (R59). -/
def Dev.objBusy (d : Dev) (i : Instr) (obj : Word) : Bool :=
  !isWait i && d.cmds.any fun a => a.phase != .held && a.obj == obj && !isWait a.cmd

/-- Ends a command with its one CMD_DONE (R54). -/
def Dev.complete (d : Dev) (c : Tag) (status : Nat) (result : Bytes := []) : Dev :=
  match d.cmds.find? fun a => a.tag == c with
  | none => d
  | some a =>
    { d with
      cmds := dropFirst (fun a => a.tag == c) d.cmds
      outbox := d.outbox ++ [.done { tag := c, opc := a.opc, status := status, result := padTo 8 result, time := d.stamp }] }

/-- Ends the running MAT_ROLE_SET of a tree (R389). -/
def Dev.endRole (d : Dev) (p status : Nat) (result : Bytes := []) : Dev :=
  ((d.cmds.filter fun a => a.opc == 0x0902 && objIndex a.obj == p && a.phase == .running).map (·.tag)).foldl
    (fun d c => d.complete c status result) d

/-- Ends every listed command ABANDONED. -/
def Dev.abandonTags (d : Dev) (l : List Tag) : Dev := l.foldl (fun d c => d.complete c stAbandoned) d

/-- Ends ABANDONED every accepted command for which `p` holds (R37, R122). -/
def Dev.abandon (d : Dev) (p : Active → Bool) : Dev := d.abandonTags ((d.cmds.filter p).map (·.tag))

/-- Sets the value a family keeps with a command. -/
def Dev.setAux (d : Dev) (c : Tag) (n : Nat) : Dev :=
  { d with cmds := modWhere (fun a => a.tag == c) (fun a => { a with aux := n }) d.cmds }

/-- Puts a command among the accepted ones. -/
def Dev.accept (d : Dev) (i : Instr) (c : Tag) (obj : Word) (opc : Nat) (ph : Phase) : Dev :=
  { d with cmds := d.cmds ++ [{ tag := c, obj := obj, opc := opc, cmd := i, phase := ph }] }

/-! ### Mistakes (R87, R218 and the mistake tables of the chapters) -/

/-- Takes the keys for which `p` holds from `x` and leaves the others as they are. -/
def smerge {α : Type} [DecidableEq α] (dflt : Nat → α) (p : Nat → Bool) (m x : Sparse α) : Sparse α :=
  (x.filter fun e => p e.1).foldl (fun m e => sset dflt m e.1 e.2) (sclear p m)

/-- A request that raises an event. -/
def BankOp.eventOf (src : Nat → Bool) : BankOp → Bool
  | .event _ s _ _ => src s
  | _ => false

/-- What tree port `p` puts on its wires. -/
def Sent.ofPort (p : Nat) : Sent → Bool
  | .dsFrame q .. => q == p
  | .brst q .. => q == p
  | .rssi q .. => q == p
  | _ => false

/-- What stands on the module bus of tree port `p`. -/
def Sent.onBus (p : Nat) : Sent → Bool
  | .i2c q .. => q == p
  | .i2cStop q => q == p
  | _ => false

/-- The counters of tree port `p` and of its flows. -/
def portCtr (p k : Nat) : Bool :=
  let lo := ctrIdx (portBase p)
  let f0 := 8 * (p * 2 ^ 14)
  decide ((lo ≤ k ∧ k < lo + 0x10000) ∨ (f0 ≤ k ∧ k < f0 + 2 ^ 17))

/-- Tree port `p` as `x` has it; which winder serves it stays. -/
def Port.spoiled (q x : Port) : Port := { x with wnd := { x.wnd with winder := q.wnd.winder, takeover := q.wnd.takeover } }

/-- The maps of tree port `p` and the program state of its records as `x` has them; the map of a frame may become a missed seal. -/
def Port.spoiledMaps (q x : Port) : Port :=
  { q with
    main := { q.main with map := x.main.map, tail := x.main.tail }
    comp := { q.comp with map := x.comp.map, tail := x.comp.tail }
    wnd := { q.wnd with
      run := if q.wnd.run == .running && x.wnd.run == .halted then .halted else q.wnd.run
      v := x.wnd.v, shift := x.wnd.shift, cal := x.wnd.cal, marks := x.wnd.marks, rptSet := x.wnd.rptSet
      alloc := smerge (fun _ => 0#32) (fun k => decide (12 ≤ k % 16)) q.wnd.alloc x.wnd.alloc } }

/-- The program state of a winder as `x` has it: registers, loops, local data memory, program counter, and whether it runs on. -/
def Winder.spoiled (w x : Winder) : Winder :=
  { w with
    running := w.running && x.running
    pc := x.pc, g := x.g, v := x.v, p := x.p, loops := x.loops, lmem := x.lmem, cycle := max w.cycle x.cycle, ready := x.ready }

/-- The lane of the generation node that flow queue `h` of tree port `p` hangs from, as its record and its parent name it. -/
def Dtm.genOf (x : Dtm) (h : Nat) : Nat :=
  let p := h / 2 ^ 14
  2 * p + (sget (fun _ => ({} : TermNode)) x.nodes (p * 512 + (sget (fun _ => ({} : FlowQ)) x.flows h).parent)).lane % 2

/-- The nodes below generation node `g` as `y` has them. -/
def Dtm.spoiledNodes (x y : Dtm) (g : Nat) : Dtm :=
  { x with
    flows := smerge (fun _ => {}) (fun h => x.genOf h == g) x.flows y.flows
    nodes := smerge (fun _ => {}) (fun k => k / 512 == g / 2 && (sget (fun _ => ({} : TermNode)) x.nodes k).lane % 2 == g % 2) x.nodes y.nodes
    gens := smerge (fun _ => {}) (fun k => k == g) x.gens y.gens }

/-- The device as the mistake leaves it: what lies within the reach is as `x` has it. The banksman, the rings, the accepted commands and
the balls keep what they hold, so that every sequence number stays sound (R87). -/
def Reach.merge (r : Reach) (d x : Dev) : Dev :=
  match r with
  | .package =>
    { x with
      variant := d.variant, free := d.free, now := d.now, board := d.board, dma := d.dma, late := d.late, lastRing := d.lastRing
      cmds := d.cmds, cmdRings := d.cmdRings, puntRings := d.puntRings, injRings := d.injRings, inj := d.inj
      outbox := d.outbox ++ x.outbox.filter (BankOp.eventOf fun _ => true)
      sent := d.sent ++ x.sent }
  | .tree p =>
    { (d.modPort p fun q => q.spoiled (x.port p)) with
      ctrs := smerge (fun _ => {}) (portCtr p) d.ctrs x.ctrs
      outbox := d.outbox ++ x.outbox.filter (BankOp.eventOf fun s => s == srcOf 1 p)
      sent := d.sent ++ x.sent.filter (Sent.ofPort p) }
  | .maps p w => (d.modPort p fun q => q.spoiledMaps (x.port p)).modWinder w fun y => y.spoiled (x.winder w)
  | .calendar p w =>
    (d.modPort p fun q => { q with wnd := { q.wnd with cal := (x.port p).wnd.cal } }).modWinder w fun y =>
      { y with lmem := smerge (fun _ => 0#32) (fun k => decide (0x3800 ≤ k)) y.lmem (x.winder w).lmem }
  | .fixed p w =>
    (d.modPort p fun q => { q with wnd := { q.wnd with marks := (x.port p).wnd.marks } }).modWinder w fun y =>
      { y with lmem := (x.winder w).lmem }
  | .i2c p => { d with sent := d.sent ++ x.sent.filter (Sent.onBus p) }
  | .ruleSet k => { d with cls := 
      if k = 0 then { d.cls with set0 := { d.cls.set0 with st0 := x.cls.set0.st0, st1 := x.cls.set0.st1 } }
      else { d.cls with set1 := { d.cls.set1 with st0 := x.cls.set1.st0, st1 := x.cls.set1.st1 } } }
  | .indir t => { d with cls := { d.cls with indir := smerge (fun _ => 0) (fun k => k / 4096 == t) d.cls.indir x.cls.indir } }
  | .learnt b =>
    let safe (e : Bytes) : Bool := fld e 6 2 != b || (byteAt e 14).getLsbD 1
    { d with tbl := { d.tbl with mac := { d.tbl.mac with
        slots := d.tbl.mac.slots.filter fun e => safe e.2 || x.tbl.mac.slots.any fun f => f.1 == e.1
        sump := d.tbl.mac.sump.filter fun e => safe e || x.tbl.mac.sump.contains e } } }
  | .nodes g => { d with dtm := d.dtm.spoiledNodes x.dtm g }
  | .parts watches =>
    { d with dtm := { d.dtm with
        part0 := x.dtm.part0, part1 := x.dtm.part1, part2 := x.dtm.part2, watches := if watches then x.dtm.watches else d.dtm.watches } }
  | .quads lo hi =>
    { d with
      ulk := smerge (fun _ => {}) (fun k => decide (lo ≤ k ∧ k < hi)) d.ulk x.ulk
      lanes := smerge (fun _ => {}) (fun k => decide (lo ≤ k ∧ k < hi)) d.lanes x.lanes }
  | .uplink u =>
    let bit : Word := BitVec.ofNat 32 (2 ^ u)
    { d with
      ulk := smerge (fun _ => {}) (fun k => k == u) d.ulk x.ulk
      cls := { d.cls with live := (d.cls.live &&& ~~~bit) ||| (x.cls.live &&& bit) } }
  | .time => { d with time := { x.time with step := d.time.step } }
  | .output n => { d with time := { d.time with trigs := smerge (fun _ => {}) (fun k => k == n) d.time.trigs x.time.trigs } }
  | .spares => { d with ddr := { d.ddr with nv := { d.ddr.nv with spares := x.ddr.nv.spares, groups := x.ddr.nv.groups } } }
  | .scrub => { d with ddr := { d.ddr with sramS := x.ddr.sramS, dramH := x.ddr.dramH } }
  | .window k => d.setWin k (x.win k)
  | .profiler c => d.modCluster c fun y => { y with prof := { (x.cluster c).prof with pend := y.prof.pend } }
  | .host => { d with dma := d.dma ++ x.dma }

/-- Where the handle is good the mistake is one of the arguments, bounded by `r`; a bad handle may reach any object (Table 2-18). -/
def reachIf (handle : Bool) (r : Reach) : List Reach := [if handle then r else .package]

/-- A mistake takes its unpredictable result, within its reach. -/
def Dev.spoil (d : Dev) (r : Reach) : Dev :=
  let d1 := { d with free := d.free + 1 }
  match Config.mistake d.free d with
  | none => d1
  | some x => r.merge d1 x

/-- A command with a mistake in its handle or its arguments: one CMD_DONE with any status but GAP and an undefined RESULT, and what the
Result column of its table says (R87). -/
def Dev.mistaken (d : Dev) (c : Tag) (rs : List Reach) : Dev :=
  let (st, d1) := d.pick 3
  let (res, d2) := d1.pick 64
  rs.foldl Dev.spoil (d2.complete c (st % 5) (le 8 res))

/-! ### Effect and start (R57 to R60) -/

/-- The effect of an accepted command that has begun: ABSENT (Table 2-5), FAILED on a die that is cut off (R23, R467), else its
own, or that of a mistake. -/
def Dev.effect (d : Dev) (c : Tag) (obj : Word) (h : HostCmd) : Dev :=
  if objAbsent d.variant obj || h.absent then d.complete c stAbsent
  else if (objDie obj).any (fun x => (d.drift x).held) then d.complete c stFailed h.lost
  else if (objDie obj).any (fun x => (d.drift x).silent) && !(h.opc == 7 && objClass obj == 9) then d.complete c stFailed h.lost
  else if h.good then h.body d
  else d.mistaken c h.reach

/-- Commands whose effect needs DRAM (R469). -/
def needsDram (i : Instr) (obj : Word) : Bool :=
  match i with
  | .tblWrite .. => objIndex obj / 2 ^ 20 == 1
  | .tblDelete .. => objIndex obj / 2 ^ 20 == 1
  | .tblDomainFlush .. => true
  | .dtmNodeSet .. => objIndex obj / 2 ^ 20 == 0
  | .talSnapshot .. => true
  | _ => false

/-- The command that ring `r` would start next: its oldest held-back one, when nothing of the ring holds it (R52, R57). -/
def Dev.nextHeld (d : Dev) (r : Fin 8) : Option Active :=
  match d.cmds.find? fun a => a.tag.ring == r && a.phase == .held with
  | none => none
  | some a =>
    let going := d.cmds.filter fun x => x.tag.ring == r && x.phase != .held
    if (going.any fun x => isWait x.cmd || x.tag.fence) || (a.tag.fence && going != []) then none else some a

/-- The ring whose turn it is among those for which `has` holds: the first after the last one served (R60). -/
def Dev.turnOf (d : Dev) (has : Fin 8 → Bool) : Option (Fin 8) :=
  ((List.range 8).map fun k => Fin.ofNat 8 (d.lastRing + 1 + k)).find? has

/-- The ring whose turn it is (R60). -/
def Dev.turn (d : Dev) : Option (Fin 8) := d.turnOf fun r => (d.nextHeld r).isSome

/-- A command that ring `r` could start has another ring's command before it (R60). -/
def Dev.outOfTurn (d : Dev) (r : Fin 8) : Bool := d.turnOf (fun k => k == r || (d.nextHeld k).isSome) != some r

/-- While no completion can be accepted, no command is started (R73). -/
def Bank.stalled (b : Bank) : Bool := b.held != [] || b.full

/-- A ring starts a command: the turn passes to the next ring (R60). -/
def Dev.startOn (d : Dev) (i : Instr) (c : Tag) (obj : Word) (opc : Nat) (ph : Phase) : Dev :=
  { d.accept i c obj opc ph with lastRing := c.ring.val }

/-- The device accepts a command and starts it when it can (R57 to R60, R469): nothing before BOOT_DONE (R466), and no 257th command of its
ring (R58); held back by its ring, by another ring's turn or by a full backlog (R73); waiting for its object; or its effect. -/
def Dev.start (d : Dev) (b : Bank) (i : Instr) (c : Tag) (obj : Word) (h : HostCmd) : Dev :=
  if !d.board.bootDone || decide (256 ≤ d.active b c.ring) then d
  else if b.stalled || d.ringHolds c || d.outOfTurn c.ring then d.accept i c obj h.opc .held
  else if d.objBusy i obj || (!d.ddr.ready && needsDram i obj) then d.startOn i c obj h.opc .started
  else (d.startOn i c obj h.opc .running).effect c obj h

/-- The command of the "Active only" row (R382): FAILED 0x02 on a tree that is neither active nor unpaired. -/
def Dev.activeOnly (d : Dev) (p : Nat) (c : Tag) (k : Dev → Dev) : Dev :=
  if (d.tree p).role ≤ 1 then k d else d.complete c stFailed [0x02#8]

end Sys2Proof.Machine
end

