-- ==== Sys2Proof/Machine/Banksman.lean ====
section
/-! DEFINITION. The banksman (R66 to R74): sequence numbers, backlog, discards, the event ring, MSI-X moderation; and what ends
every step: the delivery of what a command raised. -/
namespace Sys2Proof.Machine
open Sys2Proof

/-- The bytes of an event entry (Table 2-9). -/
def eventBytes (seq : Word) (typ src : Nat) (time : Dword) (payload : Bytes) : Bytes :=
  le 4 seq.toNat ++ le 2 typ ++ le 2 src ++ le 8 time.toNat ++ padTo 16 payload

/-- Accepts an event: the next sequence number, at the tail of the backlog (R66). -/
def Bank.sequence (b : Bank) (typ src : Nat) (urgent : Bool) (time : Dword) (payload : Bytes) : Bank :=
  { b with
    seq := b.seq + 1
    lastSeq := b.seq
    backlog := b.backlog ++ [⟨b.seq, typ, src, urgent, eventBytes b.seq typ src time payload⟩] }

/-- Accepts the CMD_EVT_LOST of a run of discards; while the reserved part is full it waits until space returns (R73). -/
def Bank.flushLost (b : Bank) (time : Dword) : Bank :=
  match b.lost with
  | none => b
  | some r =>
    if b.full then { b with lost := some { r with due := true } }
    else { (b.sequence 0x0002 0 false time (le 4 r.n ++ le 4 r.lastSeq.toNat ++ le 2 r.typ)) with lost := none }

/-- Discards an event (R73). -/
def Bank.discard (b : Bank) (typ : Nat) : Bank :=
  { b with
    lostCnt := if b.lostCnt = BitVec.allOnes 32 then b.lostCnt else b.lostCnt + 1
    lost := match b.lost with
      | some r => some { r with n := r.n + 1 }
      | none => some { n := 1, lastSeq := b.lastSeq, typ := typ } }

/-- An event other than CMD_DONE reaches the banksman (R73). -/
def Bank.offer (b : Bank) (typ src : Nat) (payload : Bytes) (time : Dword) : Bank :=
  if b.unreservedFull then b.discard typ
  else (b.flushLost time).sequence typ src (decide (0x8000 ≤ typ)) time payload

/-- The payload of CMD_DONE (Table 2-6). -/
def Done.payload (x : Done) : Bytes :=
  le 4 x.tag.seq.toNat ++ le 1 x.status ++ le 1 x.tag.ring.val ++ le 2 x.opc ++ padTo 8 x.result

/-- A completion reaches the banksman: accepted, or held while the reserved part is full (R73). -/
def Bank.offerDone (b : Bank) (x : Done) : Bank :=
  let b1 := b.flushLost x.time
  if b.held != [] || b1.full then { b1 with held := b1.held ++ [x] }
  else b1.sequence 0x0001 (srcOf 0xA x.tag.ring.val) (x.tag.urgent || x.status == stGap) x.time x.payload

/-- Accepts a CMD_EVT_LOST that has been waiting for space (R73). -/
def Bank.flushDue (b : Bank) (time : Dword) : Bank := if b.lost.any (·.due) then b.flushLost time else b

/-- Space has returned: CMD_EVT_LOST first, then the commands that could not complete, in order and at this instant (R73). -/
def Bank.drain (time : Dword) : List Done → Bank → Bank
  | [], b => { b.flushDue time with held := [] }
  | x :: xs, b =>
    let b1 := b.flushLost time
    if b1.full then { b1 with held := x :: xs }
    else Bank.drain time xs (b1.sequence 0x0001 (srcOf 0xA x.tag.ring.val) (x.tag.urgent || x.status == stGap) time x.payload)

/-- Signals an MSI-X vector. -/
def Bank.signal (b : Bank) (vec : Nat) : Bank := { b with messages := b.messages ++ [vec] }

/-- COUNT and TIME_US of CMD_EVT_MOD; COUNT 0 acts as 1 (Table 2-16). -/
def Bank.modCount (b : Bank) : Nat := max 1 (b.modr.toNat % 4096)
def Bank.modTime (b : Bank) : Nat := bitsOf b.modr.toNat 25 16

/-- Vector 0 counts an event written (R74); `time0` says that time runs since the first event counted. -/
def Bank.count0Step (b : Bank) : Bank :=
  if b.modCount ≤ b.count0 + 1 then { b.signal 0 with count0 := 0, time0 := false }
  else { b with count0 := b.count0 + 1, time0 := true }

/-- Vector `vec` counts a completed frame of its ring (R74). -/
def Bank.countFrame (b : Bank) (vec count : Nat) : Bank :=
  let n := sget (fun _ => 0) b.counts vec + 1
  if max 1 count ≤ n then
    { b.signal vec with counts := sset (fun _ => 0) b.counts vec 0, timers := sset (fun _ => false) b.timers vec false }
  else { b with counts := sset (fun _ => 0) b.counts vec n, timers := sset (fun _ => false) b.timers vec true }

/-- TIME_US has passed since the first event or frame counted; `timeUs` is that of the vector's ring, and CMD_EVT_MOD's for vector 0. A
TIME_US that stands at zero signals nothing (R74). -/
def Bank.timerStep (b : Bank) (vec timeUs : Nat) : Bank :=
  if vec = 0 then
    if b.time0 && decide (0 < b.modTime) then { b.signal 0 with count0 := 0, time0 := false } else b
  else if sget (fun _ => false) b.timers vec && decide (0 < timeUs) then
    { b.signal vec with counts := sset (fun _ => 0) b.counts vec 0, timers := sset (fun _ => false) b.timers vec false }
  else b

/-- Base address of a ring; the low 12 bits are ignored (R47). -/
def ringBase (lo hi : Word) : Nat := hi.toNat * 2 ^ 32 + lo.toNat / 4096 * 4096

/-- The device writes the oldest sequenced event into the ring once it has room (R66, R70, R74). -/
def Bank.ringWrite (b : Bank) : Bank × List (Nat × Bytes) :=
  match b.backlog with
  | [] => (b, [])
  | e :: es =>
    if b.room = 0 then (b, [])
    else
      let addr := ringBase b.baseLo b.baseHi + b.wptr * 32
      let b1 := { b with backlog := es, wptr := (b.wptr + 1) % b.entries }
      let b2 := b1.count0Step
      (if e.urgent then b2.signal 1 else b2, [(addr + 4, e.bytes.drop 4), (addr, e.bytes.take 4)])

/-- The event-ring doorbell releases entries (R48, R78). -/
def Bank.doorbell (b : Bank) (v : Nat) : Bank :=
  let k := (v + b.entries - b.rptr) % b.entries
  { b with rptr := v, rseq := b.rseq + BitVec.ofNat 32 k }

/-- CMD_EVT_CTRL.EN is written; 0 to 1 sets both pointers to 0 (R49). -/
def Bank.setEn (b : Bank) (en : Bool) : Bank :=
  if en && !b.en then
    { b with en := true, wptr := 0, rptr := 0, rseq := (b.backlog.head?.map (·.seq)).getD b.seq }
  else { b with en := en }

/-- A write of another event-ring register (Table 2-13); base and size are ignored while EN is 1 (R49). -/
def Bank.setReg (b : Bank) (off v : Nat) : Bank :=
  match off with
  | 0x200 => if b.en then b else { b with baseLo := BitVec.ofNat 32 (v / 4096 * 4096) }
  | 0x204 => if b.en then b else { b with baseHi := BitVec.ofNat 32 v }
  | 0x208 => if b.en then b else { b with size := v % 32 }
  | 0x21C => { b with modr := BitVec.ofNat 32 v &&& 0x03FF0FFF#32 }
  | _ => b

/-- One request of a running command, and the host-memory writes it makes. -/
def BankOp.apply (op : BankOp) (b : Bank) : Bank × List (Nat × Bytes) :=
  match op with
  | .event typ src payload time => (b.offer typ src payload time, [])
  | .done x => (b.offerDone x, [])
  | .evtDoorbell v time => (let b1 := b.doorbell v; Bank.drain time b1.held b1, [])
  | .ringWrite => b.ringWrite
  | .lostFlush time => (b.flushLost time, [])
  | .timer vec timeUs => (b.timerStep vec timeUs, [])
  | .frameDone vec count => (b.countFrame vec count, [])
  | .spoilRing rptr wptr => ({ b with rptr := rptr % b.entries, wptr := wptr % b.entries }, [])
  | .setEn en time => (let b1 := b.setEn en; Bank.drain time b1.held b1, [])
  | .setReg off v => (b.setReg off v, [])
  | .pcieReset => (b, [])
  | .reset => ({}, [])

/-- A WAIT_EVENT that the event ends (R63). -/
def waitMatches (e : EvEntry) (a : Active) : Bool :=
  a.phase == .running &&
  match a.cmd with
  | .waitEvent _ _ typ src mask _ =>
    e.typ == typ.toNat && (BitVec.ofNat 16 e.src ^^^ src) &&& mask == 0
  | _ => false

/-- Ends every WAIT_EVENT that an event just sequenced matches (R63). -/
def Dev.matchWaits (d : Dev) (e : EvEntry) : Dev :=
  ((d.cmds.filter (waitMatches e)).map (·.tag)).foldl (fun d c => d.complete c stOk (le 4 e.seq.toNat)) d

/-- Events that an operation added to the backlog: those with a sequence number from `old` on. -/
def newEvents (old new : Bank) : List EvEntry := new.backlog.drop (new.backlog.length - (new.seq - old.seq).toNat)

/-- Delivers the requests of a command in order; completions of WAIT_EVENT join the end. -/
def State.deliver : Nat → State → State
  | 0, s => { s with dev := { s.dev with outbox := [] } }
  | n + 1, s =>
    match s.dev.outbox with
    | [] => s
    | op :: rest =>
      let (b, ws) := op.apply s.bank
      let d := (newEvents s.bank b).foldl (fun d e => d.matchWaits e) { s.dev with outbox := rest }
      State.deliver n { s with dev := d, bank := b, mem := ws.foldl (fun m (w : Nat × Bytes) => memWrite m w.1 w.2) s.mem }

/-- What ends every command: host-memory writes and requests of the device are carried out. -/
def State.run (s : State) (d : Dev) : State :=
  let s1 := { s with dev := { d with dma := [] }, mem := d.dma.foldl (fun m (w : Nat × Bytes) => memWrite m w.1 w.2) s.mem }
  s1.deliver (d.outbox.length + d.cmds.length + 1)

/-- A command that always completes. -/
def State.next (s : State) (d : Dev) : Host.Outcome State Fault Refusal := .next (s.run d)

/-- What bodies may read. -/
def State.env (s : State) : Env := { mem := s.mem, bank := s.bank }

/-- The device accepts a host command, and starts it when it can. -/
def State.host (s : State) (i : Instr) (c : Tag) (obj : Word) (h : HostCmd) : Host.Outcome State Fault Refusal :=
  s.next (s.dev.start s.bank i c obj h)

end Sys2Proof.Machine
end

