-- ==== Sys2Proof/Machine/Buffer.lean ====
section
/-! DEFINITION. The packet buffer (R321, R322): cells, partitions, the shared pool. -/
namespace Sys2Proof.Machine
open Sys2Proof

/-- Cells of a frame of `n` bytes without FCS (R321). -/
def cellsOf (n : Nat) : Nat := ceilDiv n 256
/-- A partition by number. -/
def Dtm.part (x : Dtm) (k : Nat) : Part := if k = 0 then x.part0 else if k = 1 then x.part1 else x.part2
def Dtm.modPart (x : Dtm) (k : Nat) (f : Part → Part) : Dtm :=
  if k = 0 then { x with part0 := f x.part0 } else if k = 1 then { x with part1 := f x.part1 } else { x with part2 := f x.part2 }
/-- Cells a partition has drawn from the shared pool. -/
def Part.drawn (x : Part) : Nat := x.used - x.res
/-- Free cells of the shared pool (R321, R322). -/
def Dtm.shared (x : Dtm) : Nat :=
  524288 - (x.part0.res + x.part1.res + x.part2.res) - (x.part0.drawn + x.part1.drawn + x.part2.drawn)
/-- The partition takes a frame of `c` cells (R322). -/
def Dtm.takes (x : Dtm) (k c : Nat) : Bool :=
  let q := x.part k
  decide (q.used + c ≤ q.max) && (decide (q.used + c ≤ q.res) || decide (c ≤ x.shared))

/-- The pool after a change of partition `k` (R322): DTM_SHARED_EMPTY when it first has no free cell after it last had 32,768. -/
def Dev.notePool (d : Dev) (k : Nat) : Dev :=
  if d.dtm.shared = 0 && d.dtm.poolHigh then
    { d with dtm := { d.dtm with poolHigh := false } }.emit 0x8704 (srcOf 0 3) (le 4 k ++ le 4 (d.ctr (ctrIdx 0x40098)).val.toNat)
  else if 32768 ≤ d.dtm.shared then { d with dtm := { d.dtm with poolHigh := true } }
  else d

/-- Changes partition `k`. -/
def Dev.setPart (d : Dev) (k : Nat) (f : Part → Part) : Dev := { d with dtm := d.dtm.modPart k f }.notePool k

/-- A frame enters partition `k`, or is counted in DTM_BUF_DROP (R322). -/
def Dev.takeCells (d : Dev) (k c : Nat) : Bool × Dev :=
  if d.dtm.takes k c then (true, d.setPart k fun q => { q with used := q.used + c }) else (false, d.count 0x40098)

/-- A frame leaves partition `k`. -/
def Dev.freeCells (d : Dev) (k c : Nat) : Dev := d.setPart k fun q => { q with used := q.used - c }

/-- DTM_PARTITION_SET (R323). -/
def cmdDtmPartitionSet (c : Tag) (obj : Word) (part : Byte) (res max : Word) (d0 : Dev) : HostCmd :=
  let x := d0.dtm.modPart part.toNat fun q => { q with res := res.toNat, max := max.toNat }
  { opc := 0x0704
    good := objIs obj 0 1 && decide (part.toNat < 3 ∧ res.toNat ≤ max.toNat ∧ max.toNat ≤ 524288 ∧
      x.part0.res + x.part1.res + x.part2.res ≤ 524288)
    reach := [if !objIs obj 0 1 then .package else .parts (decide (2 < part.toNat))]
    body := fun d => (d.setPart part.toNat fun q => { q with res := res.toNat, max := max.toNat }).complete c stOk }

end Sys2Proof.Machine
end

