-- ==== Sys2Proof/Machine/Punt.lean ====
section
/-! DEFINITION. Punt rings (R79 to R81): descriptors and buffers in host memory. -/
namespace Sys2Proof.Machine
open Sys2Proof

/-- EN, COUNT and TIME_US of a punt or inject ring (Table 2-17), and its size in entries. -/
def PktRing.en (x : PktRing) : Bool := x.ctrl.getLsbD 0
def PktRing.cnt (x : PktRing) : Nat := x.ctrl.toNat / 256 % 256
def PktRing.timeUs (x : PktRing) : Nat := bitsOf x.ctrl.toNat 25 16
def PktRing.entries (x : PktRing) : Nat := 2 ^ x.size
/-- Descriptors between the device's pointer and the host's. -/
def PktRing.posted (x : PktRing) : Nat := (x.wptr + x.entries - x.rptr) % x.entries
def PktRing.descAddr (x : PktRing) (i : Nat) : Nat := ringBase x.baseLo x.baseHi + i % x.entries * 32

/-- The size register lies in its range (Table 2-13). -/
def PktRing.sizeOk (x : PktRing) : Bool := decide (6 ≤ x.size ∧ x.size ≤ 16)
/-- Descriptor `i` of a ring. With a size outside its range any entry may be misread (Table 2-18): its bytes are free ones. -/
def PktRing.desc (x : PktRing) (m : Sparse Byte) (free i : Nat) : Bytes :=
  if x.sizeOk then memRead m (x.descAddr i) 32 else padTo 32 (Config.freeBytes (free + i))
/-- Where a ring is read: with a size outside its range, entries may be skipped or repeated (Table 2-18). -/
def Dev.pktPtr (d : Dev) (x : PktRing) : PktRing × Dev :=
  if x.sizeOk then (x, d)
  else let (k, d1) := d.pick 16; ({ x with rptr := k % x.entries }, { d1 with free := d1.free + 2 ^ 17 })

/-- Fills posted buffers with a frame (R80), by descriptor `rd i`: descriptor index, buffer address, bytes; and whether the whole frame
found room. -/
def puntFill (rd : Nat → Bytes) : Nat → Nat → Nat → Bytes → List (Nat × Nat × Bytes) × Bool
  | 0, _, _, data => ([], data.isEmpty)
  | n + 1, i, left, data =>
    if data.isEmpty then ([], true)
    else if left = 0 then ([], false)
    else
      let b := rd i
      let len := max 1 (fld b 8 2)
      let r := puntFill rd n (i + 1) (left - 1) (data.drop len)
      ((i, fld b 0 8, data.take len) :: r.1, r.2)

/-- Write-back of one punt descriptor (Table 2-11). -/
def puntDesc (len status flags reason : Nat) (ingress flen : Nat) (stamp : Dword) : Bytes :=
  le 2 len ++ le 1 status ++ le 1 flags ++ le 2 reason ++ le 2 0 ++ le 4 ingress ++ le 4 flen ++ le 8 stamp.toNat

/-- Writes back a descriptor: bytes 8 to 31 but byte 11 first, byte 11 last (R79). -/
def Dev.puntWrite (d : Dev) (a : Nat) (desc : Bytes) : Dev :=
  ((d.write (a + 8) (desc.take 3)).write (a + 12) (desc.drop 4)).write (a + 11) ((desc.drop 3).take 1)

/-- PUNT_FRAME (R79 to R81): a frame without FCS goes to punt ring `r`, or is dropped and counted; it waits in partition 2 of the
packet buffer (R321) for no longer than the write takes. -/
def Dev.puntFrame (d : Dev) (m : Sparse Byte) (r reason ingress : Nat) (data : Bytes) (stamp : Dword) : Dev :=
  let drop (d : Dev) : Dev := d.count (0x10400 + 0x20 * r + 0x18)
  let c := cellsOf data.length
  let (fits, d0) := d.takeCells 2 c
  if !fits then drop d0
  else if !(d.punt r).en || (d.punt r).posted = 0 then drop (d0.freeCells 2 c)
  else
    let (x, d) := (d0.freeCells 2 c).pktPtr (d0.punt r)
    let (fs, ok) := puntFill (x.desc m d0.free) 64 x.rptr x.posted (data.take 16383)
    let n := fs.length
    let d1 := fs.zipIdx.foldl (fun d e =>
      let fl := (if e.2 = 0 then 1 else 0) + (if ok && e.2 + 1 = n then 2 else 0) + 128
      let desc := puntDesc e.1.2.2.length (if ok then stOk else stAbandoned) fl reason ingress
        (if ok && e.2 + 1 = n then data.length else 0) stamp
      (d.write e.1.2.1 e.1.2.2).puntWrite (x.descAddr e.1.1) desc) d
    let d2 := d1.modPunt r fun _ => { x with rptr := (x.rptr + n) % x.entries }
    let d3 := if n = 0 then d2 else { d2 with outbox := d2.outbox ++ [.frameDone (2 + r) x.cnt] }
    if ok then d3 else drop d3

end Sys2Proof.Machine
end

