-- ==== Sys2Proof/Machine/Inject.lean ====
section
/-! DEFINITION. Inject sends in flight (R82 to R84): how their frames end, and the write-back of descriptors in ring order. -/
namespace Sys2Proof.Machine
open Sys2Proof

/-- The name of a flight: its ring and first descriptor. -/
def InjFlight.key (x : InjFlight) : Nat := x.ring * 2 ^ 16 + x.first

/-- Writes back the descriptors of a send that has ended (R82): STATUS, then FLAGS with DONE; STAMP in the LAST one. -/
def Dev.injWrite (d : Dev) (x : InjFlight) : Dev :=
  let r := d.injRing x.ring
  let d1 := x.flags.zipIdx.foldl (fun d e =>
    let a := r.descAddr (x.first + e.2)
    let d2 := if x.stampReq && e.2 + 1 == x.flags.length then d.write (a + 24) (le 8 x.stamp.toNat) else d
    (d2.write (a + 11) [BitVec.ofNat 8 x.status]).write (a + 10) [e.1 ||| 0x80#8]) d
  { d1 with outbox := d1.outbox ++ [.frameDone (18 + x.ring) r.cnt] }

/-- Writes back the oldest sends of a ring while they have ended (R84). -/
def Dev.injFlush (r : Nat) : Nat → Dev → Dev
  | 0, d => d
  | n + 1, d =>
    match d.inj.find? fun x => x.ring == r with
    | none => d
    | some x =>
      if x.left != 0 then d
      else Dev.injFlush r n (({ d with inj := dropFirst (fun y => y.key == x.key) d.inj }).injWrite x)

/-- One frame of a send ends (R83); the send keeps the first status that is not OK. -/
def Dev.injEnd (d : Dev) (key : Option Nat) (status : Nat) (stamp : Dword := 0) : Dev :=
  match key with
  | none => d
  | some k =>
    match d.inj.find? fun x => x.key == k with
    | none => d
    | some x =>
      let y := { x with left := x.left - 1, status := if x.status = 0 then status else x.status, stamp := stamp }
      let d1 := { d with inj := modWhere (fun x => x.key == k) (fun _ => y) d.inj }
      d1.injFlush x.ring d1.inj.length

/-- Many frames end with one status. -/
def Dev.injEndAll (d : Dev) (status : Nat) (l : List (Option Nat)) : Dev := l.foldl (fun d k => d.injEnd k status) d

end Sys2Proof.Machine
end

