-- ==== Sys2Proof/Machine/Ranging.lean ====
section
/-! DEFINITION. Chapter 04: the upstream time line, discovery, ranging of a terminal, per-burst tracking, trunks and steps. -/
namespace Sys2Proof.Machine
open Sys2Proof

/-! ### Units of time (R127, Table 4-1) -/

/-- A word of the generation, in f. -/
def wordF : Nat → Nat
  | 1 => 2048
  | 2 => 2560
  | 3 => 10240
  | 4 => 5120
  | _ => 0
/-- Words per frame of the generation. -/
def wordsPerFrame : Nat → Nat
  | 1 => 48600
  | 2 => 38880
  | 3 => 9720
  | 4 => 19440
  | _ => 0
/-- One frame of 125 us, in f. -/
def frameF : Nat := 99532800
/-- RATE lies in Table 3-5 for the generation. -/
def rateOk (gen rate : Nat) : Bool := decide (rate ≤ (if gen = 1 then 2 else 0))
/-- A bit at the generation's upstream rate (Table 3-1, Table 3-5 RATE), in f; outside Table 3-5 it is not defined (R222). -/
def bitF (gen rate : Nat) : Nat :=
  match gen with
  | 1 => if rate = 2 then 16 else if rate = 1 then 32 else if rate = 0 then 64 else Config.badBit gen rate
  | 2 => if rate = 0 then 80 else Config.badBit gen rate
  | 3 => if rate = 0 then 320 else Config.badBit gen rate
  | 4 => if rate = 0 then 640 else Config.badBit gen rate
  | _ => 0
/-- Bits that one word carries on the wire (Table 7-3). -/
def bitsPerWord (gen rate : Nat) : Nat :=
  if !rateOk gen rate then Config.badWord gen rate else if bitF gen rate = 0 then 0 else wordF gen / bitF gen rate
/-- The unit of a sent equalisation delay (Table 4-1a), in f. -/
def eqdUnit (gen : Nat) : Nat := if gen = 1 then 1 else bitF gen 0
/-- A length in ns, times 10^4, in f times 10^4 (R127: 1 ns is 796.2624 f). -/
def nsF4 (n : Int) : Int := n * 7962624
/-- An equalisation delay as sent, from its value in f times 10^4 (R130). -/
def sendRound4 (gen : Nat) (x4 : Int) : Int :=
  let u := max 1 (eqdUnit gen)
  roundTieDown x4 (10000 * u) * u
/-- An equalisation delay as sent, from its value in f (R130). -/
def sendRound (gen : Nat) (x : Int) : Int := sendRound4 gen (x * 10000)

/-- TEQD_eff of a tree port (R128). -/
def Port.teqdEff (q : Port) : Int := q.teqd.toNat + q.teqdAdj

/-- Header bits of a profile: preamble and delimiter. -/
def Profile.hdrBits (x : Profile) : Nat := (x.preLen + x.delLen) * 8
/-- Header words Hw and guard words Gw of a profile on a lane (R222). -/
def Profile.hw (x : Profile) (gen : Nat) : Nat := ceilDiv x.hdrBits (bitsPerWord gen x.rate)
def Profile.gw (x : Profile) (gen : Nat) : Nat := ceilDiv x.guardBits (bitsPerWord gen x.rate)

/-- The arrival instant A in f after F_M, rounded to 1/16 bit (R132). -/
def arrivalA (gen : Nat) (x : Profile) (rtd eqd : Int) (s : Nat) : Int :=
  let b := bitF gen x.rate
  let u := max 1 (b / 16)
  roundTieDown (rtd + eqd + s * wordF gen - x.hdrBits * b) u * u
/-- The expected delimiter instant E (R132). -/
def expectE (gen : Nat) (x : Profile) (rtd eqd : Int) (s : Nat) : Int :=
  arrivalA gen x rtd eqd s + x.preLen * 8 * bitF gen x.rate
/-- K of R143, in f. -/
def searchK (gen : Nat) (x : Profile) : Int := min (x.guardBits * bitF gen x.rate / 2) (512 * bitF gen x.rate)

/-! ### Records of terminals -/

/-- The terminal is ranged (Table 4-7 STATE 3 or 4). -/
def Term.ranged (t : Term) : Bool := t.state == 3 || t.state == 4
/-- Terminals ranged or being ranged (RNG_STATUS.RANGED). -/
def Port.rangedCount (q : Port) : Nat := (q.terms.filter fun e => e.2.ranged).length + q.attempts.length
/-- o_i (R132). -/
def Port.offset (q : Port) (t : Term) : Int := t.rtd + t.eqd - q.teqdEff

/-- OWN_TRUNK (Table 4-9). -/
def Port.ownTrunk (q : Port) : Nat := b2n (q.rngCtrl.getLsbD 2)
/-- The live trunk (R152): that of the package active on the tree. Where neither package is, it is the own one (log entry 30). -/
def Dev.liveTrunk (d : Dev) (p : Nat) : Nat :=
  let own := (d.port p).ownTrunk
  let r := (d.tree p).role
  if r = 2 || r = 3 || (decide (3 < r) && d.prot.mateActive.getLsbD p) then 1 - own else own

/-- The asymmetry that corrects time of day on a lane; 0 while unknown or re-routed (R155). -/
def Trunk.alpha (t : Trunk) : Lane → Int
  | .main => if t.knownM && !t.rerouteM then t.asymM else 0
  | .comp => if t.knownC && !t.rerouteC then t.asymC else 0

/-- DS_DELAY of a terminal (R155). -/
def dsDelayOf (t : Term) (alpha : Int) : Int :=
  truncDiv (t.rtd - roundTieDown (nsF4 t.tresp) 10000 + alpha) 2

/-- Recomputes DS_DELAY of one terminal (R155). -/
def Dev.redoDs (d : Dev) (p t : Nat) : Dev :=
  let tr := (d.port p).trunk (d.liveTrunk p)
  d.modPort p fun q => q.modTerm t fun x => { x with dsDelay := dsDelayOf x (tr.alpha x.lane) }

/-- Recomputes DS_DELAY of every ranged terminal (R155). R155 names changes of RTD only; where alpha or the live trunk changes, the model does
so at RNG_TRUNK_SET, RNG_TRUNK_CONFIRM, a write of RNG_CTRL and promotion, and not at a mirrored trunk record nor on becoming standby
(DESIGN CHOICE, log entry 46). -/
def Dev.redoAllDs (d : Dev) (p : Nat) : Dev :=
  ((d.port p).terms.filter fun e => e.2.ranged).foldl (fun d e => d.redoDs p e.1) d

/-! ### Allocation records as words (Table 5-2) -/

/-- Word `k` of allocation record `r`. -/
def WndPort.aw (x : WndPort) (r k : Nat) : Nat := (sget (fun _ => 0#32) x.alloc (r * 16 + k)).toNat
def WndPort.setAw (x : WndPort) (r k v : Nat) : WndPort :=
  { x with alloc := sset (fun _ => 0#32) x.alloc (r * 16 + k) (BitVec.ofNat 32 v) }
def WndPort.rValid (x : WndPort) (r : Nat) : Bool := bitOf (x.aw r 1) 24
def WndPort.rAllocId (x : WndPort) (r : Nat) : Nat := x.aw r 0 % 2 ^ 14
def WndPort.rTerm (x : WndPort) (r : Nat) : Nat := x.aw r 0 / 2 ^ 16 % 2 ^ 10
def WndPort.rLane (x : WndPort) (r : Nat) : Nat := x.aw r 1 % 2 ^ 8
def WndPort.rClass (x : WndPort) (r : Nat) : Nat := x.aw r 1 / 2 ^ 8 % 2 ^ 8
def WndPort.rProf (x : WndPort) (r : Nat) : Nat := x.aw r 1 / 2 ^ 16 % 2 ^ 8
def WndPort.rPrec (x : WndPort) (r : Nat) : Nat := x.aw r 2 % 2 ^ 16
def WndPort.rFixed (x : WndPort) (r : Nat) : Nat := x.aw r 3
def WndPort.rAdmit (x : WndPort) (r : Nat) : Nat := x.aw r 10
def WndPort.rDstate (x : WndPort) (r : Nat) : Nat := x.aw r 11 % 2 ^ 8
/-- Writes a bit of DSTATE (byte 44). -/
def WndPort.setDbit (x : WndPort) (r bit : Nat) (on : Bool) : WndPort :=
  let v := x.rDstate r
  x.setAw r 11 (v - b2n (bitOf v bit) * 2 ^ bit + b2n on * 2 ^ bit)
/-- Records that hold anything. -/
def WndPort.recs (x : WndPort) : List Nat := (x.alloc.map fun e => e.1 / 16).eraseDups
/-- VALID records. -/
def WndPort.valids (x : WndPort) : List Nat := x.recs.filter x.rValid

/-- RANGED in DSTATE of the terminal's allocations (Table 4-3 step 6). -/
def Port.markRanged (q : Port) (t : Nat) (on : Bool) : Port :=
  let l := q.wnd.valids.filter fun r => q.wnd.rTerm r == t
  { q with wnd := l.foldl (fun x r => x.setDbit r 0 on) q.wnd }

/-! ### PLOAM messages of ranging -/

/-- Queues a ranging or discovery message (R109 item 1). -/
def Port.sendRng (q : Port) (l : Lane) (m : Ploam) : Port := q.modLane l fun x => { x with rngQ := x.rngQ ++ [m] }

/-! ### Commands -/

/-- RNG_DISCOVER (R133): the programme takes effect at the first seal point. -/
def cmdRngDiscover (c : Tag) (obj : Word) (lane profile : Byte) (window far period : Half) (count : Word)
    (d0 : Dev) : HostCmd :=
  let p := objIndex obj
  let w := if window.toNat = 0 then 250 else window.toNat
  let per := if period.toNat = 0 then 8 else period.toNat
  { opc := 0x0201
    good := objIs obj 1 64 && decide (lane.toNat ≤ 1 ∧ profile.toNat ≤ 3 ∧ 50 ≤ w ∧ w ≤ 450 ∧ 35 ≤ far.toNat ∧
      far.toNat ≤ 1000 ∧ per ≤ 8000 ∧ nsF4 (1000 * far.toNat) ≤ (d0.port p).teqdEff * 10000)
    reach := reachIf (objIs obj 1 64) (.tree p)
    body := fun d => d.activeOnly p c fun d =>
      let l := laneOf lane.toNat
      if !((d.port p).lane l).live then d.complete c stAbandoned
      else d.modPort p fun q => { (q.modLane l fun x =>
        { x with discPend := some (c, ⟨decide (count ≠ 0), profile.toNat, w, far.toNat, per, count.toNat, 0, 0, q.reqSeq + 1⟩) }) with
          reqSeq := q.reqSeq + 1 } }

/-- E_r of a ranging attempt (Table 4-3 step 2). -/
def rangingEr (q : Port) (gen : Nat) (x : Profile) (hint : Int) (randKnown : Bool) : Int :=
  let us : Int := if randKnown then 8 else 52
  sendRound4 gen ((q.teqdEff - hint - x.hw gen * wordF gen + x.hdrBits * bitF gen x.rate) * 10000 + nsF4 (1000 * us))

/-- RNG_TERMINAL_ADD (R138 to R141). -/
def cmdRngTerminalAdd (c : Tag) (obj : Word) (serial : Dword) (lane rflags profile : Byte) (hint tresp : Word)
    (limit : Half) (d0 : Dev) : HostCmd :=
  let p := (objTerm obj).1
  let t := (objTerm obj).2
  let rebase := rflags.getLsbD 0
  { opc := 0x0202
    good := objIs obj 2 65536 && decide (t ≤ 1019 ∧ lane.toNat ≤ 1 ∧ profile.toNat ≤ 3 ∧ limit.toNat ≤ 10000) &&
      (rebase || (((d0.port p).term t).state == 0 &&
        !((d0.port p).terms.any fun e => e.2.ranged && e.2.serial == serial)))
    reach := reachIf (objIs obj 2 65536) (.tree p)
    body := fun d => d.activeOnly p c fun d =>
      let q := d.port p
      let l := laneOf lane.toNat
      let x := q.term t
      if !(q.lane l).live then d.complete c stAbandoned
      else if rebase then
        if x.ranged then
          (d.modPort p fun q => q.modTerm t fun x =>
            { x with eqdBase := x.eqd, limit := false, trackFail := false }).complete c stOk
        else d.complete c stFailed [0x02#8]
      else if 512 ≤ q.rangedCount then d.complete c stFailed [0x01#8]
      else
        let gen := (q.lane l).gen
        let rk := rflags.getLsbD 1
        let er := rangingEr q gen (q.prof profile.toNat) hint.toNat rk
        let a : Attempt := { tag := c, id := q.reqSeq + 1, term := t, lane := l, randKnown := rk, prof := profile.toNat, hint := hint.toNat, er := er }
        let x1 : Term := { state := 1, lane := l, serial := serial, tresp := if tresp.toNat = 0 then 35000 else tresp.toNat }
        d.modPort p fun q =>
          (({ (q.modTerm t fun _ => x1) with attempts := q.attempts ++ [a], reqSeq := q.reqSeq + 1 }).sendRng l (.assign t serial)).sendRng l
            (.rangingTime t er) }

/-- Ends a ranging attempt without success (R139): deactivates the ID; the terminal is not ranged. -/
def Dev.failAttempt (d : Dev) (p : Nat) (a : Attempt) (code : Byte) : Dev :=
  (d.modPort p fun q =>
    { ((q.modTerm a.term fun _ => {}).sendRng a.lane (.deactivate a.term)) with
      attempts := dropFirst (fun b => b.term == a.term) q.attempts
      rngReqs := q.rngReqs.filter fun r => !(r.ranging && r.term == a.term) }).complete a.tag stTimeout [code]

/-- RNG_TERMINAL_REMOVE (R142): not ranged from the first seal point. -/
def cmdRngTerminalRemove (c : Tag) (obj : Word) (_ : Dev) : HostCmd :=
  let p := (objTerm obj).1
  let t := (objTerm obj).2
  { opc := 0x0203
    good := objIs obj 2 65536 && decide (t ≤ 1019)
    body := fun d => d.activeOnly p c fun d => d.modPort p fun q =>
      { q.sendRng (q.term t).lane (.deactivate t) with removes := q.removes ++ [(c, t)] } }

/-- RNG_TRUNK_SET (R153): at the next frame start. -/
def cmdRngTrunkSet (c : Tag) (obj : Word) (dly asymM asymC : Word) (tflags : Byte) (_ : Dev) : HostCmd :=
  { opc := 0x0204
    good := objIs obj 0x11 128
    body := fun d => d.modPort (objIndex obj / 2) fun q =>
      { q with trunkPend := q.trunkPend ++
          [⟨c, objIndex obj % 2, some (dly.toNat, asymM.toInt, asymC.toInt, tflags.getLsbD 0, tflags.getLsbD 1)⟩] } }

/-- RNG_TRUNK_CONFIRM (R153): at the next frame start. -/
def cmdRngTrunkConfirm (c : Tag) (obj : Word) (_ : Dev) : HostCmd :=
  { opc := 0x0205
    good := objIs obj 0x11 128
    body := fun d => d.modPort (objIndex obj / 2) fun q =>
      { q with trunkPend := q.trunkPend ++ [{ tag := c, trunk := objIndex obj % 2, vals := none }] } }

/-- A trunk command takes effect (R153). -/
def TrunkPend.apply (x : TrunkPend) (t : Trunk) : Trunk :=
  match x.vals with
  | some (dly, am, ac, km, kc) =>
    { t with
      dly := dly, asymM := am, asymC := ac, knownM := km, knownC := kc
      rerouteM := t.rerouteM && !km, rerouteC := t.rerouteC && !kc }
  | none =>
    if t.rerouteM || t.rerouteC then
      { t with knownM := t.wasM, knownC := t.wasC, rerouteM := false, rerouteC := false }
    else t

/-! ### Windows and responses -/

/-- DISCOVERY_REQUEST (R134): under a programme whose period has run out, a request is posted, at most one at a time. -/
def discoveryPost (q : Port) (l : Lane) : Port :=
  let x := (q.lane l).disc
  if (q.lane l).live && x.running && x.wait = 0 && decide (x.placed < x.count ∨ x.count = 0xFFFFFFFF) &&
      !(q.rngReqs.any fun r => !r.ranging && r.lane == l) then
    { q with rngReqs := q.rngReqs ++ [{ lane := l, ranging := false, wUs := x.window, prof := x.prof, term := 0, far := x.far, id := x.id }] }
  else q

/-- EqD_pre of a discovery window (R135), as sent. -/
def eqdPre (q : Port) (gen : Nat) (w : Win) : Int :=
  sendRound4 gen ((q.teqdEff + w.len * wordF gen) * 10000 - nsF4 (1000 * (w.req.far + 54)))

/-- Takes the oldest window in flight of a kind from a lane. -/
def LaneS.takeWin (x : LaneS) (ranging : Bool) : Option (Nat × Win) × LaneS :=
  (x.winsOut.find? fun e => e.2.req.ranging == ranging,
   { x with winsOut := dropFirst (fun e => e.2.req.ranging == ranging) x.winsOut })

/-- DISCOVERY_WINDOW (R137): serial-number responses found in the oldest discovery window in flight, under the profile and the EqD_pre sent
with it. -/
def Dev.discoveryWindow (d : Dev) (p : Nat) (l : Lane) (sd : Bool) (found : List SnResponse) : Dev :=
  let q := d.port p
  match (q.lane l).takeWin false with
  | (none, _) => d
  | (some (_, w), x) =>
    let gen := (q.lane l).gen
    let pr := w.prof
    let d1 := d.modPort p fun q => q.modLane l fun _ => x
    let d2 := found.foldl (fun d r =>
      let rtd := r.delim - w.pre - w.s * wordF gen + pr.delLen * 8 * bitF gen pr.rate - (r.rand.getD 0 : Nat)
      let known := q.terms.find? fun e => e.2.ranged && e.2.serial == r.serial
      (d.countPort p 0x14C).emitPort p 0x0201 (le 8 r.serial.toNat ++ le 1 l.code ++
        le 1 (b2n r.rand.isSome + 2 * b2n known.isSome) ++ le 4 (uns32 rtd) ++ le 2 ((known.map (·.1)).getD 0))) d1
    if sd && found.isEmpty then d2.countPort p 0x150 else d2

/-- 8 us in f, times 10^4. -/
def eightUs4 : Int := nsF4 8000

/-- E of a step-6 response (Table 4-3): A lies 8 us after the window's start. -/
def step6E (gen : Nat) (x : Profile) (a : Attempt) (w : Win) : Int :=
  let b := bitF gen x.rate
  let u := max 1 (b / 16)
  roundTieDown ((a.rtd + a.eqd + w.o * wordF gen) * 10000 + eightUs4) (10000 * u) * u + x.preLen * 8 * b

/-- A measurement of step 4, and steps 5 and 6 begin (Table 4-3). -/
def Dev.rangeMeasured (d : Dev) (p : Nat) (a : Attempt) (rtd : Int) : Dev :=
  d.modPort p fun q =>
    let eqd := sendRound (q.lane a.lane).gen (q.teqdEff - rtd)
    { (q.sendRng a.lane (.rangingTime a.term eqd)) with
      attempts := modWhere (fun b => b.term == a.term)
        (fun b => { b with step6 := true, tries := 0, rtd := rtd, eqd := eqd, posted := false }) q.attempts }

/-- The terminal is ranged (Table 4-3 step 6). -/
def Dev.rangeDone (d : Dev) (p : Nat) (a : Attempt) : Dev :=
  ((d.modPort p fun q =>
    ({ (q.modTerm a.term fun x => { x with state := 3, rtd := a.rtd, eqd := a.eqd, eqdBase := a.eqd }) with
      attempts := dropFirst (fun b => b.term == a.term) q.attempts }).markRanged a.term true).redoDs p a.term).complete a.tag
    stOk (le 4 (uns32 a.rtd) ++ le 4 (uns32 a.eqd))

/-- A ranging window without a valid response (R139). -/
def Dev.rangeMissed (d : Dev) (p : Nat) (a : Attempt) : Dev :=
  if 3 ≤ a.tries + 1 then d.failAttempt p a 0x01#8
  else d.modPort p fun q =>
    let q1 := { q with
      attempts := modWhere (fun b => b.term == a.term) (fun b => { b with tries := b.tries + 1, posted := false }) q.attempts }
    if a.step6 then q1 else q1.sendRng a.lane (.rangingTime a.term a.er)

/-- RANGING_WINDOW (R138, R139, R243): the oldest ranging window in flight ends, with the delimiter instant of its response; a window of an
attempt that has ended is ignored. -/
def Dev.rangingWindow (d : Dev) (p : Nat) (l : Lane) (resp : Option Int) : Dev :=
  let q := d.port p
  match (q.lane l).takeWin true with
  | (none, _) => d
  | (some (_, w), x) =>
    let d1 := d.modPort p fun q => q.modLane l fun _ => x
    match q.attempts.find? fun a => a.id == w.req.id && a.posted with
    | none => d1
    | some a =>
      let gen := (q.lane l).gen
      let pr := w.prof
      match resp with
      | none => d1.rangeMissed p a
      | some m =>
        if a.step6 then
          let e := step6E gen pr a w
          if (m - e).natAbs ≤ 8 * bitF gen pr.rate then d1.rangeDone p a
          else d1.rangeMeasured p a (a.rtd + (m - e))
        else d1.rangeMeasured p a (m - a.er - w.s * wordF gen + pr.delLen * 8 * bitF gen pr.rate)

/-- RANGING_LIMIT_EXPIRY (R139). -/
def Dev.rangingLimit (d : Dev) (p t : Nat) : Dev :=
  match (d.port p).attempts.find? fun a => a.term == t with
  | none => d
  | some a => d.failAttempt p a 0x02#8

/-- The request of an attempt is posted once its message has left (Table 4-3 steps 3 and 6). -/
def Port.postAttempts (q : Port) : Port :=
  let ready (a : Attempt) : Bool := !a.posted &&
    !((q.lane a.lane).rngQ.any fun m => match m with | .rangingTime t _ => t == a.term | _ => false)
  let l := q.attempts.filter ready
  let q1 := l.foldl (fun q a =>
    { (q.modTerm a.term fun x => { x with state := 2 }) with
      rngReqs := q.rngReqs ++ [⟨a.lane, true, if a.step6 || a.randKnown then 16 else 64, a.prof, a.term, 0, a.id⟩] }) q
  { q1 with attempts := modWhere ready (fun a => { a with posted := true }) q1.attempts }

/-! ### Tracking (R143 to R148) -/

/-- |x| > n bits at the burst's rate. -/
def overBits (x : Int) (n b : Nat) : Bool := decide (n * b < x.natAbs)
/-- |x| in f exceeds n ns (R127). -/
def overNs (x : Int) (n : Nat) : Bool := decide (n * 7962624 < x.natAbs * 10000)

/-- The correction of R145, or the limit of R147. -/
def Dev.correct (d : Dev) (p t : Nat) (sfc : Nat) : Dev :=
  let q := d.port p
  let x := q.term t
  let gen := (q.lane x.lane).gen
  let eNew := sendRound gen (x.eqd - q.offset x)
  if !q.rngCtrl.getLsbD 0 || x.state != 3 || x.trackFail || x.limit || 2 ≤ (d.tree p).role then d
  else if overNs (eNew - x.eqdBase) 256 then
    (d.modPort p fun q => q.modTerm t fun x => { x with limit := true }).emitPort p 0x0203
      (le 2 t ++ le 2 0 ++ le 4 (uns32 (eNew - x.eqdBase)))
  else
    (d.modPort p fun q => (q.modTerm t fun x =>
      { x with state := 4, eqdPend := eNew, sends := 1, corrFrames := 0, corrSfc := sfc }).sendRng x.lane
        (.rangingTime t eNew)).countTree p 0x140

/-- Acts on |o_i| after a measured burst (Table 4-4). R146 lets correcting resume after a burst with |o_i| of at most 8 bits; the model clears
TRACK_FAIL at that burst too (DESIGN CHOICE, log entry 46). -/
def Dev.trackLimits (d : Dev) (p t ri : Nat) (bit : Nat) (sfc : Nat) : Dev :=
  let q := d.port p
  let x := q.term t
  let o := q.offset x
  if overBits o 8 bit then
    let d1 :=
      if overBits o 64 bit then
        let d2 := d.countTree p 0x144
        if x.risk then d2
        else (d2.modPort p fun q => q.modTerm t fun x => { x with risk := true }).emitPort p 0x0202
          (le 2 t ++ le 2 ri ++ le 4 (uns32 o) ++ sfc8 sfc)
      else d
    d1.correct p t sfc
  else d.modPort p fun q => q.modTerm t fun x => { x with risk := false, trackFail := false }

/-- A burst of a ranged terminal yields the drift `dr` (R144, R149); `switched`: its delimiter showed EqD_new (R145). -/
def Dev.measured (d : Dev) (p t ri : Nat) (bit : Nat) (dr : Int) (switched : Bool) (sfc : Nat) : Dev :=
  let d0 := d.modPort p fun q => q.modTerm t fun x =>
    let y := { x with lastD := dr, lastSfc := sfc, missRun := 0, silent := false, heard := true }
    if switched then { y with eqd := x.eqdPend, eqdPend := 0, state := 3, sends := 0 } else y
  let q := d0.port p
  match q.watch with
  | some w => d0.modPort p fun q =>
      { q with watch := some { w with kept := (w.kept.filter fun e => e.1 != t) ++ [(t, dr)] } }
  | none =>
    if overNs dr 2 && q.rngCtrl.getLsbD 1 && decide (8 ≤ q.framesSinceRole) then
      d0.modPort p fun q => { q with watch := some { left := 8, kept := [(t, dr)] } }
    else
      ((d0.modPort p fun q => q.modTerm t fun x => { x with rtd := x.rtd + dr }).redoDs p t).trackLimits p t ri bit sfc

/-- A granted burst of a ranged terminal yields no measurement (R148). -/
def Dev.unmeasured (d : Dev) (p t : Nat) (sfc : Nat) : Dev :=
  let n := ((d.port p).term t).missRun + 1
  let d1 := d.modPort p fun q => q.modTerm t fun x => { x with missRun := n }
  if n = 32 then
    (d1.modPort p fun q => q.modTerm t fun x => { x with silent := true }).emitPort p 0x0205
      (le 2 t ++ le 6 0 ++ sfc8 sfc)
  else d1

/-- A frame with a grant to a terminal with a pending correction has passed (R146). -/
def Port.corrPassed (q : Port) (t sfc : Nat) : Port :=
  q.modTerm t fun x => if x.state == 4 && decide (x.corrSfc < sfc) then { x with corrFrames := x.corrFrames + 1, corrSfc := sfc } else x

/-- CORRECTION_RESEND (R146): after 16 frames without the switch. A standby sends no correction (R154), and none is sent during a step watch
(R149). R145 starts corrections while TRACK_EN is 1; one that is pending is sent again whatever TRACK_EN holds (DESIGN CHOICE, log
entry 46). -/
def Dev.correctionResend (d : Dev) (p t : Nat) : Dev :=
  let x := (d.port p).term t
  if x.state == 4 && decide (16 ≤ x.corrFrames ∧ (d.tree p).role ≤ 1) then
    if x.sends < 3 then
      if (d.port p).watch.isSome then d else (d.modPort p fun q => (q.modTerm t fun x => { x with sends := x.sends + 1, corrFrames := 0 }).sendRng x.lane
        (.rangingTime t x.eqdPend)).countTree p 0x140
    else
      (d.modPort p fun q => q.modTerm t fun x =>
        { x with state := 3, eqdPend := 0, sends := 0, trackFail := true }).emitPort p 0x0204
        (le 2 t ++ le 2 0 ++ le 4 (uns32 x.eqdPend))
  else d

/-! ### Step watches (R149 to R151) -/

/-- The median of R150: mean of the two middle values truncated toward zero when their number is even. -/
def median (l : List Int) : Int :=
  let s := sortBy (fun a b => decide (a < b)) l
  let n := s.length
  if n = 0 then 0
  else if n % 2 = 1 then s.getD (n / 2) 0
  else truncDiv (s.getD (n / 2 - 1) 0 + s.getD (n / 2) 0) 2

/-- A common-mode step (R150): at least 2 terminals, every value of the median's sign and within 1 ns of it, |m| > 2 ns. -/
def commonStep (kept : List Int) : Bool :=
  let m := median kept
  decide (2 ≤ kept.length) && overNs m 2 &&
    kept.all fun x => decide (0 < x * m) && !overNs (x - m) 1

/-- The trunk that absorbs a step: the live one, or a standby's own (R150). -/
def Dev.stepTrunk (d : Dev) (p : Nat) : Nat := if d.deputy p then (d.port p).ownTrunk else d.liveTrunk p

/-- A trunk takes a step of `m` (R150, R153): re-routed, its asymmetry unknown. When a second step falls before RNG_TRUNK_CONFIRM, the KNOWN
values kept are those before the first (DESIGN CHOICE, log entry 46). -/
def Trunk.step (t : Trunk) (m : Int) : Trunk :=
  { t with
    dly := t.dly + truncDiv m 2
    wasM := if t.rerouteM then t.wasM else t.knownM
    wasC := if t.rerouteC then t.wasC else t.knownC
    knownM := false, knownC := false, rerouteM := true, rerouteC := true }

/-- Adds to RTD_i of the listed terminals (R150, R151). -/
def Port.addRtd (q : Port) (l : List (Nat × Int)) : Port := l.foldl (fun q e => q.modTerm e.1 fun x => { x with rtd := x.rtd + e.2 }) q

/-- STEP_WATCH_END (R150, R151): the watch ends at its eighth frame start. A terminal no longer ranged has no part in it. -/
def Dev.stepWatchEnd (d : Dev) (p : Nat) : Dev :=
  let q := d.port p
  match q.watch with
  | none => d
  | some w =>
    if w.left ≠ 0 then d
    else
      let kept := w.kept.filter fun e => (q.term e.1).ranged
      let ks := kept.map (·.2)
      let m := median ks
      let d0 := d.modPort p fun q => { q with watch := none }
      let ev (d : Dev) (na : Bool) : Dev := d.emitPort p 0x8206
        (le 1 (d.stepTrunk p) ++ le 1 (b2n (d.deputy p) + 2 * b2n na) ++ le 2 ks.length ++ le 4 (uns32 m) ++ sfc8 q.sfc)
      let single (d : Dev) : Dev := (d.modPort p fun q => q.addRtd kept).redoAllDs p
      if !commonStep ks then single d0
      else if overNs (q.teqdAdj + m) 16000 then single (ev d0 true)
      else
        let all := (q.terms.filter fun e => e.2.ranged).map fun e => (e.1, m)
        let d1 := (d0.countTree p 0x148).modPort p fun q =>
          (({ q with teqdAdj := q.teqdAdj + m }).addRtd all).modTrunk (d0.stepTrunk p) fun t => t.step m
        ev (d1.redoAllDs p) false

end Sys2Proof.Machine
end

