-- ==== Sys2Proof/Machine/Dtm.lean ====
section
/-! DEFINITION. The downstream traffic manager (chapter 11): admission, scheduling, buckets and calendar, minimum rates, discards,
sampling, commands. -/
namespace Sys2Proof.Machine
open Sys2Proof

/-! ### Nodes by number (Table 11-1) -/

def Dev.flowQ (d : Dev) (h : Nat) : FlowQ := sget (fun _ => {}) d.dtm.flows h
def Dev.modFlowQ (d : Dev) (h : Nat) (f : FlowQ → FlowQ) : Dev :=
  { d with dtm := { d.dtm with flows := sset (fun _ => {}) d.dtm.flows h (f (d.flowQ h)) } }
def Dev.termNode (d : Dev) (k : Nat) : TermNode := sget (fun _ => {}) d.dtm.nodes k
def Dev.modTermNode (d : Dev) (k : Nat) (f : TermNode → TermNode) : Dev :=
  { d with dtm := { d.dtm with nodes := sset (fun _ => {}) d.dtm.nodes k (f (d.termNode k)) } }
def Dev.genNode (d : Dev) (g : Nat) : TopNode := sget (fun _ => {}) d.dtm.gens g
def Dev.modGenNode (d : Dev) (g : Nat) (f : TopNode → TopNode) : Dev :=
  { d with dtm := { d.dtm with gens := sset (fun _ => {}) d.dtm.gens g (f (d.genNode g)) } }
def Dev.outNode (d : Dev) (p : Nat) : TopNode := sget (fun _ => {}) d.dtm.outs p
def Dev.modOutNode (d : Dev) (p : Nat) (f : TopNode → TopNode) : Dev :=
  { d with dtm := { d.dtm with outs := sset (fun _ => {}) d.dtm.outs p (f (d.outNode p)) } }
def Dev.watchSlot (d : Dev) (w : Nat) : WatchSlot := sget (fun _ => {}) d.dtm.watches w
def Dev.setWatch (d : Dev) (w : Nat) (x : WatchSlot) : Dev :=
  { d with dtm := { d.dtm with watches := sset (fun _ => {}) d.dtm.watches w x } }

/-- The terminal node of a flow queue lies on the tree port of its handle (R317). -/
def nodeOf (h : Nat) (x : FlowQ) : Nat := h / 2 ^ 14 * 512 + x.parent % 512
/-- The generation node of a terminal node. -/
def genOf (k : Nat) (x : TermNode) : Nat := k / 512 * 2 + x.lane % 2
/-- Flow queues below a generation node, under a VALID terminal node or not. -/
def Dev.flowsBelow (d : Dev) (g : Nat) : List FlowQ :=
  (d.dtm.flows.filter fun e => genOf (nodeOf e.1 e.2) (d.termNode (nodeOf e.1 e.2)) == g).map (·.2)
/-- VALID flow queues below a terminal node. -/
def Dev.flowsOf (d : Dev) (k : Nat) : List (Nat × FlowQ) :=
  d.dtm.flows.filter fun e => e.2.valid && nodeOf e.1 e.2 == k
/-- VALID terminal nodes below a generation node. -/
def Dev.nodesOf (d : Dev) (g : Nat) : List (Nat × TermNode) := d.dtm.nodes.filter fun e => e.2.valid && genOf e.1 e.2 == g

/-- Bytes of a flow queue. -/
def FlowQ.bytes (x : FlowQ) : Nat := x.q.foldl (fun n f => n + f.data.length) 0
/-- Length of its head frame. -/
def FlowQ.headLen (x : FlowQ) : Nat := (x.q.head?.map (·.data.length)).getD 0

/-! ### Buckets (R327) -/

/-- Tokens now, growing at a rate, in 10^-6 bytes: 64 kb/s is 8 x 10^-6 bytes in a time-base cycle. -/
def Bucket.now (b : Bucket) (rate now : Nat) : Int :=
  min ((b.burst * 1000000 : Nat) : Int) (b.t + ((now - b.tAt) * rate * 8 : Nat))
/-- Its tokens as a state block shows them, in whole bytes (Table 11-6). -/
def Bucket.shown (b : Bucket) (rate now : Nat) : Bytes := le 4 (uns32 ((b.now rate now).fdiv 1000000))
/-- A peak bucket holds at least `n` bytes; an unshaped one always does. -/
def Bucket.peakOk (b : Bucket) (now n : Nat) : Bool := b.rate == 0 || decide (n * 1000000 ≤ b.now b.rate now)
/-- A minimum bucket, which grows at MIN_EFF, holds at least `n` bytes. -/
def TermNode.minOk (x : TermNode) (now n : Nat) : Bool := x.min.rate != 0 && decide (n * 1000000 ≤ x.min.now x.minEff now)
/-- Debits a bucket that grows at a rate. -/
def Bucket.debit (b : Bucket) (rate now n : Nat) : Bucket := { b with t := b.now rate now - n * 1000000, tAt := now }

/-! ### Finish tags (R324, R325) -/

/-- The cost of a frame of `n` bytes to a child of a weight. -/
def tagCost (n weight : Nat) : Word := BitVec.ofNat 32 (ceilDiv (n * 256) weight)
/-- The child with the smallest distance ahead of V; among equals the lowest number. -/
def pickTag (v : Word) : List (Nat × Word) → Option (Nat × Word)
  | [] => none
  | e :: l =>
    match pickTag v l with
    | none => some e
    | some b => if (b.2 - v).toNat < (e.2 - v).toNat || ((b.2 - v).toNat == (e.2 - v).toNat && decide (b.1 < e.1)) then some b else some e

/-- A node's handle: kind and number (R318). -/
def nodeHandle (kind num : Nat) : Nat := kind * 2 ^ 20 + num
/-- The node waits in the calendar (R328). -/
def Dev.calendared (d : Dev) (h : Nat) : Bool := d.dtm.cal.any fun e => e.1 == h

/-- The flow queue a terminal node would send from, with its finish tag (R325): EXP first. -/
def Dev.termPick (d : Dev) (k : Nat) : Option (Nat × Word) :=
  let busy := (d.flowsOf k).filter fun e => !e.2.q.isEmpty
  let ex := busy.filter fun e => e.2.exp
  pickTag (d.termNode k).v ((if ex.isEmpty then busy else ex).map fun e => (e.1, e.2.s + tagCost e.2.headLen e.2.weight))

/-- Length of the frame a terminal node would send; none when it has none. -/
def Dev.termLen (d : Dev) (k : Nat) : Option Nat := (d.termPick k).map fun e => (d.flowQ e.1).headLen

/-- A terminal node's peak bucket lets it send. -/
def Dev.termReady (d : Dev) (e : Nat × TermNode) : Bool :=
  match d.termLen e.1 with
  | none => false
  | some n => !d.calendared (nodeHandle 1 e.1) && e.2.peak.peakOk d.now n

/-- The terminal node a generation node would serve, its tag, and whether it is committed (R325). -/
def Dev.genPick (d : Dev) (g : Nat) : Option (Nat × Word × Bool) :=
  let ok := (d.nodesOf g).filter d.termReady
  let com := ok.filter fun e => e.2.minOk d.now ((d.termLen e.1).getD 0)
  let l := if com.isEmpty then ok else com
  (pickTag (d.genNode g).v (l.map fun e => (e.1, e.2.s + tagCost ((d.termLen e.1).getD 0) e.2.weight))).map fun e =>
    (e.1, e.2, !com.isEmpty)

/-- Bytes that a lane's downstream buffer of 256 KiB can still take (R95). -/
def LaneS.room (x : LaneS) : Nat := 262144 - x.buf.foldl (fun n f => n + f.data.length) 0

/-- A lane, neither off nor draining, of a tree that is active or unpaired (R319 check 2). -/
def Dev.laneOpen (d : Dev) (p : Nat) (l : Lane) : Bool := decide ((d.tree p).role ≤ 1) && ((d.port p).lane l).live

/-- The lane runs for traffic: it has left its dark frame, in which frames wait, and R32 does not hold it (R319). -/
def Dev.laneServed (d : Dev) (p : Nat) (l : Lane) : Bool :=
  d.laneOpen p l && ((d.port p).lane l).st == .lit && (d.port p).hold == 0

/-- A generation node can be served apart from its own bucket: a frame of `n` bytes has room in the lane buffer (R325). -/
def Dev.genRoom (d : Dev) (g n : Nat) : Bool :=
  let p := g / 2
  let l := laneOf (g % 2)
  let onWay := (d.dtm.onDrift.filter fun e => e.1 == p && e.2.1 == l).foldl (fun m e => m + e.2.2.data.length) 0
  d.portUp p && d.laneServed p l && decide (n + 64 + onWay ≤ ((d.port p).lane l).room)

/-- Length of the frame a generation node would send. -/
def Dev.genLen (d : Dev) (g : Nat) : Option Nat := (d.genPick g).bind fun e => d.termLen e.1

/-- The generation node a port output would serve, with its tag. -/
def Dev.outPick (d : Dev) (p : Nat) : Option (Nat × Word) :=
  let ok := [2 * p, 2 * p + 1].filter fun g =>
    match d.genLen g with
    | none => false
    | some n => d.genRoom g n && !d.calendared (nodeHandle 2 g) && (d.genNode g).peak.peakOk d.now n
  pickTag (d.outNode p).v (ok.map fun g => (g, (d.genNode g).s + tagCost ((d.genLen g).getD 0) (d.genNode g).weight))

/-! ### The calendar (R328) -/

/-- The slot in which tokens of a bucket reach `n` bytes: 50 ns a slot, the last one beyond the horizon. -/
def calSlotFor (b : Bucket) (now n : Nat) : Nat :=
  let wait := ceilDiv ((n * 1000000 : Nat) - b.now b.rate now).toNat (b.rate * 8)
  min ((now + wait) / 50) (now / 50 + 131071) % 131072

/-- Places a node whose peak bucket holds less than `n` (R328). -/
def Dev.placeCal (d : Dev) (h : Nat) (b : Bucket) (n : Nat) : Dev :=
  if d.calendared h || b.peakOk d.now n then d
  else { d with dtm := { d.dtm with cal := d.dtm.cal ++ [(h, calSlotFor b d.now n)] } }

/-- The peak bucket of a node and the length of the frame it would send, by handle. -/
def Dev.calNeed (d : Dev) (h : Nat) : Option (Bucket × Nat) :=
  let k := h % 2 ^ 20
  match h / 2 ^ 20 with
  | 1 => (d.termLen k).map fun n => ((d.termNode k).peak, n)
  | 2 => (d.genLen k).map fun n => ((d.genNode k).peak, n)
  | 3 => ((d.outPick k).bind fun e => d.genLen e.1).map fun n => ((d.outNode k).peak, n)
  | _ => none

/-- Takes a node out of the calendar and places it again by its tokens. -/
def Dev.recal (d : Dev) (h : Nat) : Dev :=
  let d1 := { d with dtm := { d.dtm with cal := d.dtm.cal.filter fun e => e.1 != h } }
  match d1.calNeed h with
  | none => d1
  | some (b, n) => d1.placeCal h b n

/-- Takes a node out of the calendar. -/
def Dev.uncal (d : Dev) (h : Nat) : Dev := { d with dtm := { d.dtm with cal := d.dtm.cal.filter fun e => e.1 != h } }

/-- A node's slot comes round (R328): it is eligible again, or, beyond the horizon, placed again. -/
def Dev.calRound (d : Dev) (slot h : Nat) : Dev := if (d.recal h).dtm.cal.contains (h, slot) then d.uncal h else d.recal h

/-- DTM_CALENDAR_SLOT (R328). -/
def Dev.calSlot (d : Dev) (slot : Nat) : Dev := ((d.dtm.cal.filter fun e => e.2 == slot).map (·.1)).foldl (fun d h => d.calRound slot h) d

/-- Calendars the nodes of a port that only their peak bucket holds back: run wherever a node may become so (R328). -/
def Dev.calendarPort (d : Dev) (p : Nat) : Dev :=
  let d1 := [2 * p, 2 * p + 1].foldl (fun d g =>
    (d.nodesOf g).foldl (fun d e => match d.termLen e.1 with
      | none => d
      | some n => d.placeCal (nodeHandle 1 e.1) e.2.peak n) d) d
  let d2 := [2 * p, 2 * p + 1].foldl (fun d g => match d.genLen g with
    | none => d
    | some n => if d.genRoom g n then d.placeCal (nodeHandle 2 g) (d.genNode g).peak n else d) d1
  match d2.calNeed (nodeHandle 3 p) with
  | none => d2
  | some (b, n) => d2.placeCal (nodeHandle 3 p) b n

/-! ### Sending (R325, R326) -/

/-- Debits and tags of the path of a frame of `n` bytes that is sent. -/
def Dev.sendPath (d : Dev) (p g k h n : Nat) (fg fk fh : Word) (com : Bool) : Dev :=
  let d1 := d.modFlowQ h fun x => { x with q := x.q.drop 1, s := fh }
  let d2 := d1.modTermNode k fun x => { x with
    v := fh, s := fk, peak := x.peak.debit x.peak.rate d.now n, min := if com then x.min.debit x.minEff d.now n else x.min }
  let d3 := d2.modGenNode g fun x => { x with v := fk, s := fg, peak := x.peak.debit x.peak.rate d.now n }
  d3.modOutNode p fun x => { x with v := fg, peak := x.peak.debit x.peak.rate d.now n }

/-- The frame that a port output selects goes to the drift (R325, R326). -/
def Dev.selectSend (d : Dev) (p : Nat) : Dev :=
  match d.outPick p with
  | none => d
  | some (g, fg) =>
    let n := (d.genLen g).getD 0
    if d.calendared (nodeHandle 3 p) || !(d.outNode p).peak.peakOk d.now n then d
    else match d.genPick g with
      | none => d
      | some (k, fk, com) => match d.termPick k with
        | none => d
        | some (h, fh) => match (d.flowQ h).q with
          | [] => d
          | f :: _ =>
            let d0 := (d.sendPath p g k h n fg fk fh com).freeCells 0 (cellsOf n)
            let d1 := if f.bad then d0 else d0.count 0x40084
            if f.bad then (d1.count 0x80048).injEnd f.inj stFailed
            else { d1 with dtm := { d1.dtm with onDrift := d1.dtm.onDrift ++ [(p, laneOf (g % 2), { flow := h, data := f.data, inj := f.inj })] } }

/-- DTM_SELECT (R325, R326): the port output hands its selected frame to the drift; nodes that it leaves short of tokens are calendared. -/
def Dev.dtmSelect (d : Dev) (p : Nat) : Dev := (d.selectSend p).calendarPort p

/-! ### Admission (R319, R320, R324) -/

/-- Counts a refused frame of flow `h`; an injected one ends (log entry 31). -/
def Dev.refuse (d : Dev) (h off : Nat) (inj : Option Nat) (status : Nat) : Dev := ((d.count off).countFlow h 5).injEnd inj status

/-- Tokens of a downstream policer now (R257, R320). -/
def FlowQ.tNow (x : FlowQ) (now : Nat) : Nat := min (x.cbs * 1000000) (x.t + (now - x.tAt) * x.cir * 8)

/-- The policer's verdict on a frame of `n` bytes and the queue after it (R320). -/
def FlowQ.police1 (x : FlowQ) (now n : Nat) : Bool × FlowQ :=
  if !x.police then (true, x)
  else
    let t := x.tNow now
    if n * 1000000 ≤ t then (true, { x with t := t - n * 1000000, tAt := now }) else (false, { x with t := t, tAt := now })

/-- A scheduler's child has something to send. -/
def Dev.nodeBusy (d : Dev) (k : Nat) : Bool := (d.flowsOf k).any fun e => !e.2.q.isEmpty
def Dev.genBusy (d : Dev) (g : Nat) : Bool := (d.nodesOf g).any fun e => d.nodeBusy e.1

/-- What wakes when flow queue `h` gets a frame while empty (R324): it, its terminal node, its generation node, each where it
had nothing to send. -/
def Dev.wake (d : Dev) (h : Nat) : Dev :=
  let k := nodeOf h (d.flowQ h)
  let g := genOf k (d.termNode k)
  let d1 := d.modFlowQ h fun x => { x with s := (d.termNode k).v }
  let d2 := if d.nodeBusy k then d1 else d1.modTermNode k fun x => { x with s := (d.genNode g).v }
  if d.genBusy g || !(d.termNode k).valid then d2 else d2.modGenNode g fun x => { x with s := (d.outNode (g / 2)).v }

/-- ADMISSION (R319): a frame without FCS for flow queue `h`. -/
def Dev.enqueue (d : Dev) (h : Nat) (data : Bytes) (inj : Option Nat) : Dev :=
  let x := d.flowQ h
  let n := data.length
  let p := h / 2 ^ 14
  let k := nodeOf h x
  if !x.valid || d.ctxLost h then d.refuse h 0x40088 inj stFailed
  else if !d.laneOpen p (laneOf ((d.termNode k).lane)) then d.refuse h 0x4008C inj stAbandoned
  else
    let (ok, x1) := x.police1 d.now n
    let d1 := d.modFlowQ h fun _ => x1
    if !ok then d1.refuse h 0x40090 inj stFailed
    else if x.qlim != 0 && decide (x.qlim < x.bytes + n) then d1.refuse h 0x40094 inj stFailed
    else
      let (fits, d2) := d1.takeCells 0 (cellsOf n)
      if !fits then (d2.countFlow h 5).injEnd inj stFailed
      else
        let d3 := if x.q.isEmpty then d2.wake h else d2
        ((d3.modFlowQ h fun x => { x with q := x.q ++ [{ data := data, at0 := d.devNs, inj := inj }] }).count 0x40080).calendarPort p

/-! ### Discards (R333, R334) -/

/-- Discards every frame of a flow queue. -/
def Dev.discardFlow (d : Dev) (h : Nat) : Dev :=
  let l := (d.flowQ h).q
  if l.isEmpty then d
  else
    let d1 := (d.modFlowQ h fun x => { x with q := [] }).count 0x4009C l.length
    (l.foldl (fun d f => d.freeCells 0 (cellsOf f.data.length)) d1).injEndAll stAbandoned (l.map (·.inj))

/-- Discards every frame waiting for a lane (R333). -/
def Dev.discardLane (d : Dev) (p : Nat) (l : Lane) : Dev :=
  let hs := (d.dtm.flows.filter fun e => decide (e.1 / 2 ^ 14 = p) && decide (laneOf (d.termNode (nodeOf e.1 e.2)).lane = l)).map (·.1)
  hs.foldl (fun d h => d.discardFlow h) d

/-- A tree leaves the lanes (R333): both. -/
def Dev.discardTree (d : Dev) (p : Nat) : Dev := (d.discardLane p .main).discardLane p .comp

/-! ### Minimum rates (R330 to R332) -/

/-- Nominal payload rate of a lane's current generation (Table 11-5). -/
def nominalRate (gen : Nat) (fec : Bool) : Nat :=
  match gen with
  | 1 => 656640
  | 2 => 135452
  | 3 => 135452
  | 4 => if fec then 36440 else 38880
  | _ => 0

/-- The cut capacity of a generation node (R330). -/
def Dev.cutCap (d : Dev) (g : Nat) : Nat :=
  let r := (d.genNode g).peak.rate
  if r != 0 then r else nominalRate ((d.port (g / 2)).lane (laneOf (g % 2))).gen (d.port (g / 2)).gponFec

/-- Takes an excess from nodes in cut order (R331): node, rate cut. -/
def rateCuts : Nat → List (Nat × TermNode) → List (Nat × Nat)
  | _, [] => []
  | ex, e :: es => (e.1, min ex e.2.min.rate) :: rateCuts (ex - e.2.min.rate) es

/-- MIN_EFF of a node changes (R332): tokens so far grew at the old one; breach or restored. -/
def Dev.setMinEff (d : Dev) (k eff cseq : Nat) : Dev :=
  let x := d.termNode k
  if x.minEff = eff then d.modTermNode k fun x => { x with cut := decide (eff < x.min.rate) }
  else
    let g := genOf k x
    let d1 := d.modTermNode k fun x => { x with
      minEff := eff, cut := decide (eff < x.min.rate), min := { x.min with t := x.min.now x.minEff d.now, tAt := d.now } }
    if eff < x.min.rate then
      (d1.count 0x400A0).emit 0x0701 (srcOf 0 3)
        (le 2 (k % 512) ++ le 1 (g / 2) ++ le 1 (g % 2) ++ le 4 (x.min.rate - eff) ++ le 4 cseq ++ le 4 eff)
    else if x.cut then
      d1.emit 0x0702 (srcOf 0 3) (le 2 (k % 512) ++ le 1 (g / 2) ++ le 1 (g % 2) ++ le 4 eff ++ le 4 cseq)
    else d1

/-- MIN_RATE_CUT (R331, R332): evaluates a generation node from scratch. -/
def Dev.evalGen (d : Dev) (g cseq : Nat) : Dev :=
  let l := d.nodesOf g
  let dem := l.foldl (fun n e => n + e.2.min.rate) 0
  let order := sortBy (fun (a b : Nat × TermNode) =>
    decide (b.2.prec < a.2.prec ∨ (a.2.prec = b.2.prec ∧ b.2.admitSeq.toNat < a.2.admitSeq.toNat))) l
  let cuts := rateCuts (dem - d.cutCap g) order
  l.foldl (fun d e => d.setMinEff e.1 (e.2.min.rate - ((cuts.find? fun c => c.1 == e.1).map (·.2)).getD 0) cseq) d

/-- The generation of a lane changed (R91, R332). -/
def Dev.genChanged (d : Dev) (p : Nat) (l : Lane) : Dev := d.evalGen (2 * p + l.code) 0xFFFFFFFF

/-! ### Sampling (R335, R336) -/

/-- Delay of the head frame (chapter 11). -/
def Dev.headDelay (d : Dev) (x : FlowQ) : Nat :=
  match x.q.head? with
  | none => 0
  | some f => min 0xFFFFFFFF (d.devNs - f.at0)

/-- A sample may end a sweep; how long the sweep took is not in the model's time, only that it is at most 65 ms (R335). -/
def Dev.sweepMayEnd (d : Dev) : Dev :=
  let (e, d1) := d.pick 1
  let (t, d2) := d1.pick 16
  if e = 1 then { d2 with dtm := { d2.dtm with sweepUs := t % 65001 } } else d2

/-- DTM_SWEEP_SAMPLE (R335). -/
def Dev.sweepSample (d : Dev) (h : Nat) : Dev :=
  if !d.dtm.ctrl.getLsbD 0 then d
  else
    let x := d.flowQ h
    let b := x.bytes
    let t := d.headDelay x
    d.sweepMayEnd.modFlowQ h fun x => { x with lastDepth := b, lastDelay := t, maxDepth := max x.maxDepth b, maxDelay := max x.maxDelay t }

/-- The flow queues a watched node stands for (R336). -/
def Dev.watchFlows (d : Dev) (node : Nat) : List FlowQ :=
  let k := node % 2 ^ 20
  match node / 2 ^ 20 % 16 with
  | 0 => [d.flowQ k]
  | 1 => (d.flowsOf k).map (·.2)
  | _ => d.flowsBelow k

/-- WATCH_SAMPLE (R336). -/
def Dev.watchSample (d : Dev) (w : Nat) : Dev :=
  let x := d.watchSlot w
  if !x.en || !d.dtm.ctrl.getLsbD 1 then d
  else
    let fs := d.watchFlows x.node.toNat
    let b := fs.foldl (fun n f => n + f.bytes) 0
    let t := fs.foldl (fun n f => max n (d.headDelay f)) 0
    let ob := decide (x.depthTh ≠ 0 ∧ x.depthTh < b)
    let ot := decide (x.delayTh ≠ 0 ∧ x.delayTh < t)
    let d1 := d.setWatch w { x with
      n := x.n + 1, lastDepth := b, maxDepth := max x.maxDepth b, sumDepth := x.sumDepth + b
      lastDelay := t, maxDelay := max x.maxDelay t, sumDelay := x.sumDelay + t, above := ob || ot }
    if (ob || ot) && !x.above then
      d1.emit 0x0703 (srcOf 0 3) (le 2 w ++ le 1 (b2n ob + 2 * b2n ot) ++ le 1 0 ++ le 4 b ++ le 4 t ++ le 4 x.node.toNat)
    else d1

/-! ### Commands (Table 11-7) -/

/-- Kind and number of a traffic-manager handle (R318). -/
def dtmKind (obj : Word) : Nat := objIndex obj / 2 ^ 20
def dtmNum (obj : Word) : Nat := objIndex obj % 2 ^ 20

/-- Numbers of each kind (Table 11-1). -/
def dtmGood (obj : Word) : Bool :=
  objClass obj == 0x10 && decide (dtmNum obj < match dtmKind obj with
    | 0 => 1048576
    | 1 => 32768
    | 2 => 128
    | 3 => 64
    | 4 => 4096
    | _ => 0)

/-- Bytes 12-43 of a flow queue's record (Table 11-6). -/
def flowRecord (nflags : Byte) (parent weight : Half) (qlim cir cbs : Word) : Bytes :=
  padTo 32 (le 1 nflags.toNat ++ le 1 0 ++ le 2 parent.toNat ++ le 2 weight.toNat ++ le 2 0 ++ le 4 qlim.toNat ++ le 4 cir.toNat ++
    le 4 cbs.toNat)

/-- DTM_NODE_SET on a flow queue (R320, R334, R338). -/
def Dev.setFlowQ (d : Dev) (h : Nat) (nflags : Byte) (parent weight : Half) (qlim cir cbs : Word) : Dev :=
  let x := d.flowQ h
  let v := nflags.getLsbD 0
  let t := if nflags.getLsbD 4 then min (x.tNow d.now) (cbs.toNat * 1000000) else if nflags.getLsbD 3 then cbs.toNat * 1000000 else 0
  let d0 := if v then d else d.discardFlow h
  let q := (d0.flowQ h).q
  let new := { d0.flowQ h with
    valid := v, exp := nflags.getLsbD 1, police := nflags.getLsbD 2, parent := parent.toNat % 512, weight := weight.toNat
    qlim := qlim.toNat, cir := cir.toNat, cbs := cbs.toNat, t := t, tAt := d.now
    record := flowRecord nflags parent weight qlim cir cbs }
  if !q.isEmpty && x.parent != parent.toNat % 512 then
    (((d0.modFlowQ h fun _ => { new with q := [] }).wake h).modFlowQ h fun y => { y with q := q })
  else d0.modFlowQ h fun _ => new

/-- DTM_NODE_SET on a terminal node (R331, R338). -/
def Dev.setTermNode (d : Dev) (k : Nat) (nflags lane : Byte) (term weight prec : Half) (cseq : Nat) : Dev :=
  let x := d.termNode k
  let p := k / 512
  let v := nflags.getLsbD 0
  let new := { x with valid := v, lane := lane.toNat % 2, term := term.toNat, weight := weight.toNat, prec := prec.toNat }
  let adm := sget (fun _ => 0#32) d.dtm.admits p
  let d1 :=
    if v && !x.valid then
      { (d.modTermNode k fun _ => { new with admitSeq := adm }) with
        dtm := { (d.modTermNode k fun _ => { new with admitSeq := adm }).dtm with
          admits := sset (fun _ => 0#32) d.dtm.admits p (adm + 1) } }
    else d.modTermNode k fun _ => new
  let g := genOf k new
  let d2 := if v && (!x.valid || x.lane != new.lane) && d1.nodeBusy k then
      let d2 := d1.modTermNode k fun y => { y with s := (d1.genNode g).v }
      if d.genBusy g then d2 else d2.modGenNode g fun y => { y with s := (d.outNode p).v }
    else d1
  let d3 := if v then d2 else d2.setMinEff k x.min.rate cseq
  if x.valid = v ∧ x.lane = new.lane ∧ x.prec = new.prec then d3
  else
    let d4 := d3.evalGen g cseq
    if x.valid && x.lane != new.lane then d4.evalGen (genOf k x) cseq else d4

/-- The arguments without their RSV bits (R50, Table 11-7). -/
def maskNode : NodeArgs → NodeArgs
  | .flow nf parent weight qlim cir cbs =>
    .flow (nf &&& 0x1F#8) (parent &&& 0x1FF#16) weight (qlim &&& 0xFFFFFF#32) (cir &&& 0xFFFFFF#32) (cbs &&& 0xFFFFFF#32)
  | .term nf lane term weight prec => .term (nf &&& 0x01#8) lane (term &&& 0x3FF#16) weight prec
  | a => a

/-- The generation nodes a DTM_NODE_SET concerns (Table 11-11): those of the node before and after it. -/
def Dev.nodeReach (d : Dev) (kind k : Nat) (a : NodeArgs) : List Reach :=
  match kind, a with
  | 0, .flow _ parent _ _ _ _ =>
    [.nodes (genOf (nodeOf k (d.flowQ k)) (d.termNode (nodeOf k (d.flowQ k)))),
     .nodes (genOf (k / 2 ^ 14 * 512 + parent.toNat % 512) (d.termNode (k / 2 ^ 14 * 512 + parent.toNat % 512)))]
  | 1, .term _ lane _ _ _ =>
    if lane.toNat < 2 then [.nodes (genOf k (d.termNode k)), .nodes (k / 512 * 2 + lane.toNat)] else [.package]
  | 2, .gen _ => [.nodes k]
  | _, _ => [.package]

/-- DTM_NODE_SET (R338). -/
def cmdDtmNodeSet (c : Tag) (obj : Word) (a0 : NodeArgs) (d0 : Dev) : HostCmd :=
  let k := dtmNum obj
  let kind := dtmKind obj
  let a := maskNode a0
  let good := match a with
    | .flow nf _ weight qlim cir cbs => kind == 0 && decide (1 ≤ weight.toNat ∧
        (qlim.toNat = 0 ∨ 2048 ≤ qlim.toNat) ∧ (nf.getLsbD 2 = true → 1 ≤ cir.toNat ∧ 64 ≤ cbs.toNat))
    | .term _ lane _ weight _ => kind == 1 && decide (lane.toNat < 2 ∧ 1 ≤ weight.toNat)
    | .gen weight => kind == 2 && decide (1 ≤ weight.toNat)
    | .none => kind == 3 || kind == 4
  { opc := 0x0701
    good := dtmGood obj && good
    reach := if dtmGood obj then d0.nodeReach kind k a else [.package]
    body := fun d =>
      let d1 := match a with
        | .flow nf parent weight qlim cir cbs => d.setFlowQ k nf parent weight qlim cir cbs
        | .term nf lane term weight prec => d.setTermNode k nf lane term weight prec c.seq.toNat
        | .gen weight => d.modGenNode k fun x => { x with weight := weight.toNat }
        | .none => d
      ((if kind ≤ 2 then d1.calendarPort (nodePort (objIndex obj)) else d1)).complete c stOk }

/-- DTM_SHAPER_SET (R329, R332). -/
def cmdDtmShaperSet (c : Tag) (obj : Word) (bucket sflags : Byte) (rate0 burst0 : Word) (d0 : Dev) : HostCmd :=
  let k := dtmNum obj
  let kind := dtmKind obj
  let rate := rate0.toNat % 2 ^ 24
  let burst := burst0.toNat % 2 ^ 24
  let fits : Bool := dtmGood obj && decide (1 ≤ kind ∧ kind ≤ 3 ∧ (bucket.toNat = 0 ∨ (bucket.toNat = 1 ∧ kind = 1)))
  { opc := 0x0702
    good := fits && decide (16384 ≤ burst)
    reach := if !fits then [.package] else match kind with
      | 1 => [.nodes (genOf k (d0.termNode k))]
      | 2 => [.nodes k]
      | _ => [.nodes (2 * k), .nodes (2 * k + 1)]
    body := fun d =>
      let b : Bucket := { rate := rate, burst := burst, t := if sflags.getLsbD 0 then burst * 1000000 else 0, tAt := d.now }
      let d1 := match kind, bucket.toNat with
        | 1, 0 => d.modTermNode k fun x => { x with peak := b }
        | 1, _ =>
          let y := d.termNode k
          let d2 := d.modTermNode k fun x => { x with min := b, minEff := if x.valid then x.minEff else rate }
          if y.valid then d2.evalGen (genOf k y) c.seq.toNat else d2
        | 2, _ => (d.modGenNode k fun x => { x with peak := b }).evalGen k c.seq.toNat
        | _, _ => d.modOutNode k fun x => { x with peak := b }
      let h := nodeHandle kind k
      ((if bucket.toNat = 0 && d1.calendared h then d1.recal h else d1).calendarPort (nodePort (objIndex obj))).complete c stOk }

/-- DTM_WATCH_SET (R336). -/
def cmdDtmWatchSet (c : Tag) (obj : Word) (wflags : Byte) (node depthTh delayTh : Word) (_ : Dev) : HostCmd :=
  { opc := 0x0703
    good := dtmGood obj && dtmKind obj == 4 && dtmGood node && decide (dtmKind node ≤ 2)
    reach := [if dtmGood obj && dtmKind obj == 4 && dtmGood node then .parts true else .package]
    body := fun d => (d.setWatch (dtmNum obj)
      { en := wflags.getLsbD 0, node := node, depthTh := depthTh.toNat, delayTh := delayTh.toNat }).complete c stOk }

/-! ### State blocks (R337, Table 11-6) -/

/-- The block of a flow queue, terminal node or watch slot, and the device after the copy. -/
def Dev.dtmState (d : Dev) (obj : Word) : Bytes × Dev :=
  let k := dtmNum obj
  match dtmKind obj with
  | 0 =>
    let x := d.flowQ k
    let tag := if x.q.isEmpty then x.s else x.s + tagCost x.headLen x.weight
    (le 4 x.bytes ++ le 4 x.q.length ++ le 4 x.lastDepth ++ le 4 x.lastDelay ++ le 4 x.maxDepth ++ le 4 x.maxDelay ++ le 4 tag.toNat ++
      le 4 (x.tNow d.now / 1000000) ++ padTo 32 x.record,
     d.modFlowQ k fun x => { x with maxDepth := 0, maxDelay := 0 })
  | 1 =>
    let x := d.termNode k
    let b := (d.flowsOf k).foldl (fun n e => n + e.2.bytes) 0
    (padTo 64 (le 4 b ++ le 4 x.admitSeq.toNat ++ le 4 x.min.rate ++ le 4 x.minEff ++ le 1 (b2n x.cut + 2 * b2n x.valid) ++ le 1 x.lane ++
      le 2 x.term ++ le 2 x.weight ++ le 2 x.prec ++ x.peak.shown x.peak.rate d.now ++
      x.min.shown x.minEff d.now ++ le 4 x.peak.rate ++ le 4 x.peak.burst ++ le 4 x.min.burst), d)
  | _ =>
    let x := d.watchSlot k
    (padTo 64 (le 4 x.node.toNat ++ le 4 x.n ++ le 4 x.lastDepth ++ le 4 x.maxDepth ++ le 8 x.sumDepth ++ le 4 x.lastDelay ++
      le 4 x.maxDelay ++ le 8 x.sumDelay),
     d.setWatch k { x with n := 0, lastDepth := 0, maxDepth := 0, sumDepth := 0, lastDelay := 0, maxDelay := 0, sumDelay := 0 })

end Sys2Proof.Machine
end

