-- ==== Sys2Proof/Machine/Codes.lean ====
section
/-! DEFINITION. The check codes the manual names: CRC-32 of IEEE 802.3, the CRC-16 of ladder messages and lamp checks. -/
namespace Sys2Proof.Machine
open Sys2Proof

/-- One bit of the reflected CRC-32 of IEEE 802.3. -/
def crc32Bit (c : Word) : Word := if c.getLsbD 0 then (c >>> 1) ^^^ 0xEDB88320#32 else c >>> 1
/-- Repeats an operation. -/
def times {α : Type} (f : α → α) : Nat → α → α
  | 0, x => x
  | n + 1, x => times f n (f x)
/-- One byte of CRC-32. -/
def crc32Byte (c : Word) (b : Byte) : Word := times crc32Bit 8 (c ^^^ b.setWidth 32)
/-- CRC-32 of IEEE 802.3 (R238, Table 13-4). -/
def crc32 (bs : Bytes) : Word := ~~~(bs.foldl crc32Byte (BitVec.allOnes 32))

/-- The FCS of a frame as it goes on a wire (R85). -/
def fcs (data : Bytes) : Bytes := le 4 (crc32 data).toNat

/-- One bit of CRC-16 with polynomial 0x1021. -/
def crc16Bit (c : Half) : Half := if c.getMsbD 0 then (c <<< 1) ^^^ 0x1021#16 else c <<< 1
/-- CRC-16 with polynomial 0x1021 and start value 0xFFFF (R350). -/
def crc16 (bs : Bytes) : Half := bs.foldl (fun c b => times crc16Bit 8 (c ^^^ ((b.setWidth 16 : Half) <<< (8 : Nat)))) (BitVec.allOnes 16)

end Sys2Proof.Machine
end

