-- ==== Sys2Proof/Machine/Parser.lean ====
section
/-! DEFINITION. The parser (R266 to R270), keys (R271, R272), tag edits (R277), and the spreading hash (R284). Fixed header lengths
that the manual leaves to the standards are in log entry 40. -/
namespace Sys2Proof.Machine
open Sys2Proof

/-- What one pass of the parser records (Tables 9-1 and 9-4). Addresses are in wire order. -/
structure Parsed where
  dmac : Bytes := List.replicate 6 0
  smac : Bytes := List.replicate 6 0
  etype : Nat := 0
  otci : Nat := 0
  itci : Nat := 0
  tags : Nat := 0
  sid : Nat := 0
  ppp : Nat := 0
  mpls0 : Nat := 0
  mpls1 : Nat := 0
  mplsN : Nat := 0
  msg : Nat := 0
  sip : Bytes := List.replicate 16 0
  dip : Bytes := List.replicate 16 0
  proto : Nat := 0
  tos : Nat := 0
  ttl : Nat := 0
  tcpf : Nat := 0
  l4a : Nat := 0
  l4b : Nat := 0
  depth : Bool := false
  pppoe : Bool := false
  arp : Bool := false
  ip4 : Bool := false
  ip6 : Bool := false
  frag : Bool := false
  l4 : Bool := false
  opt : Bool := false
  bad : Bool := false
  deriving DecidableEq, Repr

/-- The header that comes next (Table 9-1). -/
inductive Hdr where
  | eth
  | tag
  | mpls
  | pppoe
  | disc
  | arp
  | ip4
  | ip6
  | ext (nh : Nat)
  | tcp
  | udp
  | icmp (v6 : Bool)
  | igmp
  | ptp
  | cfm
  | slow
  deriving DecidableEq, Repr

/-- The header that an Ethernet type announces; `stpid` is CLS_STPID[d]. -/
def hdrOfType (stpid t : Nat) : Option Hdr :=
  if t = 0x88A8 || t = stpid || t = 0x8100 then some .tag
  else match t with
    | 0x8847 => some .mpls
    | 0x8848 => some .mpls
    | 0x8864 => some .pppoe
    | 0x8863 => some .disc
    | 0x0806 => some .arp
    | 0x0800 => some .ip4
    | 0x86DD => some .ip6
    | 0x88F7 => some .ptp
    | 0x8902 => some .cfm
    | 0x8809 => some .slow
    | _ => none

/-- The header that an IP protocol number announces. -/
def hdrOfProto (v6 : Bool) (n : Nat) : Option Hdr :=
  match n with
  | 6 => some .tcp
  | 17 => some .udp
  | 1 => some (.icmp false)
  | 58 => some (.icmp true)
  | 2 => some .igmp
  | 0 => if v6 then some (.ext 0) else none
  | 43 => if v6 then some (.ext 43) else none
  | 44 => if v6 then some (.ext 44) else none
  | 60 => if v6 then some (.ext 60) else none
  | _ => none

/-- The fixed length of a header. -/
def Hdr.fixed : Hdr → Nat
  | .eth => 14
  | .tag => 4
  | .mpls => 4
  | .pppoe => 8
  | .disc => 6
  | .arp => 28
  | .ip4 => 20
  | .ip6 => 40
  | .ext _ => 8
  | .tcp => 20
  | .udp => 8
  | .icmp _ => 4
  | .igmp => 8
  | .ptp => 34
  | .cfm => 4
  | .slow => 1

/-- The length that BYTE_LIMIT sees (R268): its own length field for IPv4 and IPv6 extensions. -/
def Hdr.len (h : Hdr) (f : Bytes) (o : Nat) : Nat :=
  match h with
  | .ip4 => if o < f.length then nfld f o 1 % 16 * 4 else 20
  | .ext 44 => 8
  | .ext _ => if o + 1 < f.length then (nfld f (o + 1) 1 + 1) * 8 else 8
  | _ => h.fixed

/-- Where a walk stands: bytes consumed, headers followed, end of the IP payload, PPPoE LENGTH and whether IP follows it. -/
structure Walk where
  o : Nat := 0
  n : Nat := 0
  ipEnd : Nat := 0
  pppLen : Option Nat := none
  k : Parsed := {}
  deriving DecidableEq, Repr

/-- Follows one header: the walk after it, and the next header (R266, R267, R270). -/
def Walk.follow (w : Walk) (stpid : Nat) (f : Bytes) (h : Hdr) : Walk × Option Hdr :=
  let o := w.o
  let k := w.k
  let len := h.len f o
  let e := o + len
  let w1 := { w with o := e, n := w.n + 1 }
  let u8 (i : Nat) : Nat := nfld f (o + i) 1
  let u16 (i : Nat) : Nat := nfld f (o + i) 2
  let typeAt (i : Nat) : Option Hdr := hdrOfType stpid (u16 i)
  let mal (b : Bool) (r : Walk × Option Hdr) : Walk × Option Hdr :=
    if b then ({ w1 with k := { w1.k with bad := true } }, none) else r
  mal (decide (f.length < o + h.fixed) || decide (f.length < e)) <|
  match h with
  | .eth => ({ w1 with k := { k with dmac := bslice f 0 6, smac := bslice f 6 6, etype := u16 12 } }, typeAt 12)
  | .tag =>
    let k1 := { k with
      otci := if k.tags = 0 then u16 0 else k.otci
      itci := if k.tags = 1 then u16 0 else k.itci
      tags := k.tags + 1
      etype := u16 2 }
    let nx := typeAt 2
    ({ w1 with k := k1 }, if nx = some .tag && decide (3 ≤ k1.tags) then none else nx)
  | .mpls =>
    let v := nfld f o 4
    let k1 := { k with
      mpls0 := if k.mplsN = 0 then v else k.mpls0
      mpls1 := if k.mplsN = 1 then v else k.mpls1
      mplsN := k.mplsN + 1 }
    let nx : Option Hdr :=
      if v / 256 % 2 = 0 then (if k1.mplsN < 8 then some .mpls else none)
      else if f.length ≤ e then none
      else match nfld f e 1 / 16 with
        | 4 => some .ip4
        | 6 => some .ip6
        | _ => none
    ({ w1 with k := k1 }, nx)
  | .pppoe =>
    let l := u16 4
    mal (decide (f.length - (o + 6) < l))
      ({ w1 with k := { k with sid := u16 2, ppp := u16 6, pppoe := true }, pppLen := some l },
       match u16 6 with
       | 0x0021 => some .ip4
       | 0x0057 => some .ip6
       | _ => none)
  | .disc => ({ w1 with k := { k with msg := u8 1 } }, none)
  | .arp => ({ w1 with k := { k with l4a := u16 6, sip := padTo 16 (bslice f (o + 14) 4), dip := padTo 16 (bslice f (o + 24) 4), arp := true } }, none)
  | .ip4 =>
    let ihl := u8 0 % 16
    let tot := u16 2
    let fo := u16 6
    mal (decide (ihl < 5 ∨ tot < ihl * 4 ∨ f.length - o < tot) || w.pppLen.any fun l => l != tot + 2)
      ({ w1 with
         ipEnd := o + tot
         pppLen := none
         k := { k with
           sip := padTo 16 (bslice f (o + 12) 4), dip := padTo 16 (bslice f (o + 16) 4), proto := u8 9, tos := u8 1, ttl := u8 8
           ip4 := true, opt := decide (5 < ihl), frag := bitOf fo 13 || decide (fo % 2 ^ 13 ≠ 0) } },
       if fo % 2 ^ 13 = 0 then hdrOfProto false (u8 9) else none)
  | .ip6 =>
    let pl := u16 4
    mal (decide (pl = 0 ∨ f.length - o < pl + 40) || w.pppLen.any fun l => l != pl + 42)
      ({ w1 with
         ipEnd := o + 40 + pl
         pppLen := none
         k := { k with
           sip := bslice f (o + 8) 16, dip := bslice f (o + 24) 16, proto := u8 6, tos := u16 0 / 16 % 256, ttl := u8 7, ip6 := true } },
       hdrOfProto true (u8 6))
  | .ext nh =>
    mal (decide (w.ipEnd < e))
      ({ w1 with k := { k with proto := u8 0, opt := true, frag := k.frag || nh == 44 } },
       if nh = 44 && u16 2 / 8 != 0 then none else hdrOfProto true (u8 0))
  | .tcp =>
    let dofs := u8 12 / 16
    mal (decide (dofs < 5 ∨ w.ipEnd < o + dofs * 4))
      ({ w1 with k := { k with l4a := u16 0, l4b := u16 2, tcpf := u8 13, l4 := true } }, none)
  | .udp =>
    let l := u16 4
    mal (decide (l < 8 ∨ w.ipEnd - o < l))
      ({ w1 with k := { k with l4a := u16 0, l4b := u16 2, l4 := true } },
       if u16 2 = 319 || u16 2 = 320 then some .ptp else none)
  | .icmp _ => ({ w1 with k := { k with l4a := u16 0, l4 := true } }, none)
  | .igmp => ({ w1 with k := { k with l4a := u8 0 * 256, l4 := true } }, none)
  | .ptp => ({ w1 with k := { k with msg := u8 0 % 16 } }, none)
  | .cfm => ({ w1 with k := { k with msg := u8 1 } }, none)
  | .slow => ({ w1 with k := { k with msg := u8 0 } }, none)

/-- Walks the headers within the limits of CLS_PARSE_CTRL[d] (R268). -/
def walkHdrs (stpid byteLim hdrLim : Nat) (f : Bytes) : Nat → Hdr → Walk → Parsed
  | 0, _, w => w.k
  | fuel + 1, h, w =>
    if w.n < hdrLim && decide (w.o + h.len f w.o ≤ byteLim) then
      match w.follow stpid f h with
      | (w1, none) => w1.k
      | (w1, some h1) => walkHdrs stpid byteLim hdrLim f fuel h1 w1
    else { w.k with depth := true }

/-- One pass of the parser over a frame without FCS; HDR_LIMIT is at most 31. -/
def parse (ctrl stpid : Word) (f : Bytes) : Parsed :=
  walkHdrs (stpid.toNat % 2 ^ 16) (bitsOf ctrl.toNat 9 0) (bitsOf ctrl.toNat 20 16) f 32 .eth {}

/-- BYTE_LIMIT and HDR_LIMIT lie in their ranges (Table 9-15). -/
def parseGood (ctrl : Word) : Bool :=
  decide (64 ≤ bitsOf ctrl.toNat 9 0 ∧ bitsOf ctrl.toNat 9 0 ≤ 512 ∧ 1 ≤ bitsOf ctrl.toNat 20 16 ∧ bitsOf ctrl.toNat 20 16 ≤ 16)

/-- The DMAC group bit. -/
def Parsed.group (k : Parsed) : Bool := (byteAt k.dmac 0).getLsbD 0

/-- FLAGS of the key, bits 20 to 31 (Table 9-4). -/
def Parsed.flags (k : Parsed) (pass2 : Bool) : Nat :=
  b2n pass2 + 2 * b2n k.depth + 4 * b2n (decide (1 ≤ k.tags)) + 8 * b2n (decide (2 ≤ k.tags)) + 16 * b2n k.pppoe +
    32 * b2n (decide (1 ≤ k.mplsN)) + 64 * b2n k.ip4 + 128 * b2n k.ip6 + 256 * b2n k.frag + 512 * b2n k.l4 + 1024 * b2n k.opt +
    2048 * b2n k.group

/-- The 48-byte key in a bank's layout (Table 9-3, R272). -/
def Parsed.key (k : Parsed) (layout src md : Nat) (pass2 : Bool) : Bytes :=
  let head := le 4 (src % 2 ^ 20 + k.flags pass2 * 2 ^ 20) ++ le 2 md ++ le 2 k.etype
  padTo 48 <| head ++ match layout with
    | 0 => k.dmac ++ k.smac ++ le 2 k.otci ++ le 2 k.itci ++ le 2 k.sid ++ le 2 k.ppp ++ le 4 k.mpls0 ++ le 4 k.mpls1 ++ le 1 k.msg
    | 1 => le 2 k.otci ++ le 2 k.itci ++ k.sip.take 4 ++ k.dip.take 4 ++ le 1 k.proto ++ le 1 k.tos ++ le 1 k.ttl ++ le 1 k.tcpf ++
        le 2 k.l4a ++ le 2 k.l4b ++ k.dmac ++ k.smac ++ le 2 k.sid
    | _ => k.sip ++ k.dip ++ le 1 k.proto ++ le 1 k.tos ++ le 2 k.l4a ++ le 2 k.l4b ++ le 1 k.tcpf ++ le 1 k.ttl

/-- The value a range comparator tests (Table 9-6). -/
def Parsed.sel (k : Parsed) (len md : Nat) (s : Nat) : Option Nat :=
  match s with
  | 0 => some (k.otci % 4096)
  | 1 => some (k.itci % 4096)
  | 2 => some k.l4a
  | 3 => some k.l4b
  | 4 => some k.etype
  | 5 => some md
  | 6 => some len
  | 7 => some k.sid
  | 8 => some (k.tos / 4)
  | _ => none

/-! ### Tag edits (R277, Table 9-8) -/

/-- The tags a frame carries now, up to three: types and TCIs. -/
def tagCount (stpid : Nat) (f : Bytes) : Nat :=
  let t (i : Nat) : Bool := decide (hdrOfType stpid (nfld f (12 + 4 * i) 2) = some .tag)
  if f.length < 14 || !t 0 then 0 else if !t 1 then 1 else 2

/-- Inserts a tag after the MAC addresses. -/
def pushTag (typ tci : Nat) (f : Bytes) : Bytes := f.take 12 ++ be 2 typ ++ be 2 tci ++ f.drop 12

/-- A tag edit (Table 9-8). -/
def editTags (stpid edit tci : Nat) (f : Bytes) : Bytes :=
  let n := tagCount stpid f
  match edit with
  | 1 => pushTag stpid tci f
  | 2 => pushTag 0x8100 tci f
  | 3 => if n = 0 then f else f.take 12 ++ f.drop 16
  | 4 => if n = 0 then f else patch f 14 (be 2 tci)
  | 5 => f.take 12 ++ f.drop (12 + 4 * n)
  | 6 => if n = 0 then f else patch f 14 (be 2 (nfld f 14 2 / 4096 * 4096 + tci % 4096))
  | _ => f

/-! ### The spreading hash (R284) -/

/-- One bit of the reflected CRC-32C. -/
def crc32cBit (c : Word) : Word := if c.getLsbD 0 then (c >>> 1) ^^^ 0x82F63B78#32 else c >>> 1
/-- CRC-32C from a start value, with no final inversion. -/
def crc32c (seed : Word) (bs : Bytes) : Word := bs.foldl (fun c b => times crc32cBit 8 (c ^^^ b.setWidth 32)) seed

/-- Wire-order comparison of two addresses. -/
def addrGt (a b : Bytes) : Bool := decide (ofBe b < ofBe a)

/-- The index of a frame in an indirection table (R284). -/
def Parsed.hash (k : Parsed) (sel seed : Word) (src md : Nat) : Nat :=
  let sw := sel.getLsbD 15 && addrGt k.sip k.dip
  let fields : List Bytes :=
    [be 3 src, k.dmac, k.smac, be 2 k.etype, be 2 (k.otci % 4096), be 2 (k.itci % 4096), if sw then k.dip else k.sip,
     if sw then k.sip else k.dip, be 1 k.proto, be 2 (if sw then k.l4b else k.l4a), be 2 (if sw then k.l4a else k.l4b),
     be 3 (k.mpls0 / 4096), be 2 k.sid, be 2 md]
  let bs := (fields.zipIdx.filter fun e => sel.getLsbD e.2).flatMap (·.1)
  (crc32c seed bs).toNat % 4096

end Sys2Proof.Machine
end

