-- ==== Sys2Proof/Machine/Uplink.lean ====
section
/-! DEFINITION. Uplink lanes and MAC (chapter 12): bring-up, link state, egress queues, pause, gates, statistics, commands; the DMP
port and the heartbeat pair come up here too (R378). -/
namespace Sys2Proof.Machine
open Sys2Proof

/-! ### Ports and lanes by number -/

/-- An uplink port after reset (R343); key 32 is the DMP port, eight lanes with TOP_RATE 3 and the ladder (R378). -/
def Uplink.dflt (u : Nat) : Uplink :=
  if u = 32 then { cfg := { n := 8, top := 3, bring := 0 }, act := { n := 8, top := 3, bring := 0 } } else {}
/-- A serial lane after reset; DMP lanes and the heartbeat pair need no enabling. -/
def SLane.dflt (k : Nat) : SLane := if 32 ≤ k then { en := true } else {}
def Dev.uplink (d : Dev) (u : Nat) : Uplink := sget Uplink.dflt d.ulk u
def Dev.modUplink (d : Dev) (u : Nat) (f : Uplink → Uplink) : Dev := { d with ulk := sset Uplink.dflt d.ulk u (f (d.uplink u)) }
def Dev.slane (d : Dev) (k : Nat) : SLane := sget SLane.dflt d.lanes k
def Dev.modSlane (d : Dev) (k : Nat) (f : SLane → SLane) : Dev := { d with lanes := sset SLane.dflt d.lanes k (f (d.slane k)) }

/-- The key of a serial lane. -/
def laneKey : SerialLane → Nat
  | .uplink u => u.val
  | .dmp k => 32 + k.val
  | .hb => 40

/-- Lanes in a port: what its last bring-up took (R344). -/
def Uplink.width (x : Uplink) : Nat := x.act.n
/-- Preemption is active (R369). -/
def Uplink.preOn (x : Uplink) : Bool := x.up && x.act.preempt && (x.cfg.noverify || x.verOk)
/-- The port a lane belongs to (R342). -/
def Dev.portOfLane (d : Dev) (k : Nat) : Nat :=
  if 32 ≤ k then 32 else (([8, 4, 2].find? fun n => decide (n ≤ (d.uplink (k / n * n)).width)).map fun n => k / n * n).getD k
/-- The lanes of a port of `n` lanes. -/
def lanesOf (u n : Nat) : List Nat := (List.range n).map (u + ·)
def Dev.portLanes (d : Dev) (u : Nat) : List Nat := lanesOf u (d.uplink u).width
/-- Changes every lane of a port. -/
def Dev.modLanes (d : Dev) (u : Nat) (f : SLane → SLane) : Dev := (d.portLanes u).foldl (fun d k => d.modSlane k f) d
/-- The lanes a variant carries: uplink lanes (R345), DMP and heartbeat with the protection unit. -/
def Variant.hasSLane (v : Variant) (k : Nat) : Bool := if 32 ≤ k then v.hasProt else v.hasLane k

/-- BAR0 bases of lane and port registers. -/
def laneBase (u : Nat) : Nat := 0x50000 + 0x200 * u
def ulkBase (u : Nat) : Nat := 0x54000 + 0x400 * u
/-- Counts in a port register; the DMP port has none. -/
def Dev.countUlk (d : Dev) (u ofs : Nat) (n : Nat := 1) : Dev := if u < 32 then d.count (ulkBase u + ofs) n else d
/-- Raises an uplink event (R375); the DMP port raises none. -/
def Dev.emitUlk (d : Dev) (u typ : Nat) (payload : Bytes) : Dev := if u < 32 then d.emit typ (srcOf 7 u) payload else d

/-- The combinations that Table 12-2 marks. -/
def portType (n code : Nat) : Bool :=
  match n with
  | 1 => code ≤ 4
  | 2 => 2 ≤ code && code ≤ 4
  | 4 => code ≤ 4
  | 8 => 2 ≤ code && code ≤ 4
  | _ => false
/-- MAC rate of a lane in Gb/s (Table 12-1). -/
def macRate : Nat → Nat
  | 0 => 10
  | 1 => 25
  | 2 => 50
  | 3 => 100
  | _ => 200
/-- The rungs of a port up to TOP_RATE (R349). -/
def rungsOf (n top : Nat) : List Nat := (List.range 5).filter fun k => portType n k && decide (k ≤ top)
/-- The lowest rung. -/
def Uplink.lowest (x : Uplink) : Nat := (rungsOf x.act.n x.act.top).headD 0

/-! ### Paths to the mate (R385) -/

/-- A path is lost: MAT_PATH_LOST. -/
def Dev.losePath (d : Dev) (hb : Bool) (cause : Nat) : Dev :=
  let x := if hb then d.prot.hb else d.prot.dmp
  if x.lost then d
  else
    let y := { x with lost := true, good := 0 }
    (d.modProt fun z => if hb then { z with hb := y } else { z with dmp := y }).emit 0x8901 (srcOf 0xD 0)
      (le 1 (b2n hb) ++ le 1 cause)

/-- DMP_RATE and the lock of the DMP path follow the DMP port (R378). -/
def Dev.dmpLock (d : Dev) (on : Bool) (rate : Nat) : Dev :=
  let d1 := d.modProt fun z => { z with dmp := { z.dmp with locked := on }, dmpRate := rate }
  if on then d1 else d1.losePath false 3

/-! ### Link state (R357, R358) -/

/-- CLS_PORT_LIVE shows the port live (R285). -/
def Dev.ulkLive (d : Dev) (u : Nat) : Bool := decide (u < 32) && d.cls.live.getLsbD u
/-- Sets or clears a bit of CLS_PORT_LIVE. -/
def Dev.setLive (d : Dev) (u : Nat) (on : Bool) : Dev :=
  let bit : Word := BitVec.ofNat 32 (2 ^ u)
  { d with cls := { d.cls with live := if on then d.cls.live ||| bit else d.cls.live &&& ~~~bit } }

/-- Discards the frames queued to a port, one on its way out among them; the first part is their number. -/
def Dev.dropEgress (d : Dev) (u ofs : Nat) : Nat × Dev :=
  let q := (d.uplink u).q ++ ((d.uplink u).cur.map (·.fr)).toList
  let d1 := if q.isEmpty then d else (d.modUplink u fun x => { x with q := [], cur := none }).countUlk u ofs q.length
  let d2 := q.foldl (fun d f => d.freeCells 1 (cellsOf f.data.length)) d1
  (q.length, d2.injEndAll stAbandoned (q.map (·.inj)))

/-- PORT_DOWN (R358). -/
def Dev.portDown (d : Dev) (u cause lane : Nat) : Dev :=
  if !(d.uplink u).up then d
  else if u = 32 then (d.modUplink u fun x => { x with up := false }).dmpLock false 0
  else
    let d1 := (d.modUplink u fun x => { x with up := false, verN := 0, verOk := false, verEnd := false }).setLive u false
    let r := if cause = 6 then (0, d1) else d1.dropEgress u 0x26C
    r.2.emitUlk u 0x8802 (le 1 cause ++ le 1 lane ++ le 2 0 ++ le 4 r.1)

/-- Ends the waiting ENABLEs of a port. -/
def Dev.endEnables (d : Dev) (u status : Nat) : Dev :=
  (d.portLanes u).foldl (fun d k => match (d.slane k).wait with
    | none => d
    | some c => (d.modSlane k fun x => { x with wait := none }).complete c status) d

/-- Every lane of a port is locked. -/
def Dev.allLocked (d : Dev) (u : Nat) : Bool := (d.portLanes u).all fun k => (d.slane k).lock

/-- With PREEMPT and without NOVERIFY, the port verifies preemption after each link-up: it sends a verify frame (R369). -/
def Dev.sendVerify (d : Dev) (u : Nat) : Dev :=
  let x := d.uplink u
  if !x.up || !x.act.preempt || x.cfg.noverify || x.verEnd then d
  else (d.modUplink u fun x => { x with verN := x.verN + 1 }).send (.verify u)

/-- A port becomes up once every lane is locked, its bring-up has ended and no fault is received (R357). -/
def Dev.checkUp (d : Dev) (u : Nat) : Dev :=
  let x := d.uplink u
  if x.stage != .done || x.up || x.lf || x.rf || !d.allLocked u then d
  else if u = 32 then (d.modUplink u fun x => { x with up := true }).dmpLock true x.rate
  else
    let d1 := (d.modUplink u fun x => { x with up := true }).sendVerify u
    (d1.emitUlk u 0x0801 (le 1 x.act.n ++ le 1 x.rate ++ le 1 x.act.bring ++ le 1 (b2n x.failed))).endEnables u stOk

/-! ### Bring-up (R348 to R356) -/

/-- The port's lowest lane advertises its technologies (R355). -/
def Dev.advertise (d : Dev) (u : Nat) : Dev :=
  let x := d.uplink u
  if x.stage == .autoneg then d.send (.advert u (rungsOf x.act.n x.act.top) x.act.fec25) else d

/-- Starts a bring-up from the beginning of its mode: the port takes the lanes of its record. -/
def Dev.startBring (d : Dev) (u : Nat) : Dev :=
  let act := (d.uplink u).cfg
  let d0 := (lanesOf u act.n).foldl (fun d k =>
    let d1 := d.modSlane k fun x => { x with lock := false, eq := [], eqSaved := [], goTx := none, offer := none, go := none, doneRx := none }
    if k = u || 32 ≤ k then d1
    else ((d1.portDown k 3 k).dropEgress k 0x26C).2.modUplink k fun x => { x with stage := .idle }) d
  (d0.modUplink u fun x =>
    let y := { x with act := act, good := none, sentGo := false, swapped := false, failed := false, rung := 0, fec := false }
    match act.bring with
    | 0 => { y with stage := .ladder, rate := y.lowest, rung := y.lowest }
    | 1 => { y with stage := .autoneg, rate := 0 }
    | _ => { y with stage := .fixed, rate := act.top, fec := act.fec25 && act.top == 1 }).advertise u

/-- The start condition of R348: the port is idle, and every lane of its record is enabled and reports signal. -/
def Dev.canStart (d : Dev) (u : Nat) : Bool :=
  d.portOfLane u == u && (d.uplink u).stage == .idle &&
    (lanesOf u (d.uplink u).cfg.n).all fun k => (d.slane k).en && (d.slane k).signal

/-- Starts the bring-up of a port where its condition holds, and of the ports of lanes that it leaves as it narrows (R344, R348). -/
def Dev.tryStart (d : Dev) (u : Nat) : Dev :=
  if !d.canStart u then d
  else
    let left := (d.portLanes u).drop (d.uplink u).cfg.n
    left.foldl (fun d k => if d.canStart k then d.startBring k else d) (d.startBring u)

/-- The port enters LISTEN (R353, R354). -/
def Dev.enterListen (d : Dev) (u cause : Nat) : Dev :=
  ((d.modUplink u fun x => { x with stage := .listen, rate := x.lowest, rung := x.lowest, good := none, sentGo := false, swapped := false }).emitUlk u
    0x0805 (le 1 cause)).endEnables u stTimeout

/-- The partner's TOP, once an OFFER has named it. -/
def Dev.partnerTop (d : Dev) (u : Nat) : Option Nat := ((d.slane u).offer).map (·.2)

/-- The ladder ends: the port is at its last good rung (R349, R352). -/
def Dev.endLadder (d : Dev) (u : Nat) : Dev := (d.modUplink u fun x => { x with stage := .done, rate := x.good.getD x.rate }).checkUp u

/-- The next step of the ladder, or its end (R349). -/
def Dev.nextRung (d : Dev) (u : Nat) : Dev :=
  let x := d.uplink u
  match (rungsOf x.act.n x.act.top).find? fun k => decide (x.good.getD 0 < k) with
  | none => d.endLadder u
  | some k =>
    if (d.partnerTop u).any fun t => decide (t < k) then d.endLadder u
    else d.modUplink u fun x => { x with rung := k, sentGo := false, swapped := false }

/-- The settings of a lane's receiver are kept before it leaves the last good rung (R351). -/
def SLane.leaveRung (y : SLane) : SLane := { y with lock := false, eqSaved := y.eq }

/-- What the ladder does on what has been sent, received and locked (R351): GO may be sent once OFFER names the rung on every lane, the
transmitters are at the rung once GO has been sent and received on every lane, the next step comes once DONE is received on every lane. -/
def Dev.advance (d : Dev) (u : Nat) : Nat → Dev
  | 0 => d
  | n + 1 =>
    let x := d.uplink u
    let ls := d.portLanes u
    if x.stage != .ladder then d
    else if x.good.isNone then
      if d.allLocked u then ((d.modUplink u fun x => { x with good := some x.rate }).nextRung u).advance u n else d
    else if (d.partnerTop u).any fun t => decide (t < x.rung) then d.endLadder u
    else if !x.sentGo then
      if ls.all fun k => ((d.slane k).offer.map (·.1)) == some x.rung then
        (d.modUplink u fun x => { x with sentGo := true }).advance u n
      else d
    else if !x.swapped then
      if ls.all fun k => (d.slane k).go == some x.rung && (d.slane k).goTx == some x.rung then
        ((d.modUplink u fun x => { x with swapped := true, rate := x.rung }).modLanes u SLane.leaveRung).advance u n
      else d
    else if d.allLocked u && ls.all (fun k => (d.slane k).doneRx == some x.rung) then
      ((d.modUplink u fun x => { x with good := some x.rung }).nextRung u).advance u n
    else d

/-- A ladder message (Table 12-3). -/
def ladderBytes (typ rung top n idx : Nat) : Bytes :=
  let h := le 1 typ ++ le 1 rung ++ le 1 top ++ le 1 (n * 16 + idx) ++ be 2 1
  h ++ be 2 (crc16 h).toNat

/-- LADDER_MESSAGE_SEND (R350): OFFER, GO once it may be sent, DONE once the lane is locked at the rung. -/
def Dev.ladderSend (d : Dev) (k : Nat) : Dev :=
  let u := d.portOfLane k
  let x := d.uplink u
  if k = 40 || !(x.stage == .ladder || x.stage == .listen) then d
  else
    let typ := if x.swapped then (if (d.slane k).lock then 3 else 2) else if x.sentGo then 2 else 1
    ((d.modSlane k fun y => { y with goTx := if typ = 2 then some x.rung else y.goTx }).send
      (.ladder k (ladderBytes typ x.rung x.act.top x.act.n (k - u)))).advance u 8

/-- LADDER_MESSAGE (R350, R351, R353). -/
def Dev.ladderReceive (d : Dev) (k : Nat) (msg : Bytes) : Dev :=
  let u := d.portOfLane k
  let x := d.uplink u
  if k = 40 || x.stage != .ladder || msg.length != 8 || nfld msg 6 2 != (crc16 (msg.take 6)).toNat then d
  else if nfld msg 4 2 != 1 || nfld msg 3 1 != x.act.n * 16 + (k - u) then d.enterListen u 2
  else
    let rung := nfld msg 1 1
    let d1 := d.modSlane k fun y =>
      match nfld msg 0 1 with
      | 1 => { y with offer := some (rung, nfld msg 2 1) }
      | 2 => { y with go := some rung }
      | 3 => { y with doneRx := some rung }
      | _ => y
    d1.advance u 8

/-- LADDER_STEP_TIMEOUT (R351 to R353): FAIL is sent; `relocked` says whether every lane is back at the last good rung. -/
def Dev.stepTimeout (d : Dev) (k : Nat) (relocked : Bool) : Dev :=
  let u := d.portOfLane k
  let x := d.uplink u
  if k = 40 || x.stage != .ladder then d
  else match x.good with
    | none => d.enterListen u 1
    | some g =>
      let d1 := (d.portLanes u).foldl (fun d j =>
        let d2 := d.send (.ladder j (ladderBytes 4 x.rung x.act.top x.act.n (j - u)))
        if j < 32 then d2.count (laneBase j + 0x50) else d2) d
      if relocked then
        (((d1.modLanes u fun y => { y with lock := true, eq := y.eqSaved, eqAt := d.now }).modUplink u fun x => { x with failed := true }).emitUlk u 0x0804
          (le 1 x.rung ++ le 1 g)).endLadder u
      else d1.startBring u

/-- LISTEN_RETRY (R353). -/
def Dev.listenRetry (d : Dev) (k : Nat) : Dev :=
  let u := d.portOfLane k
  if k = 40 || (d.uplink u).stage != .listen then d
  else ((d.modUplink u fun x => { x with stage := .ladder }).modLanes u fun y =>
    { y with goTx := none, offer := none, go := none, doneRx := none }).advance u 8

/-- LANE_LOCK (R347, R357, R359, R378). A lock while auto-negotiation runs is one of link training (log entry 51). -/
def Dev.laneLock (d : Dev) (k : Nat) : Dev :=
  if !d.variant.hasSLane k then d
  else if k = 40 then (d.modSlane k fun y => { y with lock := true }).modProt fun z => { z with hb := { z.hb with locked := true } }
  else
    let u := d.portOfLane k
    let x := d.uplink u
    if x.stage == .idle || x.stage == .draining || !(d.slane k).signal then d
    else
      let d1 := d.modSlane k fun y => { y with lock := true }
      match x.stage with
      | .ladder => d1.advance u 8
      | .fixed => if d1.allLocked u then (d1.modUplink u fun x => { x with stage := .done }).checkUp u else d1
      | .relock => if d1.allLocked u then (d1.modUplink u fun x => { x with stage := .done }).checkUp u else d1
      | .autoneg => d1.modUplink u fun x => { x with stage := .training }
      | _ => d1.checkUp u

/-- LANE_SIGNAL_RETURN (R348, R354). -/
def Dev.signalReturn (d : Dev) (k : Nat) : Dev :=
  if !d.variant.hasSLane k then d
  else
    let d1 := d.modSlane k fun y => { y with signal := true }
    if k = 40 then d1 else d1.tryStart (d1.portOfLane k)

/-- LANE_SIGNAL_LOSS (R348, R354, R355, R358). -/
def Dev.signalLoss (d : Dev) (k : Nat) : Dev :=
  if !d.variant.hasSLane k then d
  else
    let u := d.portOfLane k
    let x := d.uplink u
    let d1 := d.modSlane k fun y => { y with signal := false, lock := false }
    if k = 40 then d1.modProt fun z => { z with hb := { z.hb with locked := false } }
    else if x.stage == .ladder || x.stage == .autoneg || x.stage == .training then
      (((d1.emitUlk u 0x0803 (le 1 x.rung ++ le 1 k ++ le 1 x.act.bring)).endEnables u stTimeout)).modUplink u fun x => { x with stage := .idle }
    else if x.stage == .draining then d1
    else (d1.portDown u 1 k).modUplink u fun x => { x with stage := .idle }

/-- LANE_LOCK_LOSS (R347, R358, R359, R385). -/
def Dev.lockLoss (d : Dev) (k : Nat) : Dev :=
  if !(d.slane k).lock then d
  else
    let u := d.portOfLane k
    let d1 := d.modSlane k fun y => { y with lock := false }
    if k = 40 then d1.modProt fun z => { z with hb := { z.hb with locked := false } }
    else
      let d2 := if k < 32 then d1.count (laneBase k + 0x4C) else d1
      if (d.uplink u).stage == .done then (d2.portDown u 2 k).modUplink u fun x => { x with stage := .relock } else d2

/-- RELOCK_TIMEOUT (R359). -/
def Dev.relockTimeout (d : Dev) (k : Nat) : Dev :=
  let u := d.portOfLane k
  if k = 40 || (d.uplink u).stage != .relock || (d.slane k).lock then d
  else (d.modUplink u fun x => { x with stage := .idle }).tryStart u

/-- Auto-negotiation runs, or the link training that follows it. -/
def Uplink.negotiates (x : Uplink) : Bool := x.stage == .autoneg || x.stage == .training

/-- CL73_AUTONEG_DONE (R355): the technology resolved, by its rate code, and whether the partner too asked for RS-FEC at code 1; its link
training is done. -/
def Dev.autonegDone (d : Dev) (u code : Nat) (fec : Bool) : Dev :=
  let x := d.uplink u
  if !x.negotiates || !(rungsOf x.act.n x.act.top).contains code then d
  else (d.modUplink u fun x => { x with stage := .done, rate := code, fec := code == 1 && x.act.fec25 && fec }).checkUp u

/-- CL73_TRAINING_TIMEOUT (R355): auto-negotiation restarts. -/
def Dev.trainingTimeout (d : Dev) (u : Nat) : Dev :=
  if (d.uplink u).negotiates then
    ((d.modLanes u fun y => { y with lock := false, eq := [] }).modUplink u fun x => { x with stage := .autoneg, rate := 0 }).advertise u
  else d

/-- RS_FAULT_CHANGE (R357, R358). -/
def Dev.rsFault (d : Dev) (u : Nat) (lf rf : Bool) : Dev :=
  let d1 := d.modUplink u fun x => { x with lf := lf, rf := rf }
  if lf then d1.portDown u 4 u else if rf then d1.portDown u 5 u else d1.checkUp u

/-! ### Indirection tables (R284 to R286) -/

/-- The tables, keyed by table number, that name a port. -/
def Cls.naming (x : Cls) (u : Nat) (t : Nat) : Bool :=
  if u = 0 then decide ((x.indir.filter fun e => e.1 / 4096 == t).length < 4096) else x.indir.any fun e => e.1 / 4096 == t && e.2 == u

/-- LIVE_HOLD_EXPIRY (R357, R285). -/
def Dev.liveHold (d : Dev) (u : Nat) : Dev :=
  if !(d.uplink u).up then d
  else
    let d1 := d.setLive u true
    { d1 with cls := { d1.cls with dead := d1.cls.dead.filter fun t => !d1.cls.naming u t } }

/-! ### Gates (R370 to R372) -/

/-- Interval of entry `i`. -/
def GateList.ival (g : GateList) (i : Nat) : Nat := ((g.ents[i]?).map (·.1)).getD 0
/-- Gates of entry `i`. -/
def GateList.bits (g : GateList) (i : Nat) : Byte := ((g.ents[i]?).map (·.2)).getD 0xFF#8
/-- Start of the cycle in which entry `i` starts at `t`. -/
def GateList.cycStart (g : GateList) (i t : Nat) : Nat := t - ((g.ents.take i).foldl (fun n e => n + e.1) 0)
/-- The entry after entry `i`, which started at `t`, and its start (R371). -/
def GateList.after (g : GateList) (i t : Nat) : Nat × Nat :=
  let e := g.cycStart i t + g.cycle
  if g.ents.length ≤ i + 1 || decide (e ≤ t + g.ival i) then (0, e) else (i + 1, t + g.ival i)
/-- The entry that runs at a time, and its start: BASE + n x CYCLE carries the cycles (R372, R414). -/
def GateList.seek (g : GateList) (now : Nat) : Nat → Nat → Nat → Nat × Nat
  | 0, i, t => (i, t)
  | n + 1, i, t => if now < (g.after i t).2 then (i, t) else g.seek now n (g.after i t).1 (g.after i t).2
/-- The entry in force at a device time at or after BASE. -/
def GateList.current (g : GateList) (now : Nat) : Nat × Nat :=
  g.seek now (g.ents.length + 1) 0 (if g.cycle = 0 then g.base else g.base + (now - g.base) / g.cycle * g.cycle)

/-- Gates of a port now (Table 12-8). -/
def Uplink.gates (x : Uplink) : Byte := match x.gate with
  | none => 0xFF#8
  | some g => g.bits x.gIdx

/-- When the gate of queue `i` next closes, within two cycles of a list that runs to `stop` (none: it does not). -/
def GateList.closes (g : GateList) (q : Nat) (stop : Option Nat) : Nat → Nat → Nat → Option Nat
  | 0, _, _ => none
  | n + 1, i, t =>
    let r := g.after i t
    if stop.any fun s => decide (s ≤ r.2) then none
    else if !(g.bits r.1).getLsbD q then some r.2 else g.closes q stop n r.1 r.2

/-- When the gate of queue `q`, open now, next closes (R370), a list that waits for its T0 included. -/
def Uplink.gateClose (x : Uplink) (q : Nat) : Option Nat :=
  let t0 := x.gPend.map (·.2.2)
  let own := x.gate.bind fun g => g.closes q t0 (2 * g.ents.length + 2) x.gIdx x.gAt
  match own, x.gPend with
  | some t, _ => some t
  | none, none => none
  | none, some (_, g, t) => if !(g.bits 0).getLsbD q then some t else g.closes q none (2 * g.ents.length + 2) 0 t

/-- Bytes of a preemptable frame that a port sends in some ns, its preamble apart. -/
def Uplink.bytesIn (x : Uplink) (ns : Nat) : Nat := ns * (macRate x.rate * x.act.n) / 8 - 8

/-- Where a frame in transmission can be cut now, if it still can: the next boundary of 8 bytes that leaves at least 64 on both sides (R369,
log entry 51). -/
def Uplink.cutAt (x : Uplink) (c : TxFrame) (now : Nat) : Option Nat :=
  let k := c.off + max 64 ((x.bytesIn (now - c.t0) + 7) / 8 * 8)
  if k + 64 ≤ c.wire.length then some k else none

/-- A frame in transmission is cut at byte `k`: the fragment leaves, the remainder waits. -/
def Dev.cutTx (d : Dev) (u : Nat) (c : TxFrame) (k : Nat) : Dev :=
  ((d.modUplink u fun x => { x with cur := some { c with off := k, on := false } }).countUlk u 0x260).send
    (.fragment u (c.off == 0) false ((c.wire.take k).drop c.off) c.stamp)

/-- The gate of a preemptable frame in transmission has closed: the MAC holds its remainder (R370). -/
def Dev.gateHold (d : Dev) (u : Nat) : Dev :=
  let x := d.uplink u
  match x.cur with
  | none => d
  | some c =>
    if !c.on || x.gates.getLsbD c.fr.tc then d
    else match x.cutAt c d.devNs with
      | none => d
      | some k => (d.cutTx u c k).countUlk u 0x264

/-- GATE_ENTRY_CHANGE (R371). -/
def Dev.gateChange (d : Dev) (u : Nat) : Dev :=
  (d.modUplink u fun x => match x.gate with
    | none => x
    | some g => { x with gIdx := (g.after x.gIdx x.gAt).1, gAt := (g.after x.gIdx x.gAt).2 }).gateHold u

/-- GATE_LIST_START (R372). -/
def Dev.gateStart (d : Dev) (u : Nat) : Dev :=
  match (d.uplink u).gPend with
  | none => d
  | some (c, g, t) =>
    ((d.modUplink u fun x => { x with gate := some g, gIdx := 0, gAt := t, gPend := none }).gateHold u).complete c stOk
      (le 8 (packTime (t / 1000000000) (t % 1000000000)).toNat)

/-- A step of device time shifts the gates (R414): the list in force stands where its cycles put it in the new time, and one
that waits keeps its first cycle start at or after the step. -/
def Dev.regate (d : Dev) : Dev :=
  (List.range 32).foldl (fun d u => match (d.uplink u).gate with
    | none => d
    | some g => d.modUplink u fun x => { x with gIdx := (g.current d.devNs).1, gAt := (g.current d.devNs).2 }) d

/-! ### Egress (R363, R364, R369, R370, R373) -/

/-- Weight of an egress queue: 0 is strict. -/
def Uplink.weight (x : Uplink) (tc : Nat) : Nat := (byteAt x.cfg.qw tc).toNat
/-- Bytes queued at a traffic class. -/
def Uplink.qBytes (x : Uplink) (tc : Nat) : Nat := (x.q.filter fun f => f.tc == tc).foldl (fun n f => n + f.data.length) 0
/-- Start tag of a queue (R324). -/
def Uplink.tag (x : Uplink) (tc : Nat) : Word := sget (fun _ => 0#32) x.tags tc

/-- A frame without FCS enters egress queue `tc` of a port, or is dropped and counted (R363); an injected one then ends. -/
def Dev.egress (d : Dev) (u tc : Nat) (data : Bytes) (inj : Option Nat) : Dev :=
  let x := d.uplink u
  let n := data.length
  if !d.ulkLive u || x.stage == .draining then (d.countUlk u 0x26C).injEnd inj stAbandoned
  else if x.cfg.maxFrame < n + 4 then (d.countUlk u 0x274).injEnd inj stFailed
  else if x.cfg.qlim != 0 && decide (x.cfg.qlim < x.qBytes tc + n) then (d.countUlk u 0x268).injEnd inj stFailed
  else
    let (fits, d1) := d.takeCells 1 (cellsOf n)
    if !fits then d1.injEnd inj stFailed
    else d1.modUplink u fun y =>
      { y with
        tags := if x.qBytes tc = 0 && !(x.q.any fun f => f.tc == tc) then sset (fun _ => 0#32) y.tags tc y.v else y.tags
        q := y.q ++ [{ tc := tc, data := data, inj := inj }] }

/-- The head frame of an egress queue. -/
def Uplink.head (x : Uplink) (tc : Nat) : Option EgFrame := x.q.find? fun f => f.tc == tc
/-- ns in which a port sends a frame of `n` bytes without FCS, with preamble. -/
def Uplink.sendNs (x : Uplink) (n : Nat) : Nat := ceilDiv ((n + 12) * 8) (macRate x.rate * x.act.n)
/-- The queue acts as express (R369). -/
def Uplink.isExpress (x : Uplink) (tc : Nat) : Bool := !x.preOn || x.cfg.express.getLsbD tc
/-- The gate permits the head frame (R370). -/
def Uplink.gateOk (x : Uplink) (now tc n : Nat) : Bool :=
  (x.gates.getLsbD tc) && (!x.isExpress tc || (x.gateClose tc).all fun t => decide (now + x.sendNs n ≤ t))
/-- The inject ring a frame came from. -/
def EgFrame.ring (f : EgFrame) : Option Nat := f.inj.map (· / 2 ^ 16)
/-- An earlier frame of the same inject ring waits in another queue, or is on its way out: ring order holds (R84). -/
def Uplink.outranked (x : Uplink) (f : EgFrame) : Bool :=
  f.ring.isSome && (((x.q.find? fun e => e.ring == f.ring).map (·.tc)) != some f.tc || x.cur.any fun c => c.fr.ring == f.ring)
/-- The queue is eligible (R364). -/
def Uplink.eligible (x : Uplink) (now tc : Nat) : Bool :=
  match x.head tc with
  | none => false
  | some f => !x.heldAll && !x.held.contains tc && x.gateOk now tc f.data.length && !x.outranked f

/-- A child of the weighted scheduler: the one with the smallest distance ahead of V, then the lowest number (R325). -/
def leastTag (v : Word) : List (Nat × Word) → Option (Nat × Word)
  | [] => none
  | e :: l =>
    match leastTag v l with
    | none => some e
    | some b => if (b.2 - v).toNat < (e.2 - v).toNat then some b else some e

/-- The queue that a port takes among those that `only` admits, with its finish tag where it is weighted (R364). -/
def Uplink.choose (x : Uplink) (now : Nat) (only : Nat → Bool) : Option (Nat × Option Word) :=
  let ok := (List.range 8).filter fun t => only t && x.eligible now t
  match (ok.filter fun t => x.weight t == 0).reverse with
  | t :: _ => some (t, none)
  | [] => (leastTag x.v (ok.map fun t =>
      (t, x.tag t + BitVec.ofNat 32 (ceilDiv ((((x.head t).map (·.data.length)).getD 0) * 256) (x.weight t))))).map fun e => (e.1, some e.2)

/-- The head frame of queue `tc` leaves it, with its finish tag. -/
def Uplink.take (x : Uplink) (tc : Nat) (f : Option Word) : Uplink :=
  { x with
    q := dropFirst (fun e => e.tc == tc) x.q
    v := f.getD x.v
    tags := match f with
      | some w => sset (fun _ => 0#32) x.tags tc w
      | none => x.tags }

/-- Device time at the balls of a port's lowest lane: ULK_PTP_ADJ in ps is added (R373). -/
def Dev.ulkStamp (d : Dev) (u : Nat) (ps : Nat) : Dword :=
  let adj := ((d.slane u).ptp.setWidth 16).toInt
  let ns := (Int.toNat ((ps : Int) + adj)) / 1000
  packTime (ns / 1000000000) (ns % 1000000000)
/-- Device time now in ps. -/
def Dev.devPs (d : Dev) : Nat := d.devNs * 1000 + d.time.frac * 1000 / 2 ^ 32

/-- The size bucket of a frame of `n` bytes, FCS included (Table 12-11). -/
def sizeBucket (n : Nat) : Nat := ([64, 127, 255, 511, 1023, 1518, 2047, 4095, 9216].filter fun b => decide (b < n)).length
/-- Offset of the counter of a destination kind: unicast, multicast, broadcast. -/
def castOfs (base : Nat) (data : Bytes) : Nat :=
  if (bslice data 0 6).all (· == 0xFF#8) then base + 8 else if (byteAt data 0).getLsbD 0 then base + 4 else base

/-- A frame has been sent whole: its counters, its window, and the end of an injected one (R83, R374). -/
def Dev.txDone (d : Dev) (u : Nat) (fr : EgFrame) (stamp : Dword) : Dev :=
  let n := fr.data.length + 4
  let d1 := ((((d.freeCells 1 (cellsOf fr.data.length)).countUlk u 0x200).countUlk u 0x204 n).countUlk u
    (castOfs 0x208 fr.data)).countUlk u (0x238 + 4 * sizeBucket n)
  (d1.winCount (64 + u) true n (stampNs stamp)).injEnd fr.inj stOk stamp

/-- The frame on its way out ends: whole, or its last fragment (R369). -/
def Dev.finishTx (d : Dev) (u : Nat) (c : TxFrame) : Dev :=
  let d1 := d.modUplink u fun x => { x with cur := none }
  let d2 := if c.off = 0 then d1.send (.uplink u false c.wire c.stamp)
    else (d1.countUlk u 0x260).send (.fragment u false true (c.wire.drop c.off) c.stamp)
  d2.txDone u c.fr c.stamp

/-- The port takes its next frame among the queues that `only` admits (R364): an express one is sent, a preemptable one is on its way from now
(R369). A frame with an uncorrectable cell is dropped (Table 15-2). -/
def Dev.egressNext (d : Dev) (u : Nat) (only : Nat → Bool) : Dev :=
  let x := d.uplink u
  match x.choose d.devNs only with
  | none => d
  | some (tc, f) => match x.head tc with
    | none => d
    | some fr =>
      let stamp := d.ulkStamp u d.devPs
      let d1 := d.modUplink u fun y => y.take tc f
      let wire := fr.data ++ fcs fr.data
      if fr.bad then ((d1.freeCells 1 (cellsOf fr.data.length)).count 0x80048).injEnd fr.inj stFailed
      else if x.isExpress tc then (d1.send (.uplink u true wire stamp)).txDone u fr stamp
      else d1.modUplink u fun y => { y with cur := some { fr := fr, wire := wire, t0 := d.devNs, stamp := stamp } }

/-- An express queue is eligible. -/
def Uplink.expressWaits (x : Uplink) (now : Nat) : Bool := (List.range 8).any fun t => x.isExpress t && x.eligible now t

/-- EGRESS_SELECT (R364, R365, R369, R370): the free transmitter takes the next frame. A preemptable frame that by the time since its start is
still in transmission is pre-empted by an eligible express frame at its next boundary, or else has ended; a remainder goes on once no
express frame is eligible, its gate is open and no pause holds its queue. -/
def Dev.egressSelect (d : Dev) (u : Nat) : Dev :=
  let x := d.uplink u
  if !(x.up || x.stage == .draining) then d
  else match x.cur with
    | none => d.egressNext u fun _ => true
    | some c =>
      if c.on then
        match x.cutAt c d.devNs, x.expressWaits d.devNs with
        | some k, true => (d.cutTx u c k).egressNext u x.isExpress
        | _, _ => (d.finishTx u c).egressNext u fun _ => true
      else if x.expressWaits d.devNs then d.egressNext u x.isExpress
      else if x.gates.getLsbD c.fr.tc && !x.heldAll && !x.held.contains c.fr.tc then
        d.modUplink u fun y => { y with cur := some { c with on := true, t0 := d.devNs } }
      else d

/-! ### Receive and pause (R365 to R368, R374) -/

/-- Bytes in the receive FIFO of a port: frames that wait for its pipeline. -/
def Dev.rxFifo (d : Dev) (u : Nat) : Nat :=
  (d.cls.inQ.filter fun f => !f.upstream && f.num == u && !f.injected).foldl (fun n f => n + f.data.length) 0

/-- The pipeline of an uplink lane (R29). -/
def Dev.dnPipe (d : Dev) (u : Nat) : Nat :=
  if d.cls.pipeDown.contains (u / 8) then
    let up := (List.range 4).filter fun f => !d.cls.pipeDown.contains f
    (up[u % 8 % max 1 up.length]?).getD (u / 8)
  else u / 8

/-- PAUSE_FRAME_RECEIVE (R365, R366, R368): held queues; a time of 0 ends a hold. -/
def Dev.pauseReceive (d : Dev) (u : Nat) (data : Bytes) : Dev :=
  let x := d.uplink u
  if nfld data 14 2 = 1 then
    let d1 := d.countUlk u 0x12C
    if x.mode != 1 || x.ignorePause then d1 else d1.modUplink u fun y => { y with heldAll := nfld data 16 2 != 0 }
  else
    let en (i : Nat) : Bool := bitOf (nfld data 16 2) i
    let d1 := (List.range 8).foldl (fun d i => if en i then d.countUlk u (0x130 + 4 * i) else d) d
    if x.mode != 2 || x.ignorePause then d1
    else
      let keep (y : Uplink) (i : Nat) : Bool := if en i then nfld data (18 + 2 * i) 2 != 0 else y.held.contains i
      d1.modUplink u fun y => { y with held := (List.range 8).filter (keep y) }

/-- A pause or priority pause frame. -/
def isPauseFrame (data : Bytes) : Bool := nfld data 12 2 == 0x8808 && (nfld data 14 2 == 0x0001 || nfld data 14 2 == 0x0101)

/-- The fragments a frame came in, and the errors of putting it together (Table 12-11). -/
def Dev.countAsm (d : Dev) (u : Nat) (a : RxState) : Dev :=
  let d1 := if a.frags = 0 then d else d.countUlk u 0x184 a.frags
  let d2 := if a.smdErr then d1.countUlk u 0x17C else d1
  if a.assyErr then d2.countUlk u 0x180 else d2

/-- UPLINK_FRAME_RECEIVE (R369, R374): bytes without FCS; `stamp` is device time at the first bit after the start-of-frame delimiter. -/
def Dev.uplinkReceive (d0 : Dev) (u : Nat) (data : Bytes) (fcsGood : Bool) (a : RxState) (stamp : Dword) : Dev :=
  let x := d0.uplink u
  let n := data.length + 4
  let d := d0.countAsm u a
  if !(x.up || x.stage == .draining) then d0
  else if a.smdErr || a.assyErr then d
  else if a.codeErr then d.countUlk u 0x118
  else if n < 64 then d.countUlk u (if fcsGood then 0x11C else 0x120)
  else if x.cfg.maxFrame < n then d.countUlk u (if fcsGood then 0x124 else 0x128)
  else if !fcsGood then d.countUlk u 0x114
  else if isPauseFrame data then d.pauseReceive u data
  else
    let st := d.ulkStamp u (stampNs stamp * 1000)
    let d1 := (((d.countUlk u 0x100).countUlk u 0x104 n).countUlk u (castOfs 0x108 data)).countUlk u (0x150 + 4 * sizeBucket n)
    let d2 := d1.winCount (64 + u) false n (stampNs st)
    if 262144 * x.act.n < d2.rxFifo u + data.length then d2.countUlk u 0x178
    else { d2 with cls := { d2.cls with inQ := d2.cls.inQ ++
      [{ pipe := d2.dnPipe u, upstream := false, num := u, term := 0, data := data, stamp := st }] } }

/-- PAUSE_HOLD_EXPIRY (R365): of every queue, or of one. -/
def Dev.holdExpiry (d : Dev) (u : Nat) (q : Option Nat) : Dev :=
  d.modUplink u fun x => match q with
    | none => { x with heldAll := false }
    | some i => { x with held := x.held.filter fun j => j != i }

/-- Sends a pause frame of a time in quanta (R367); the manual does not give its source address. -/
def Dev.sendPause (d : Dev) (u quanta : Nat) : Dev :=
  let x := d.uplink u
  let (sa, d1) := d.pick 48
  let head : Bytes := [0x01#8, 0x80#8, 0xC2#8, 0x00#8, 0x00#8, 0x01#8] ++ be 6 sa ++ be 2 0x8808
  let body : Bytes := if x.mode = 1 then be 2 1 ++ be 2 quanta
    else be 2 0x0101 ++ be 2 x.pfcMask.toNat ++ (List.range 8).flatMap fun i => be 2 (if x.pfcMask.getLsbD i then quanta else 0)
  let d2 := if x.mode = 1 then d1.countUlk u 0x214
    else (List.range 8).foldl (fun d i => if x.pfcMask.getLsbD i then d.countUlk u (0x218 + 4 * i) else d) d1
  let frame := padTo 60 (head ++ body)
  d2.send (.uplink u false (frame ++ fcs frame) (d.ulkStamp u d.devPs))

/-- The port still receives and sends: it is up, or drains (R362). -/
def Uplink.runs (x : Uplink) : Bool := x.up || x.stage == .draining

/-- RX_FIFO_THRESHOLD (R367). -/
def Dev.rxThreshold (d : Dev) (u : Nat) : Dev :=
  let x := d.uplink u
  let b := d.rxFifo u
  if !x.runs || !x.tx || x.mode = 0 then d
  else if decide (x.xoff < b) && !x.txXoff then (d.modUplink u fun y => { y with txXoff := true }).sendPause u x.quanta
  else if decide (b ≤ x.xon) && x.txXoff then (d.modUplink u fun y => { y with txXoff := false }).sendPause u 0
  else d

/-- PAUSE_REPEAT (R367). -/
def Dev.pauseRepeat (d : Dev) (u : Nat) : Dev :=
  let x := d.uplink u
  if x.runs && x.tx && x.mode != 0 && x.txXoff && decide (x.xon < d.rxFifo u) then d.sendPause u x.quanta else d

/-- PREEMPT_VERIFY (R369): the partner answers, or 10 ms pass without an answer: up to 3 verify frames are sent. -/
def Dev.preemptVerify (d : Dev) (u : Nat) (answered : Bool) : Dev :=
  let x := d.uplink u
  if !x.up || !x.act.preempt || x.cfg.noverify || x.verEnd then d
  else if !answered && decide (x.verN < 3) then d.sendVerify u
  else (d.modUplink u fun y => { y with verEnd := true, verOk := answered }).emitUlk u 0x0807 (le 1 (if answered then 1 else 2))

/-! ### Drain and lane reset (R358, R360, R362) -/

/-- UPLINK_DRAIN_END (R362). -/
def Dev.ulkDrainEnd (d : Dev) (u : Nat) : Dev :=
  let x := d.uplink u
  if x.stage != .draining then d
  else
    let (n, d1) := d.dropEgress u 0x270
    let d2 := if n = 0 then d1 else d1.emitUlk u 0x0806 (le 4 0 ++ le 4 n)
    let d3 := ((d2.modLanes u fun y => { y with lock := false, en := y.en || y.wait.isSome }).modUplink u fun y =>
      { y with stage := .idle, drain := [] })
    (x.drain.foldl (fun d c => d.complete c stOk) d3).tryStart u

/-- Reset of a lane (R35, R360): its registers and state, its port down with cause 3, its pending commands but `own` ABANDONED;
an enabled lane's port starts its bring-up again once its signal is there. -/
def Dev.resetLane (d : Dev) (k : Nat) (own : Option Tag) : Dev :=
  let u := d.portOfLane k
  let tags := (d.cmds.filter fun a => a.obj == BitVec.ofNat 32 (0x0A000000 + k) && own != some a.tag).map (·.tag)
  let d1 := (d.modSlane k fun y => { (SLane.dflt k) with en := y.en, wait := y.wait.filter fun c => !tags.contains c }).portDown u 3 k
  let d2 := (d1.modUplink u fun x => { x with drain := x.drain.filter fun c => !tags.contains c }).abandonTags tags
  let lo := ctrIdx (laneBase k)
  let d3 := d2.clearCtrs fun i => decide (lo ≤ i ∧ i < lo + 0x80)
  if (d3.uplink u).stage == .draining then d3 else d3.modUplink u fun x => { x with stage := .idle, rate := 0 }

/-! ### Commands (Table 12-6) -/

/-- ULK_LANE_ENABLE (R361, R61). -/
def cmdUlkLaneEnable (c : Tag) (obj : Word) (limit : Half) (d0 : Dev) : HostCmd :=
  let k := objIndex obj
  { opc := 0x0801
    good := objIs obj 0x0A 32 && decide (limit.toNat ≤ 60000)
    reach := reachIf (objIs obj 0x0A 32) (.uplink (d0.portOfLane k))
    body := fun d =>
      let u := d.portOfLane k
      if (d.slane k).en && (d.uplink u).up then d.complete c stOk
      else
        let d1 := d.modSlane k fun x => { x with wait := some c, en := x.en || (d.uplink u).stage != .draining }
        d1.tryStart u }

/-- ULK_ENABLE_LIMIT (R361). -/
def Dev.enableLimit (d : Dev) (k : Nat) : Dev :=
  match (d.slane k).wait with
  | none => d
  | some c => (d.modSlane k fun x => { x with wait := none }).complete c stTimeout

/-- ULK_LANE_DISABLE (R358, R362). -/
def cmdUlkLaneDisable (c : Tag) (obj : Word) (_ : Dev) : HostCmd :=
  let k := objIndex obj
  { opc := 0x0802
    good := objIs obj 0x0A 32
    body := fun d =>
      let u := d.portOfLane k
      let d1 := d.modSlane k fun x => { x with en := false }
      if (d.uplink u).stage == .idle then d1.complete c stOk
      else (d1.portDown u 6 k).modUplink u fun x => { x with stage := .draining, drain := x.drain ++ [c] } }

/-- The port lies inside another one's record: ports overlap (Table 12-14). -/
def Dev.overlaps (d : Dev) (u : Nat) : Bool := (List.range u).any fun v => decide (u < v + (d.uplink v).cfg.n)

/-- ULK_PORT_SET (R344): a verification that NOVERIFY no longer spares begins. -/
def cmdUlkPortSet (c : Tag) (obj : Word) (a : PortArgs) (d0 : Dev) : HostCmd :=
  let u := objIndex obj
  let n := a.lanes.toNat
  let shape := portType n a.topRate.toNat && decide (u % n = 0) && !d0.overlaps u
  { opc := 0x0803
    good := objIs obj 0x0B 32 && shape && decide (a.bringup.toNat ≤ 2 ∧
      1518 ≤ a.maxFrame.toNat ∧ a.maxFrame.toNat ≤ 16383 ∧ a.liveHold.toNat ≤ 1000 ∧
      (a.qlim.toNat = 0 ∨ (2048 ≤ a.qlim.toNat ∧ a.qlim.toNat < 2 ^ 24)))
    reach := if !objIs obj 0x0B 32 || decide (2 < a.bringup.toNat) then [.package]
      else if shape then [.uplink u]
      else [.quads (u / 4 * 4) (max 4 ((u + min n 8 + 3) / 4 * 4))]
    body := fun d => (((d.modUplink u fun x => { x with cfg := {
      n := n, top := a.topRate.toNat, bring := a.bringup.toNat, preempt := a.pflags.getLsbD 0, noverify := a.pflags.getLsbD 1
      fec25 := a.pflags.getLsbD 2, maxFrame := a.maxFrame.toNat, liveHold := a.liveHold.toNat, qlim := a.qlim.toNat
      qw := if a.qweight = 0 then [] else le 8 a.qweight.toNat
      express := a.express } }).sendVerify u).tryStart u).complete c stOk }

/-- The lane is in bit-slip alignment (R347). -/
def Dev.bitSlip (d : Dev) (k : Nat) : Bool :=
  let x := d.uplink (d.portOfLane k)
  (d.slane k).ctrl.getLsbD 1 && x.act.bring == 2 && decide (x.rate ≤ 1) && (x.stage == .fixed || x.stage == .done || x.stage == .relock)

/-- ULK_BITSLIP (R347): whether the lane is locked at the new bit position is the line's to say (a free value). -/
def cmdUlkBitslip (c : Tag) (obj : Word) (count : Byte) (_ : Dev) : HostCmd :=
  let k := objIndex obj
  { opc := 0x0804
    good := objIs obj 0x0A 32 && decide (1 ≤ count.toNat ∧ count.toNat ≤ 65)
    body := fun d =>
      if !d.bitSlip k then d.complete c stOk [0x00#8]
      else
        let (b, d0) := d.pick 1
        let d1 := d0.modSlane k fun x => { x with bitPos := (x.bitPos + count.toNat) % 66 }
        let d2 := if b = 1 then d1.laneLock k else d1.lockLoss k
        d2.complete c stOk [0x01#8, BitVec.ofNat 8 (b2n (d2.slane k).lock)] }

/-- The entries of a gate list in host memory (R371). -/
def readGates (m : Sparse Byte) (addr count : Nat) : List (Nat × Byte) :=
  (List.range count).map fun i => (ofLe (memRead m (addr + 8 * i) 4), sget memDflt m (addr + 8 * i + 4))

/-- T0 (R372): the smallest BASE + n x CYCLE at or after a time. -/
def gateT0 (base cycle t : Nat) : Nat := base + ceilDiv (t - base) cycle * cycle

/-- ULK_GATE_LIST (R371, R372). -/
def cmdUlkGateList (c : Tag) (obj : Word) (a : GateArgs) (e : Env) (_ : Dev) : HostCmd :=
  let u := objIndex obj
  let ents := readGates e.mem a.addr.toNat a.count.toNat
  { opc := 0x0805
    good := objIs obj 0x0B 32 && (!a.gflags.getLsbD 0 ||
      (decide (1 ≤ a.count.toNat ∧ a.count.toNat ≤ 256 ∧ a.addr.toNat % 64 = 0 ∧ a.ns.toNat % 2 ^ 30 < 1000000000 ∧ 1000 ≤ a.cycle.toNat ∧
        a.cycle.toNat ≤ 1000000000) && ents.all fun x => decide (1 ≤ x.1 ∧ x.1 ≤ 1000000000)))
    reach := reachIf (objIs obj 0x0B 32 && decide (a.addr.toNat % 64 = 0)) (.uplink u)
    body := fun d =>
      if a.gflags.getLsbD 0 then
        let base := a.sec.toNat * 1000000000 + a.ns.toNat % 2 ^ 30
        let t := d.devNs + (if d.time.frac = 0 then 2000 else 2001)
        d.modUplink u fun x => { x with gPend := some (c, { ents := ents, base := base, cycle := a.cycle.toNat }, gateT0 base a.cycle.toNat t) }
      else (d.modUplink u fun x => { x with gate := none, gIdx := 0, gAt := 0 }).complete c stOk }

/-- ULK_PAUSE_SET (R365 to R367). -/
def cmdUlkPauseSet (c : Tag) (obj : Word) (a : PauseArgs) (d0 : Dev) : HostCmd :=
  let u := objIndex obj
  { opc := 0x0806
    good := objIs obj 0x0B 32 && decide (a.mode.toNat ≤ 2 ∧ (a.pflags.getLsbD 1 = true →
      1 ≤ a.quanta.toNat ∧ a.xon.toNat < a.xoff.toNat ∧ a.xoff.toNat ≤ 262144 * (d0.uplink u).cfg.n))
    reach := reachIf (objIs obj 0x0B 32 && decide (a.mode.toNat ≤ 2)) (.uplink u)
    body := fun d => (d.modUplink u fun x => { x with
      mode := a.mode.toNat, ignorePause := a.pflags.getLsbD 0, tx := a.pflags.getLsbD 1, pfcMask := a.pfcMask, quanta := a.quanta.toNat
      xoff := a.xoff.toNat, xon := a.xon.toNat, txXoff := x.txXoff && a.pflags.getLsbD 1 }).complete c stOk }

/-! ### State and registers -/

/-- A tap after at most `n` steps of one, whichever they are (R346). -/
def tapStep (n : Nat) (old new : Byte) : Byte :=
  BitVec.ofInt 8 (max (old.toInt - n) (min (old.toInt + n) new.toInt))

/-- READ_STATE on a lane (R346): the equaliser adapts by itself, so its settings are free values; each tap has moved by at most one step per
microsecond since it was last seen. EQ_FREEZE holds them. -/
def Dev.eqState (d : Dev) (k : Nat) : Bytes × Dev :=
  let x := d.slane k
  if !x.eq.isEmpty && (x.ctrl.getLsbD 0 || x.eqAt == d.now) then (padTo 16 x.eq, d)
  else
    let (a, d1) := d.pick 64
    let (b, d2) := d1.pick 40
    let new := le 8 a ++ le 5 b
    let eq := if x.eq.isEmpty then new
      else new.take 1 ++ (x.eq.drop 1).zipWith (tapStep ((d.now - x.eqAt) / 1000)) (new.drop 1)
    (padTo 16 eq, d2.modSlane k fun y => { y with eq := eq, eqAt := d.now })

/-- A write of ULK_LANE_CTRL (Table 12-10): settings hold from where EQ_FREEZE is set. -/
def Dev.setLaneCtrl (d : Dev) (k : Nat) (v : Word) : Dev :=
  let d1 := if v.getLsbD 0 && !(d.slane k).ctrl.getLsbD 0 then (d.eqState k).2 else d
  d1.modSlane k fun y => { y with ctrl := v &&& 0x3#32 }

/-- ULK_LANE_STATUS (Table 12-12). -/
def Dev.laneStatus (d : Dev) (k : Nat) : Word :=
  let y := d.slane k
  let x := d.uplink (d.portOfLane k)
  let st := match x.stage with
    | .idle => b2n y.en
    | .listen => 2
    | .ladder => 3
    | .autoneg => 4
    | .training => 5
    | .fixed => 5
    | .done => 6
    | .relock => 7
    | .draining => 8
  BitVec.ofNat 32 (st + 16 * x.rate + 128 * b2n y.signal + 256 * b2n y.lock)

/-- ULK_PORT_STATUS (Table 12-13). -/
def Dev.portStatus (d : Dev) (u : Nat) : Word :=
  let x := d.uplink u
  BitVec.ofNat 32 (b2n x.up + 2 * b2n (d.ulkLive u) + 4 * b2n x.lf + 8 * b2n x.rf + 16 * x.rate + 256 * x.width + 4096 * x.act.bring +
    16384 * b2n x.preOn + 32768 * b2n x.gate.isSome)

/-- ULK_PAUSE_STATUS and ULK_GATE_STATUS (Table 12-8). -/
def Uplink.pauseStatus (x : Uplink) : Word :=
  BitVec.ofNat 32 (x.held.foldl (fun n i => n + 2 ^ i) 0 + 256 * b2n x.heldAll + 512 * b2n x.txXoff)
def Uplink.gateStatus (x : Uplink) : Word :=
  BitVec.ofNat 32 (x.gates.toNat + 256 * x.gIdx + 65536 * b2n x.gate.isSome + 131072 * b2n x.gPend.isSome)

end Sys2Proof.Machine
end

