-- ==== Sys2Proof/Machine/Tables.lean ====
section
/-! DEFINITION. The service tables (chapter 10): exact-match tables, learning, ageing, flushes, address validation, commands. -/
namespace Sys2Proof.Machine
open Sys2Proof

/-! ### Action records (Table 9-7) -/

/-- An action (R276). -/
structure Act where
  kind : Nat
  edit : Nat := 0
  tci : Nat := 0
  target : Nat := 0
  reason : Nat := 0
  md : Nat := 0
  strip : Nat := 0
  tc : Nat := 0
  rsv : Nat := 0
  deriving DecidableEq, Repr

/-- The action record at offset `o`. -/
def actAt (b : Bytes) (o : Nat) : Act :=
  { kind := fld b o 1, edit := fld b (o + 1) 1, tci := fld b (o + 2) 2, target := fld b (o + 4) 4, reason := fld b (o + 8) 2
    md := fld b (o + 10) 2, strip := fld b (o + 12) 1, tc := fld b (o + 13) 1, rsv := fld b (o + 14) 2 }
/-- TARGET lies in the range of its kind. -/
def targetGood (kind target : Nat) : Bool :=
  match kind with
  | 0 => target == 0
  | 1 => target < 2 ^ 20
  | 2 => target < 32
  | 3 => target < 64
  | 4 => target < 16
  | 5 => target == 0
  | 6 => target < 16384
  | _ => false
/-- The action keeps the ranges of Tables 9-7 and 9-8; STRIP, whose mistakes touch second passes only, apart. -/
def Act.good (a : Act) : Bool := targetGood a.kind a.target && decide (a.edit ≤ 6 ∧ a.tc < 8 ∧ a.rsv = 0)

/-! ### Exact-match tables (R295 to R298) -/

def Dev.table (d : Dev) : TableId → ExTable
  | .svc => d.tbl.svc
  | .mac => d.tbl.mac
  | .val => d.tbl.val
def Dev.setTable (d : Dev) (t : TableId) (x : ExTable) : Dev :=
  match t with
  | .svc => { d with tbl := { d.tbl with svc := x } }
  | .mac => { d with tbl := { d.tbl with mac := x } }
  | .val => { d with tbl := { d.tbl with val := x } }
/-- A table's number in handles and events. -/
def tableCode : TableId → Nat
  | .svc => 0
  | .mac => 1
  | .val => 3
/-- Buckets and sump entries (Table 10-2). -/
def tableBuckets : TableId → Nat
  | .svc => 262144
  | .mac => 2097152
  | .val => 1048576
def sumpMax : TableId → Nat
  | .mac => 65536
  | _ => 32768
/-- The key of an entry (Tables 10-3, 10-5, 10-8). -/
def entryKey (t : TableId) (e : Bytes) : Bytes :=
  match t with
  | .svc => bslice e 0 3 ++ bslice e 4 16
  | .mac => bslice e 0 8
  | .val => bslice e 16 3 ++ [byteAt e 19 &&& 1#8] ++ bslice e 0 16
/-- The VALID bit of an entry. -/
def entryValid (t : TableId) (e : Bytes) : Bool :=
  match t with
  | .svc => (byteAt e 3).getLsbD 0
  | .mac => (byteAt e 14).getLsbD 0
  | .val => (byteAt e 19).getLsbD 7
/-- The two candidate buckets of a key. -/
def candidates (t : TableId) (key : Bytes) : List Nat :=
  [Config.bucket (tableCode t) 0 key % tableBuckets t, Config.bucket (tableCode t) 1 key % tableBuckets t]

/-- Every entry: buckets in order, then the sump. -/
def ExTable.entries (x : ExTable) : List Bytes := x.slots.map (·.2) ++ x.sump
/-- The entry with a key (R298). -/
def ExTable.find (t : TableId) (x : ExTable) (key : Bytes) : Option Bytes := x.entries.find? fun e => entryKey t e == key && entryValid t e
/-- Replaces the entry with a key in place. -/
def ExTable.update (t : TableId) (x : ExTable) (key new : Bytes) : ExTable :=
  { x with
    slots := x.slots.map fun e => if entryKey t e.2 == key then (e.1, new) else e
    sump := x.sump.map fun e => if entryKey t e == key then new else e }
/-- Removes the entries for which `p` holds; their slots are free. -/
def ExTable.remove (x : ExTable) (p : Bytes → Bool) : ExTable :=
  { slots := x.slots.filter fun e => !p e.2, sump := x.sump.filter fun e => !p e, fullSaid := x.fullSaid && !x.entries.any p }
/-- The first free slot of a bucket. -/
def ExTable.freeSlot (x : ExTable) (b : Nat) : Option Nat :=
  ((List.range 4).find? fun i => (sget (fun _ => ([] : Bytes)) x.slots (4 * b + i)).isEmpty).map (4 * b + ·)
/-- Insertion (R296); none when there is no room. -/
def ExTable.insert (t : TableId) (x : ExTable) (new : Bytes) : Option ExTable :=
  let key := entryKey t new
  if (x.find t key).isSome then some (x.update t key new)
  else match (candidates t key).findSome? x.freeSlot with
    | some k => some { x with slots := sput x.slots k new }
    | none => if x.sump.length < sumpMax t then some { x with sump := x.sump ++ [new] } else none

/-- An insertion failed: TBL_TABLE_FULL on the first failure after an entry was last freed (R296). -/
def Dev.tableFull (d : Dev) (t : TableId) (cause : Nat) : Dev :=
  let x := d.table t
  if x.fullSaid then d
  else (d.setTable t { x with fullSaid := true }).emit 0x8603 (srcOf 0 2) (le 1 (tableCode t) ++ le 1 cause ++ le 2 0 ++ le 4 x.sump.length)

/-- SUMP_MOVE (R297): the oldest sump entry of a bucket moves into its free slot. -/
def Dev.sumpMove (d : Dev) (t : TableId) (b : Nat) : Dev :=
  let x := d.table t
  match x.freeSlot b, x.sump.find? fun e => (candidates t (entryKey t e)).contains b with
  | some k, some e => d.setTable t { x with slots := sput x.slots k e, sump := dropFirst (fun y => y == e) x.sump }
  | _, _ => d

/-! ### Domains -/

def Dev.domain (d : Dev) (b : Nat) : Bytes := sget (fun _ => []) d.tbl.doms b
def Dev.holdOf (d : Dev) (b : Nat) : Nat := sget (fun _ => 40) d.tbl.hold b
def Dev.epochOf (d : Dev) (b : Nat) : Nat := sget (fun _ => 0) d.tbl.epoch b
/-- HOLD of the domain or AGE_S is outside its range (Table 10-13). -/
def Dev.ageOdd (d : Dev) (b : Nat) : Bool :=
  let age := d.tbl.ctrl.toNat % 2 ^ 17
  d.tbl.oddHold.contains b || decide (0 < age ∧ age < 10 ∨ 86400 < age)
/-- The tick count (R303). -/
def Dev.tick (d : Dev) : Nat := d.devNs / 25000 % 2 ^ 32
/-- Ticks from one instant to another, modulo 2^32. -/
def ticksFrom (a n : Nat) : Nat := (n + 2 ^ 32 - a % 2 ^ 32) % 2 ^ 32

/-! ### The MAC table and learning (R303 to R306) -/

def macKey (mac : Bytes) (dom : Nat) : Bytes := bslice mac 0 6 ++ le 2 dom
def macDest (e : Bytes) : Nat := fld e 8 4
def macTerm (e : Bytes) : Nat := fld e 12 2 % 1024
def macStatic (e : Bytes) : Bool := (byteAt e 14).getLsbD 1
def macLast (e : Bytes) : Nat := fld e 16 4

/-- Two sources are the same (R303): one tree port and terminal, or one uplink port. -/
def sameSource (d1 t1 d2 t2 : Nat) : Bool :=
  if d1 / 2 ^ 28 = 0 then d2 / 2 ^ 28 == 0 && d1 % 2 ^ 20 / 2 ^ 14 == d2 % 2 ^ 20 / 2 ^ 14 && t1 == t2 else d1 == d2

/-- The MAC table as it can be read: nothing before DRAM_READY (R469), no bucket without a copy (R438). -/
def Dev.macTable (d : Dev) : ExTable :=
  if !d.ddr.ready then {} else { d.tbl.mac with slots := d.tbl.mac.slots.filter fun e => !d.bucketLost (e.1 / 4) }

/-- Counts a MAC lookup that reads DRAM; whether the cache holds the bucket is not in the manual (a free value). -/
def Dev.macLookup (d : Dev) (key : Bytes) : Option Bytes × Dev :=
  let (b, d1) := d.pick 1
  (d.macTable.find .mac key, if b = 1 then d1.count 0x30064 else d1)

/-- The learn check of a frame (R304): a request joins the learn queue, or is dropped when that is full (R306). -/
def Dev.learn (d : Dev) (dom : Nat) (smac : Bytes) (dest term : Nat) : Dev :=
  if (byteAt smac 0).getLsbD 0 || ofLe smac = 0 then d
  else
    let (r, d1) := d.macLookup (macKey smac dom)
    let ask : Bool := match r with
      | none => true
      | some e => !sameSource dest term (macDest e) (macTerm e) || decide (max 4 (d.holdOf dom / 4) ≤ ticksFrom (macLast e) d.tick)
    if !ask then d1
    else if !d1.ddr.ready then d1.count 0x3004C
    else if 4096 ≤ d1.tbl.learnQ.length then d1.count 0x3004C
    else { d1 with tbl := { d1.tbl with learnQ := d1.tbl.learnQ ++ [{ mac := smac, dom := dom, dest := dest, term := term }] } }

/-- The entry with its last-seen fields set to now. -/
def macSeen (e : Bytes) (tick epoch : Nat) : Bytes := patch (patch e 16 (le 4 tick)) 26 (le 1 epoch)

/-- LEARN_APPLY (R305): the oldest learn request. With HOLD or AGE_S out of range a move is applied or refused at any time (Table 10-13). -/
def Dev.learnApply (d : Dev) : Dev :=
  match d.tbl.learnQ with
  | [] => d
  | r :: rest =>
    let (b, d) := d.pick 1
    let ripe (f : Bool) : Bool := if d.ageOdd r.dom then b == 1 else f
    let d0 := { d with tbl := { d.tbl with learnQ := rest } }
    let key := macKey r.mac r.dom
    let n := d.tick
    let hold := d.holdOf r.dom
    let put (e : Bytes) : Dev := d0.setTable .mac (d0.tbl.mac.update .mac key e)
    match d0.macTable.find .mac key with
    | none =>
      let e := key ++ le 4 r.dest ++ le 2 r.term ++ [0x01#8, 0x00#8] ++ le 4 n ++ le 6 0 ++ le 1 (d.epochOf r.dom) ++ le 5 0
      match d0.tbl.mac.insert .mac e with
      | some x =>
        let d1 := d0.setTable .mac x
        if (d1.macTable.find .mac key).isNone then d0.count 0x3004C else d1.count 0x30040
      | none => (d0.count 0x30050).tableFull .mac 1
    | some e =>
      let cand := (byteAt e 27).getLsbD 0 && sameSource r.dest r.term (fld e 20 4) (fld e 24 2)
      if sameSource r.dest r.term (macDest e) (macTerm e) then
        put (patch (macSeen e n (d.epochOf r.dom)) 8 (le 4 r.dest ++ le 2 r.term))
      else if !cand then
        ((put (patch (patch (patch e 20 (le 4 r.dest ++ le 2 r.term)) 27 [0x01#8]) 28 (le 4 n))).count 0x30048).emit 0x0601 (srcOf 0 2)
          (r.mac ++ le 2 r.dom ++ le 4 (macDest e) ++ le 4 r.dest)
      else if !macStatic e && ripe (decide (hold ≤ ticksFrom (fld e 28 4) n ∧ hold + hold / 4 ≤ ticksFrom (macLast e) n)) then
        ((put (patch (patch (macSeen e n (d.epochOf r.dom)) 8 (le 4 r.dest ++ le 2 r.term)) 27 [0x00#8])).count 0x30044).emit 0x0602
          (srcOf 0 2) (r.mac ++ le 2 r.dom ++ le 4 (macDest e) ++ le 4 r.dest)
      else d0.count 0x30048

/-- AGER_VISIT (R308). With AGE_S or HOLD out of range a learnt entry may age at any time (Table 10-13). -/
def Dev.agerVisit (d : Dev) (mac : Bytes) (dom : Nat) : Dev :=
  let key := macKey mac dom
  let age := d.tbl.ctrl.toNat % 2 ^ 17
  match d.tbl.mac.find .mac key with
  | none => d
  | some e =>
    let n := d.tick
    let old := ticksFrom (macLast e) n
    let (b, d) := d.pick 1
    if d.ageOdd dom then
      if !macStatic e && b == 1 then (d.setTable .mac (d.tbl.mac.remove fun x => entryKey .mac x == key)).count 0x30054 else d
    else if age = 0 then
      if 2 ^ 30 < old then d.setTable .mac (d.tbl.mac.update .mac key (patch e 16 (le 4 (ticksFrom (2 ^ 30) n)))) else d
    else if !macStatic e && decide (age * 40000 ≤ old) then
      (d.setTable .mac (d.tbl.mac.remove fun x => entryKey .mac x == key)).count 0x30054
    else d

/-- The filter of a flush (Table 10-9). -/
def flushMatch (filter : Option Nat) (e : Bytes) : Bool :=
  match filter with
  | none => true
  | some f =>
    let dest := macDest e
    if f / 2 ^ 28 = 4 then dest / 2 ^ 28 == 0 && dest % 2 ^ 20 / 2 ^ 14 == f % 64
    else dest / 2 ^ 28 == f / 2 ^ 28 && dest % 2 ^ 20 == f % 2 ^ 20

/-- FLUSH_SWEEP_END (R309). -/
def Dev.flushEnd (d : Dev) (b : Nat) : Dev :=
  match d.tbl.flushes.find? fun f => f.dom == b with
  | none => d
  | some f =>
    let ep := d.epochOf b
    let mine (e : Bytes) : Bool := fld e 6 2 % 2 ^ 14 == b
    let gone (e : Bytes) : Bool := mine e && fld e 26 1 != ep && flushMatch f.filter e && (!macStatic e || f.withStatic)
    let n := (d.tbl.mac.entries.filter gone).length
    let x := d.tbl.mac.remove gone
    let fresh (e : Bytes) : Bytes := if mine e then patch e 26 (le 1 ep) else e
    let d1 := d.setTable .mac { x with slots := x.slots.map fun e => (e.1, fresh e.2), sump := x.sump.map fresh }
    { d1 with tbl := { d1.tbl with flushes := dropFirst (fun g => g.dom == b) d1.tbl.flushes } }.complete f.tag stOk (le 4 n)

/-! ### The service key (R302) -/

/-- The key of a frame in a domain; none when it lacks a field of the kind. -/
def Parsed.svcKey (k : Parsed) (dom mode : Nat) : Option Bytes :=
  let key (kind : Nat) (b : Bytes) : Option Bytes := some (le 2 dom ++ le 1 kind ++ padTo 16 b)
  let v4 : Option Bytes := key 5 (k.dip.take 4)
  let v6 : Option Bytes := key 7 k.dip
  match mode with
  | 1 => if 1 ≤ k.tags then key 1 (le 2 (k.otci % 4096)) else none
  | 2 => if 2 ≤ k.tags then key 2 (le 2 (k.otci % 4096) ++ le 2 (k.itci % 4096)) else none
  | 3 => if k.pppoe then key 3 (k.dmac ++ le 2 k.sid) else none
  | 4 => if k.ip4 then v4 else if k.ip6 then v6 else none
  | 5 => if k.ip4 then v4 else none
  | 6 => if 1 ≤ k.mplsN then key 6 (le 3 (k.mpls0 / 4096)) else none
  | 7 => if k.ip6 then v6 else none
  | _ => none

/-! ### Address validation (R310 to R312) -/

/-- An address masked to its first `len` bits. -/
def maskAddr (a : Bytes) (len : Nat) : Bytes := be 16 (ofBe (bslice a 0 16) / 2 ^ (128 - len) * 2 ^ (128 - len))
/-- The lengths a validation domain holds in a family, longest first. -/
def Dev.lengths (d : Dev) (vdom v6 : Nat) : List Nat :=
  let has (l : Nat) : Bool := d.tbl.val.entries.any fun e =>
    entryValid .val e && fld e 16 2 == vdom && fld e 18 1 == l && b2n ((byteAt e 19).getLsbD 0) == v6
  (List.range 129).reverse.filter has
/-- The longest matching prefix. -/
def Dev.prefixOf (d : Dev) (vdom v6 : Nat) (a : Bytes) : Option Bytes :=
  (d.lengths vdom v6).findSome? fun l => d.tbl.val.find .val (le 2 vdom ++ le 1 l ++ le 1 v6 ++ maskAddr a l)
/-- A prefix entry keeps the ranges of Table 10-8, and its ADDR bits beyond LEN are zero. -/
def valGood (e : Bytes) : Bool :=
  let len := fld e 18 1
  let f := fld e 19 1
  decide (fld e 16 2 < 2 ^ 14 ∧ len ≤ (if f % 2 = 1 then 128 else 32) ∧ f / 2 % 64 = 0 ∧ fld e 20 1 ≤ 3 ∧ fld e 21 1 < 64 ∧
    fld e 22 2 < 1024 ∧ (fld e 20 1 = 0 → fld e 22 2 < 1020)) && ofLe (bslice e 24 8) == 0 && maskAddr (bslice e 0 16) len == bslice e 0 16

/-- ADDRESS_VALIDATION (R311): the frame passes. -/
def Dev.passes (d : Dev) (rec : Bytes) (k : Parsed) (port term : Nat) : Bool :=
  if !k.ip4 && !k.ip6 && !k.arp then (byteAt rec 2).getLsbD 4
  else match d.prefixOf (fld rec 4 2 % 2 ^ 14) (b2n k.ip6) k.sip with
    | none => false
    | some e =>
      match fld e 20 1 with
      | 0 => fld e 21 1 == port && fld e 22 2 % 1024 == term
      | 1 => fld e 21 1 == port
      | 2 => true
      | _ => false

/-- ADDRESS_VALIDATION in a validation domain; one that holds a prefix entry with a mistake may give any result (Table 10-13). -/
def Dev.validates (d : Dev) (rec : Bytes) (k : Parsed) (port term : Nat) : Bool × Dev :=
  if d.tbl.val.entries.any fun e => entryValid .val e && fld e 16 2 % 2 ^ 14 == fld rec 4 2 % 2 ^ 14 && !valGood e then
    let (b, d1) := d.pick 1
    (b == 1, d1)
  else (d.passes rec k port term, d)

/-! ### Commands (R313) -/

/-- Kind and number of a table handle. -/
def tblKind (obj : Word) : Nat := objIndex obj / 2 ^ 20
def tblNum (obj : Word) : Nat := objIndex obj % 2 ^ 20
/-- The handle names a table or a domain. -/
def tblGood (obj : Word) : Bool :=
  objClass obj == 0x0F && (if tblKind obj = 2 then decide (tblNum obj < 16384) else decide (tblKind obj ≤ 3 ∧ tblNum obj = 0))
/-- The exact-match table of a handle. -/
def tblOf (obj : Word) : TableId := match tblKind obj with
  | 0 => .svc
  | 1 => .mac
  | _ => .val

/-- A list of items of `size` bytes in host memory. -/
def readItems (m : Sparse Byte) (addr size count : Nat) : List Bytes := (List.range count).map fun i => memRead m (addr + size * i) size
/-- ADDR and COUNT of a table command. -/
def listGood (addr : Dword) (count : Word) : Bool := decide (addr.toNat % 64 = 0 ∧ 1 ≤ count.toNat ∧ count.toNat ≤ 65536)

/-- The result of a service entry as an action. -/
def svcAct (e : Bytes) : Act :=
  { kind := fld e 20 1, edit := fld e 21 1, tci := fld e 22 2, target := fld e 24 4, reason := fld e 28 2, tc := fld e 30 1, rsv := fld e 31 1 }
/-- Key bytes that the kind of a service entry uses (Table 10-4). -/
def svcKeyLen (e : Bytes) : Nat := match fld e 2 1 with
  | 1 => 2
  | 2 => 4
  | 3 => 8
  | 5 => 4
  | 6 => 3
  | 7 => 16
  | _ => 0
/-- The fields of a service entry keep the ranges of Tables 10-3 and 10-4. -/
def svcGood (e : Bytes) : Bool := decide (fld e 0 2 < 2 ^ 14 ∧ 0 < svcKeyLen e ∧ fld e 3 1 < 2) && (svcAct e).good
/-- The bits beyond the key of a service entry's kind are zero. -/
def svcKeyed (e : Bytes) : Bool :=
  ofLe (bslice e (4 + svcKeyLen e) (16 - svcKeyLen e)) == 0 && match fld e 2 1 with
  | 1 => decide (fld e 4 2 < 4096)
  | 2 => decide (fld e 4 2 < 4096 ∧ fld e 6 2 < 4096)
  | 6 => decide (fld e 4 3 < 2 ^ 20)
  | _ => true
/-- The host's bytes of a MAC entry keep the ranges of Table 10-5. -/
def macGood (e : Bytes) : Bool :=
  let x := macDest e
  decide (fld e 6 2 < 2 ^ 14 ∧ x / 2 ^ 28 ≤ 2 ∧ x / 2 ^ 20 % 2 ^ 8 = 0 ∧ (x / 2 ^ 28 = 1 → x % 2 ^ 20 < 32) ∧ fld e 12 2 < 1024 ∧
    (x / 2 ^ 28 = 0 → fld e 12 2 < 1020) ∧ fld e 14 1 < 4 ∧ fld e 15 1 = 0)
/-- A domain record keeps the ranges of Table 10-1. -/
def domGood (e : Bytes) : Bool :=
  decide (fld e 0 2 < 2 ^ 14 ∧ fld e 2 1 < 64 ∧ fld e 3 1 ≤ 7 ∧ fld e 4 2 < 2 ^ 14) && ofLe (bslice e 6 10) == 0 && (actAt e 16).good &&
    (actAt e 32).good && (actAt e 48).good
/-- Domain `b` has a record or an entry with a mistake, so that its frames may take any destination (Table 10-13). -/
def Dev.domOdd (d : Dev) (b : Nat) : Bool :=
  (d.domain b != [] && !domGood (d.domain b)) || (d.tbl.svc.entries.any fun e => fld e 0 2 % 2 ^ 14 == b && !svcGood e) ||
    d.tbl.mac.entries.any fun e => fld e 6 2 % 2 ^ 14 == b && !macGood e

/-- A MAC entry as a host write installs it (R303). -/
def macInstall (e : Bytes) (tick : Nat) : Bytes := bslice e 0 16 ++ le 4 tick ++ List.replicate 12 0

/-- The new entry's key would give its validation domain a 17th length (R310). -/
def Dev.tooLong (d : Dev) (e : Bytes) : Bool :=
  let ls := d.lengths (fld e 16 2) (b2n ((byteAt e 19).getLsbD 0))
  !ls.contains (fld e 18 1) && decide (16 ≤ ls.length)

/-- Applies one item to a table; the stop cause is 0 when it is applied. -/
def Dev.applyItem (d : Dev) (t : TableId) (e : Bytes) : Nat × Dev :=
  let x := d.table t
  if !entryValid t e then (0, d.setTable t (x.remove fun y => entryKey t y == entryKey t e))
  else if t = .val && d.tooLong e then (2, d)
  else match x.insert t (if t = .mac then macInstall e d.tick else e) with
    | some y => (0, d.setTable t y)
    | none => (1, d.tableFull t 2)

/-- Applies items in order to the first that stops the command: items applied, stop cause. -/
def Dev.applyItems (d : Dev) (t : TableId) (n : Nat) : List Bytes → Nat × Nat × Dev
  | [] => (n, 0, d)
  | e :: es =>
    match d.applyItem t e with
    | (0, d1) => d1.applyItems t (n + 1) es
    | (k, d1) => (n, k, d1)

/-- Ends TBL_WRITE or TBL_LPM_LOAD. -/
def Dev.itemsDone (r : Nat × Nat × Dev) (c : Tag) : Dev :=
  r.2.2.complete c (if r.2.1 = 0 then stOk else stFailed) (le 4 r.1 ++ le 1 r.2.1)

/-- TBL_WRITE (R313); entries are kept as written, and what a mistake in one does falls where frames use it (Table 10-13). -/
def cmdTblWrite (c : Tag) (obj : Word) (addr : Dword) (count : Word) (e : Env) (_ : Dev) : HostCmd :=
  let k := tblKind obj
  let t := tblOf obj
  let items := readItems e.mem addr.toNat (if k = 2 then 64 else 32) count.toNat
  { opc := 0x0601
    good := tblGood obj && decide (k ≤ 2) && listGood addr count
    body := fun d =>
      if k = 2 then
        let doms := items.foldl (fun m r => sset (fun _ => ([] : Bytes)) m (fld r 0 2 % 2 ^ 14) r) d.tbl.doms
        { d with tbl := { d.tbl with doms := doms } }.complete c stOk (le 4 count.toNat)
      else Dev.itemsDone (d.applyItems t 0 items) c }

/-- TBL_LPM_LOAD (R313). -/
def cmdTblLpmLoad (c : Tag) (obj : Word) (addr : Dword) (count : Word) (e : Env) (_ : Dev) : HostCmd :=
  let items := readItems e.mem addr.toNat 32 count.toNat
  { opc := 0x0604
    good := tblGood obj && tblKind obj == 3 && listGood addr count
    body := fun d => Dev.itemsDone (d.applyItems .val 0 items) c }

/-- TBL_DELETE (R313): only key bytes are read. -/
def cmdTblDelete (c : Tag) (obj : Word) (addr : Dword) (count : Word) (e : Env) (_ : Dev) : HostCmd :=
  let t := tblOf obj
  let keys := (readItems e.mem addr.toNat 32 count.toNat).map (entryKey t)
  { opc := 0x0602
    good := tblGood obj && tblKind obj != 2 && listGood addr count
    body := fun d =>
      let r := keys.foldl (fun (a : Nat × Dev) k =>
        if ((a.2.table t).find t k).isSome then (a.1, a.2.setTable t ((a.2.table t).remove fun y => entryKey t y == k)) else (a.1 + 1, a.2)) (0, d)
      r.2.complete c stOk (le 4 count.toNat ++ le 1 0 ++ le 3 r.1) }

/-- TBL_DOMAIN_FLUSH (R309): the sweep ends at FLUSH_SWEEP_END. -/
def cmdTblDomainFlush (c : Tag) (obj : Word) (dflags : Byte) (src : Word) (_ : Dev) : HostCmd :=
  let b := tblNum obj
  let f := src.toNat
  { opc := 0x0603
    good := tblGood obj && tblKind obj == 2 && (!dflags.getLsbD 1 ||
      f / 2 ^ 28 == 0 || f / 2 ^ 28 == 1 || f / 2 ^ 28 == 4)
    reach := reachIf (tblGood obj && tblKind obj == 2) (.learnt b)
    body := fun d =>
      { d with tbl := { d.tbl with
        epoch := sset (fun _ => 0) d.tbl.epoch b ((d.epochOf b + 1) % 256)
        flushes := d.tbl.flushes ++ [{ tag := c, dom := b, withStatic := dflags.getLsbD 0, filter := if dflags.getLsbD 1 then some f else none }] } } }

/-- TBL_HOLDDOWN_SET (R307); a HOLD outside its range is kept, and marked so. -/
def cmdTblHolddownSet (c : Tag) (obj : Word) (hold : Word) (_ : Dev) : HostCmd :=
  { opc := 0x0605
    good := tblGood obj && tblKind obj == 2
    body := fun d =>
      let rest := d.tbl.oddHold.filter fun b => b != tblNum obj
      { d with tbl := { d.tbl with
        hold := sset (fun _ => 40) d.tbl.hold (tblNum obj) (ceilDiv hold.toNat 25)
        oddHold := if 100 ≤ hold.toNat ∧ hold.toNat ≤ 1000000 then rest else tblNum obj :: rest } }.complete c stOk }

/-- READ_STATE of a table or a domain (R314). -/
def Dev.tblState (d : Dev) (obj : Word) : Bytes :=
  if tblKind obj = 2 then
    padTo 64 (d.domain (tblNum obj)) ++ le 4 (d.holdOf (tblNum obj)) ++ le 1 (d.epochOf (tblNum obj))
  else ((d.table (tblOf obj)).entries.filter (entryValid (tblOf obj))).flatMap id

end Sys2Proof.Machine
end

