-- ==== Sys2Proof/Machine/Classifier.lean ====
section
/-! DEFINITION. The classifier (chapter 09): rules, actions, recirculation, generations, load spreading, the TABLE action of chapter
10, commands. -/
namespace Sys2Proof.Machine
open Sys2Proof

/-! ### Rule sets and stores (R273, R281, R282) -/

def Dev.ruleSet (d : Dev) (x : Nat) : RuleSet := if x = 0 then d.cls.set0 else d.cls.set1
def Dev.modSet (d : Dev) (x : Nat) (f : RuleSet → RuleSet) : Dev :=
  if x = 0 then { d with cls := { d.cls with set0 := f d.cls.set0 } } else { d with cls := { d.cls with set1 := f d.cls.set1 } }
/-- The store of a generation: its bit 0. -/
def RuleSet.store (x : RuleSet) (gen : Nat) : RuleStore := if gen % 2 = 0 then x.st0 else x.st1
def RuleSet.modStore (x : RuleSet) (gen : Nat) (f : RuleStore → RuleStore) : RuleSet :=
  if gen % 2 = 0 then { x with st0 := f x.st0 } else { x with st1 := f x.st1 }
/-- Layout of a bank; 3 after reset (R281). -/
def RuleStore.bank (x : RuleStore) (b : Nat) : Nat := sget (fun _ => 3) x.layout b % 256
/-- Comparator j of bank b, 8 bytes. -/
def RuleStore.comp (x : RuleStore) (b j : Nat) : Bytes := sget (fun _ => []) x.comps (64 * b + j)

/-- A comparator holds (R274). -/
def compHolds (c : Bytes) (k : Parsed) (len md : Nat) : Bool :=
  match k.sel len md (fld c 0 1) with
  | none => false
  | some v => decide (fld c 2 2 ≤ v ∧ v ≤ fld c 4 2)
/-- (key XOR KEY) AND MASK is zero over 48 bytes. -/
def keyMatch (rule key : Bytes) : Bool :=
  (List.range 48).all fun i => (byteAt key i ^^^ byteAt rule i) &&& byteAt rule (48 + i) == 0#8
/-- A rule matches (R275). -/
def RuleStore.ruleMatch (x : RuleStore) (idx : Nat) (rule : Bytes) (k : Parsed) (src len md : Nat) (pass2 : Bool) : Bool :=
  let b := idx / 4096
  let lay := x.bank b
  (byteAt rule 106).getLsbD 0 && decide (lay < 3) && keyMatch rule (k.key lay src md pass2) &&
    (List.range 64).all fun j => !bitOf (fld rule 96 8) j || compHolds (x.comp b j) k len md
/-- The rule that applies: among those that match the one of highest PRIO, then lowest bank and index. -/
def RuleStore.bestOf (x : RuleStore) (hit : Nat × Bytes → Bool) : Option (Nat × Bytes) :=
  x.rules.foldl (fun best e =>
    if !hit e then best
    else match best with
      | none => some e
      | some b => if fld b.2 104 2 < fld e.2 104 2 then some e else best) none
def RuleStore.best (x : RuleStore) (k : Parsed) (src len md : Nat) (pass2 : Bool) : Option (Nat × Bytes) :=
  x.bestOf fun e => x.ruleMatch e.1 e.2 k src len md pass2

/-! ### Mistakes in stored rules and banks (R290, Table 9-17) -/

/-- A bank LAYOUT above 3 or a SEL that Table 9-6 does not give: frames of the rule set may match any rule of the store. -/
def RuleStore.odd (x : RuleStore) : Bool :=
  (x.layout.any fun e => decide (3 < e.2 % 256)) || x.comps.any fun e => !(decide (fld e.2 0 1 ≤ 8) || fld e.2 0 1 == 255)
/-- Non-zero RSV bits in the configuration of a bank, or in a rule: the rule may match or act as if those bits were fields. -/
def RuleStore.oddBank (x : RuleStore) (b : Nat) : Bool :=
  decide (255 < sget (fun _ => 3) x.layout b) || x.comps.any fun e => e.1 / 64 == b && (fld e.2 1 1 != 0 || fld e.2 6 2 != 0)
def ruleOdd (r : Bytes) : Bool := decide (1 < fld r 106 1) || fld r 107 1 != 0 || fld r 124 4 != 0
/-- The rule's match is not what its fields say. -/
def RuleStore.oddRule (x : RuleStore) (e : Nat × Bytes) : Bool := (byteAt e.2 106).getLsbD 0 && (ruleOdd e.2 || x.oddBank (e.1 / 4096))
/-- The rule that applies, a free one where a mistake lets it be. -/
def Dev.bestRule (d : Dev) (x : RuleStore) (k : Parsed) (src len md : Nat) (pass2 : Bool) : Option (Nat × Bytes) × Dev :=
  if x.odd || x.rules.any x.oddRule then
    let (f, d1) := d.pickBytes 32768
    (x.bestOf fun e => if x.odd || x.oddRule e then (byteAt f e.1).getLsbD 0 else x.ruleMatch e.1 e.2 k src len md pass2, d1)
  else (x.best k src len md pass2, d)

/-! ### Default actions (R278) -/

def Dev.dfltAct (d : Dev) (upstream : Bool) (num : Nat) : Act :=
  let a := actAt (if upstream then sget (fun _ => []) d.cls.upDflt (num / 2 ^ 14) else sget (fun _ => []) d.cls.dnDflt num) 0
  if a.kind = 5 then { kind := 0 } else a

/-! ### Load spreading (R284, R285) -/

def Dev.hashSelOf (d : Dev) (t : Nat) : Word := sget (fun _ => 0x000007C0#32) d.cls.hashSel t
def Dev.hashSeedOf (d : Dev) (t : Nat) : Word := sget (fun _ => 0xFFFFFFFF#32) d.cls.hashSeed t
def Dev.indirAt (d : Dev) (t i : Nat) : Nat := sget (fun _ => 0) d.cls.indir (t * 4096 + i)
/-- The port SPREAD selects from entry `i` on; none when no entry names a live port. -/
def Dev.spreadFrom (d : Dev) (t i : Nat) : Option Nat :=
  ((List.range 4096).map fun j => d.indirAt t ((i + j) % 4096)).find? d.ulkLive
/-- No entry names a live port: CLS_SPREAD_DEAD, and CLS_GROUP_DEAD once. -/
def Dev.groupDead (d : Dev) (t x : Nat) : Dev :=
  let d1 := d.count (0x20000 + 0x40 * x + 0x2C)
  if d1.cls.dead.contains t then d1
  else { d1 with cls := { d1.cls with dead := d1.cls.dead ++ [t] } }.emit 0x0501 (srcOf 0 1)
    (le 1 t ++ le 1 x ++ le 2 0 ++ le 4 d.time.sec)

/-! ### What a pass does with a frame -/

/-- The rule set of a frame. -/
def InFrame.dir (fr : InFrame) : Nat := b2n fr.upstream
/-- Its source in DEST format (R303). -/
def InFrame.source (fr : InFrame) : Nat := if fr.upstream then fr.num else 2 ^ 28 + fr.num
/-- INGRESS of a punt descriptor (Table 2-11). -/
def InFrame.ingress (fr : InFrame) : Nat := if fr.upstream then 2 ^ 28 + fr.num else fr.num
def Dev.countCls (d : Dev) (fr : InFrame) (ofs : Nat) : Dev := d.count (0x20000 + 0x40 * fr.dir + ofs)
/-- CLS_STPID[d] as the parser and edits use it. -/
def Dev.stpidOf (d : Dev) (x : Nat) : Nat := (d.ruleSet x).stpid.toNat % 2 ^ 16
/-- The frame after a tag edit (R277). -/
def Dev.edited (d : Dev) (fr : InFrame) (a : Act) : Bytes := editTags (d.stpidOf fr.dir) a.edit a.tci fr.data

/-- A destination a frame may not take (R293): its own source, or in rule set 1 a flow while LOCAL is 0. -/
def localDrop (fr : InFrame) (isLocal : Bool) (flow : Bool) (num : Nat) : Bool :=
  (flow == fr.upstream && num == fr.num) || (fr.upstream && flow && !isLocal)

/-- The reason of a table action (R294). -/
def tblReason (a : Act) (code : Nat) : Nat := if 0x100 ≤ a.reason then a.reason else code

/-- An action or destination with a mistake: the frame may be dropped, or delivered to any flow queue, uplink port or punt ring (Tables 9-17
and 10-13). -/
def Dev.anywhere (d0 : Dev) (m : Sparse Byte) (fr : InFrame) (data : Bytes) : Dev :=
  let (k, d1) := d0.pick 3
  let (n, d2) := d1.pick 32
  let (tc, d) := d2.pick 3
  match k with
  | 0 => d.enqueue (n % 2 ^ 20) data none
  | 1 => d.egress (n % 32) tc data none
  | 2 => d.puntFrame m (n % 16) (n / 2 ^ 16) fr.ingress fr.data fr.stamp
  | 3 => d.countCls fr 0x30
  | _ => d
/-- As `k` has it, or anywhere. -/
def Dev.perhaps (d0 : Dev) (m : Sparse Byte) (fr : InFrame) (data : Bytes) (k : Dev → Dev) : Dev :=
  let (b, d) := d0.pick 1
  if b = 0 then k d else d.anywhere m fr data
/-- A port of its own, not a lane of a wider one. -/
def Dev.ownPort (d : Dev) (u : Nat) : Bool := decide (u < 32) && d.portOfLane u == u
/-- An entry of the indirection table names no configured uplink port. -/
def Dev.oddGroup (d : Dev) (t : Nat) : Bool := d.cls.indir.any fun e => e.1 / 4096 == t && !d.ownPort e.2
/-- The action names a flow, port or ring that is not configured; a flow of an absent tree port is no such flow (R473). -/
def Dev.strays (d : Dev) (a : Act) : Bool :=
  match a.kind with
  | 1 => !(d.flowQ a.target).valid && d.variant.hasPort (a.target % 2 ^ 20 / 2 ^ 14)
  | 2 => !d.ownPort a.target
  | 4 => !(d.punt a.target).en
  | _ => false
/-- EDIT of an action, a free one where it is out of range. -/
def Dev.editOf (d : Dev) (a : Act) : Act × Dev :=
  if a.edit ≤ 6 then (a, d) else
    let (n, d1) := d.pick 3
    ({ a with edit := n % 7 }, d1)
/-- SPREAD of an indirection table that holds such an entry: any uplink port, or dropped (Table 9-17). -/
def Dev.spreadOdd (d0 : Dev) (fr : InFrame) (tc : Nat) (data : Bytes) : Dev :=
  let (u, d) := d0.pick 6
  if u < 32 then d.egress u tc data none else d.countCls fr 0x2C

/-- KINDs FLOW, PORT, SPREAD, PUNT and DROP (R276), with the local check of R293 where the action is a service table's:
`loc` is LOCAL of the domain. -/
def Dev.deliver (d : Dev) (m : Sparse Byte) (fr : InFrame) (k : Parsed) (md : Nat) (loc : Option Bool) (a : Act) (reason : Nat) : Dev :=
  let bad (flow : Bool) (num : Nat) : Bool := loc.any fun l => localDrop fr l flow num
  match a.kind with
  | 1 => if bad true a.target then d.count 0x30060 else d.enqueue (a.target % 2 ^ 20) (d.edited fr a) none
  | 2 => if bad false a.target then d.count 0x30060 else d.egress (a.target % 32) (a.tc % 8) (d.edited fr a) none
  | 3 =>
    let t := a.target % 64
    if d.oddGroup t then d.spreadOdd fr (a.tc % 8) (d.edited fr a)
    else match d.spreadFrom t (k.hash (d.hashSelOf t) (d.hashSeedOf t) fr.num md) with
    | none => d.groupDead t fr.dir
    | some u => if bad false u then d.count 0x30060 else d.egress u (a.tc % 8) (d.edited fr a) none
  | 4 => d.puntFrame m (a.target % 16) reason fr.ingress fr.data fr.stamp
  | _ => d.countCls fr 0x30

/-- An action with a mistake, or one that names what is not configured, may do that or put the frame anywhere (R290). -/
def Dev.deliverAct (d0 : Dev) (m : Sparse Byte) (fr : InFrame) (k : Parsed) (md : Nat) (loc : Option Bool) (a0 : Act) (reason : Nat) : Dev :=
  let (a, d) := d0.editOf a0
  if !a0.good || d.strays a then d.perhaps m fr (d.edited fr a) fun d => d.deliver m fr k md loc a reason
  else d.deliver m fr k md loc a reason

/-- A MAC table DEST (Table 10-5, R363): kind 1 takes the frame's outer PCP. -/
def Dev.toDest (d : Dev) (fr : InFrame) (isLocal : Bool) (dest : Nat) : Dev :=
  let num := dest % 2 ^ 20
  let pcp := if tagCount (d.stpidOf fr.dir) fr.data = 0 then 0 else nfld fr.data 14 2 / 2 ^ 13
  match dest / 2 ^ 28 with
  | 0 => if localDrop fr isLocal true num then d.count 0x30060 else d.enqueue num fr.data none
  | 1 => if localDrop fr isLocal false num then d.count 0x30060 else d.egress (num % 32) pcp fr.data none
  | _ => d.countCls fr 0x30

/-- One that names a flow or port that is not configured may put the frame anywhere (Table 10-13). -/
def Dev.deliverDest (d : Dev) (m : Sparse Byte) (fr : InFrame) (isLocal : Bool) (dest : Nat) : Dev :=
  if d.strays { kind := dest / 2 ^ 28 + 1, target := dest % 2 ^ 20 } then d.perhaps m fr fr.data fun d => d.toDest fr isLocal dest
  else d.toDest fr isLocal dest

/-- The service entry that a frame hits. One whose key bytes do not match its KIND may be hit by any frame (Table 10-13). -/
def Dev.svcHit (d : Dev) (k : Parsed) (b mode : Nat) : Option Bytes × Dev :=
  let hit := (k.svcKey b mode).bind fun key => d.tbl.svc.find .svc key
  match d.tbl.svc.entries.filter fun e => entryValid .svc e && !svcKeyed e with
  | [] => (hit, d)
  | l =>
    let (n, d1) := d.pick 21
    if mode = 0 then (hit, d1) else (match l[n]? with
      | some e => some e
      | none => hit.filter svcKeyed, d1)

/-- The action at offset `o` of a domain record. -/
def Dev.domAct (d : Dev) (m : Sparse Byte) (fr : InFrame) (k : Parsed) (md : Nat) (rec : Bytes) (o code : Nat) : Dev :=
  let a := actAt rec o
  d.deliverAct m fr k md (some ((byteAt rec 2).getLsbD 5)) a (tblReason a code)

/-- Steps 4 to 6 of R292: the service table, the MAC table, MISS. -/
def Dev.bridge (d : Dev) (m : Sparse Byte) (fr : InFrame) (k : Parsed) (md b : Nat) : Dev :=
  let rec' := d.domain b
  let fl := byteAt rec' 2
  let (hit, d1) := d.svcHit k b (fld rec' 3 1)
  match hit with
  | some e => d1.deliverAct m fr k md (some (fl.getLsbD 5)) (svcAct e) (fld e 28 2)
  | none =>
    if !fl.getLsbD 1 then d1.domAct m fr k md rec' 16 0x0010
    else if k.group then d1.domAct m fr k md rec' 32 0x0011
    else
      let (r, d2) := d1.macLookup (macKey k.dmac b)
      match r with
      | some e => d2.deliverDest m fr (fl.getLsbD 5) (macDest e)
      | none => d2.domAct m fr k md rec' 16 0x0010

/-- TABLE_ACTION (R292 to R294): a frame, edited already, in bridge domain `b`; one with a mistake in its record or entries may send it anywhere
(R316). -/
def Dev.tableAct (d : Dev) (m : Sparse Byte) (fr : InFrame) (k : Parsed) (md b : Nat) : Dev :=
  let rec' := d.domain b
  let fl := byteAt rec' 2
  let odd (d : Dev) (k : Dev → Dev) : Dev := if d.domOdd b then d.perhaps m fr fr.data k else k d
  if !fl.getLsbD 0 then odd d fun d => d.count 0x3005C
  else
    let (ok, d0) := if fl.getLsbD 3 && fr.upstream then d.validates rec' k (fr.num / 2 ^ 14) fr.term else (true, d)
    if !ok then odd d0 fun d => (d.count 0x30058).domAct m fr k md rec' 48 0x0012
    else
      let d1 := if fl.getLsbD 2 then d0.learn b k.smac fr.source fr.term else d0
      odd d1 fun d => d.bridge m fr k md b

/-- An action of a rule or of a port's default (R276), RECIRC apart. -/
def Dev.takeAct (d0 : Dev) (m : Sparse Byte) (fr : InFrame) (k : Parsed) (md : Nat) (a0 : Act) (reason : Nat) : Dev :=
  if a0.kind = 6 then
    let (a, d) := d0.editOf a0
    let go (d : Dev) : Dev := d.tableAct m { fr with data := d.edited fr a } k md (a.target % 16384)
    if a0.good then go d else d.perhaps m fr (d.edited fr a) go
  else d0.deliverAct m fr k md none a0 reason

/-- RECIRC on a first pass (R280). -/
def Dev.recirc (d : Dev) (fr : InFrame) (gen : Nat) (a : Act) : Dev :=
  if 256 ≤ (d.cls.recQ.filter fun r => r.fr.pipe == fr.pipe).length then d.countCls fr 0x24
  else { d with cls := { d.cls with recQ := d.cls.recQ ++ [{ fr := { fr with data := fr.data.drop a.strip }, gen := gen, md := a.md, odd := a.strip % 2 == 1 }] } }

/-- Counts a frame a rule applied to (R287). -/
def RuleStore.hit (x : RuleStore) (idx : Nat) : RuleStore :=
  { x with hits := sset (fun _ => 0) x.hits idx (sat32 (sget (fun _ => 0) x.hits idx) 1) }

/-- What the parser makes of a frame: anything where CLS_PARSE_CTRL[d] is out of range, or where an odd STRIP cut the frame (Table 9-17). -/
def Dev.parsed (d : Dev) (set : RuleSet) (fr : InFrame) (odd : Bool) : Parsed × Dev :=
  if odd || !parseGood set.parse then
    let (f, d1) := d.pickBytes 512
    (parse 0x001003FF#32 set.stpid f, d1)
  else (parse set.parse set.stpid fr.data, d)

/-- One pass of a frame (R275): generation stamp, META, whether it is the second, and after an odd STRIP. -/
def Dev.pass (d : Dev) (m : Sparse Byte) (fr : InFrame) (gen md : Nat) (pass2 odd : Bool) : Dev :=
  let x := fr.dir
  let set := d.ruleSet x
  let (k, d0) := d.parsed set fr odd
  let d1 := if k.depth then d0.countCls fr 0x1C else d0
  let da := d.dfltAct fr.upstream fr.num
  if k.bad then (d1.countCls fr 0x18).takeAct m fr k md da 0x0003
  else match d1.bestRule (set.store gen) k fr.num fr.data.length md pass2 with
    | (none, d1) => (d1.countCls fr 0x14).takeAct m fr k md da (tblReason da 0x0005)
    | (some (idx, rule), d1) =>
      let a : Act := { actAt rule 108 with rsv := if (set.store gen).oddRule (idx, rule) then 1 else (actAt rule 108).rsv }
      let d2 := d1.modSet x fun s => s.modStore gen fun st => st.hit idx
      if a.kind != 5 then d2.takeAct m fr k md a a.reason
      else if pass2 then (d2.countCls fr 0x28).takeAct m fr k md da 0x0004
      else if a.good then d2.recirc fr gen a
      else d2.perhaps m fr fr.data fun d => d.recirc fr gen a

/-- CLASSIFIER_PASS (R265, R275): the next frame of pipeline `f`; a recirculated frame goes first (R280). -/
def Dev.classifierPass (d : Dev) (m : Sparse Byte) (f : Nat) : Dev :=
  if d.cls.pipeDown.contains f || d.cls.recQ.any (fun r => r.fr.pipe == f) then d
  else match d.cls.inQ.find? fun fr => fr.pipe == f with
    | none => d
    | some fr =>
      let d1 := { d with cls := { d.cls with inQ := dropFirst (fun fr => fr.pipe == f) d.cls.inQ } }.countCls fr 0x10
      d1.pass m fr (d1.ruleSet fr.dir).gen 0 false false

/-- RECIRC_PASS (R280). -/
def Dev.recircPass (d : Dev) (m : Sparse Byte) (f : Nat) : Dev :=
  match d.cls.recQ.find? fun r => r.fr.pipe == f with
  | none => d
  | some r =>
    let d1 := { d with cls := { d.cls with recQ := dropFirst (fun r => r.fr.pipe == f) d.cls.recQ } }.countCls r.fr 0x20
    d1.pass m r.fr r.gen r.md true r.odd

/-- GENERATION_RETIRE (R283): no frame of the old generation remains. -/
def Dev.retireGen (d : Dev) (x : Nat) : Dev :=
  let set := d.ruleSet x
  match set.swap with
  | none => d
  | some c =>
    if d.cls.recQ.any fun r => r.fr.dir == x && r.gen == set.old then d
    else (d.modSet x fun s => { s with swap := none }).complete c stOk (le 1 set.gen ++ le 1 set.old)

/-- PIPELINE_FAULT (R29): lanes and regions go to the others; frames inside it are dropped and counted, in a drop counter of their rule set
that the manual does not name: a free choice (log entry 27). -/
def Dev.pipelineFault (d0 : Dev) (f : Nat) : Dev :=
  if d0.cls.pipeDown.contains f then d0
  else
    let (b, d) := d0.pick 1
    let gone := (d.cls.inQ.filter fun fr => fr.pipe == f) ++ (d.cls.recQ.map (·.fr)).filter fun fr => fr.pipe == f
    gone.foldl (fun d fr => d.countCls fr (if b = 0 then 0x30 else 0x24)) { d with cls := { d.cls with
      pipeDown := d.cls.pipeDown ++ [f], inQ := d.cls.inQ.filter fun fr => fr.pipe != f, recQ := d.cls.recQ.filter fun r => r.fr.pipe != f } }

/-! ### Commands (Table 9-13) -/

/-- Kind and number of a classifier handle. -/
def clsKind (obj : Word) : Nat := objIndex obj / 2 ^ 20
def clsNum (obj : Word) : Nat := objIndex obj % 2 ^ 20
/-- A rule-set handle, an indirection-table handle. -/
def ruleObj (obj : Word) : Bool := objClass obj == 0x0E && clsKind obj == 0 && decide (clsNum obj < 2)
def indirObj (obj : Word) : Bool := objClass obj == 0x0E && clsKind obj == 1 && decide (clsNum obj < 64)

/-- Writes rules from an index on; the counts of rules written are cleared (R287). -/
def RuleStore.writeRules (x : RuleStore) (first : Nat) (l : List Bytes) : RuleStore :=
  l.zipIdx.foldl (fun x e =>
    { x with rules := sset (fun _ => ([] : Bytes)) x.rules (first + e.2) e.1, hits := sset (fun _ => 0) x.hits (first + e.2) 0 }) x
/-- Writes bank configurations from a bank on. -/
def RuleStore.writeBanks (x : RuleStore) (first : Nat) (l : List Bytes) : RuleStore :=
  l.zipIdx.foldl (fun x e =>
    let b := first + e.2
    { x with
      layout := sset (fun _ => 3) x.layout b (fld e.1 0 8)
      comps := (List.range 64).foldl (fun m j => sset (fun _ => ([] : Bytes)) m (64 * b + j) (bslice e.1 (8 + 8 * j) 8)) x.comps }) x

/-- CLS_RULES_LOAD (R281); rules and banks are kept as written, and what a mistake in one does falls where frames meet it (Table 9-17). -/
def cmdClsRulesLoad (c : Tag) (obj : Word) (kind lflags : Byte) (addr : Dword) (first count : Word) (e : Env) (_ : Dev) : HostCmd :=
  let x := clsNum obj
  let banks := kind.toNat = 1
  let items := readItems e.mem addr.toNat (if banks then 520 else 128) count.toNat
  { opc := 0x0501
    good := ruleObj obj && decide (kind.toNat ≤ 1 ∧ addr.toNat % 64 = 0 ∧
      first.toNat + count.toNat ≤ (if banks then 8 else 32768) ∧ first.toNat < (if banks then 8 else 32768))
    reach := reachIf (ruleObj obj) (.ruleSet x)
    body := fun d => (d.modSet x fun s => s.modStore (s.gen + 1) fun st =>
      let st0 := if lflags.getLsbD 0 then { s.store s.gen with hits := [] } else st
      if banks then st0.writeBanks first.toNat items else st0.writeRules first.toNat items).complete c stOk (le 4 count.toNat) }

/-- CLS_RULES_SWAP (R282): completes at GENERATION_RETIRE. -/
def cmdClsRulesSwap (c : Tag) (obj : Word) (_ : Dev) : HostCmd :=
  { opc := 0x0502
    good := ruleObj obj
    body := fun d => d.modSet (clsNum obj) fun s => { s with gen := (s.gen + 1) % 16, old := s.gen, swap := some c } }

/-- CLS_DEFAULT_SET (R278). -/
def cmdClsDefaultSet (c : Tag) (obj : Word) (action : Bytes) (_ : Dev) : HostCmd :=
  let a := padTo 16 action
  { opc := 0x0503
    good := (objIs obj 1 64 || objIs obj 0x0B 32) && decide (action.length = 16)
    body := fun d =>
      (if objClass obj = 1 then { d with cls := { d.cls with upDflt := sset (fun _ => ([] : Bytes)) d.cls.upDflt (objIndex obj) a } }
       else { d with cls := { d.cls with dnDflt := sset (fun _ => ([] : Bytes)) d.cls.dnDflt (objIndex obj) a } }).complete c stOk }

/-- CLS_INDIR_WRITE (R286). -/
def cmdClsIndirWrite (c : Tag) (obj : Word) (first count : Half) (addr : Dword) (e : Env) (_ : Dev) : HostCmd :=
  let t := clsNum obj
  let ents := (readItems e.mem addr.toNat 2 count.toNat).map ofLe
  { opc := 0x0504
    good := indirObj obj && decide (1 ≤ count.toNat ∧ first.toNat + count.toNat ≤ 4096 ∧ addr.toNat % 64 = 0)
    reach := reachIf (indirObj obj) (.indir t)
    body := fun d =>
      let m := ents.zipIdx.foldl (fun m x => sset (fun _ => 0) m (t * 4096 + first.toNat + x.2) x.1) d.cls.indir
      let live := ents.any d.ulkLive
      { d with cls := { d.cls with indir := m, dead := if live then d.cls.dead.filter fun y => y != t else d.cls.dead } }.complete c stOk }

/-- READ_STATE of a rule set (R287) or an indirection table (R288), its first `n` bytes. -/
def Dev.clsState (d : Dev) (obj : Word) (n : Nat) : Bytes :=
  if clsKind obj = 0 then
    let s := d.ruleSet (clsNum obj)
    ((List.range (min (ceilDiv n 4) 32768)).flatMap fun k => le 4 (sget (fun _ => 0) (s.store s.gen).hits k)).take n
  else ((List.range (min (ceilDiv n 2) 4096)).flatMap fun i => le 2 (d.indirAt (clsNum obj) i)).take n

/-- CLS_GEN[d] (Table 9-16). -/
def RuleSet.genReg (x : RuleSet) : Word := BitVec.ofNat 32 (x.gen + 16 * x.old + 256 * b2n x.swap.isSome)

end Sys2Proof.Machine
end

