-- ==== Sys2Proof/Machine/HostFrames.lean ====
section
/-! DEFINITION. Inject rings (R82 to R86): descriptors, checksums, segmentation, destinations, and the time limit on a paused port. -/
namespace Sys2Proof.Machine
open Sys2Proof

/-! ### Checksums (R85, R86) -/

/-- Sum of 16-bit words in network order; an odd last byte counts as the high half. -/
def sum16 : Bytes → Nat
  | [] => 0
  | [a] => a.toNat * 256
  | a :: b :: r => a.toNat * 256 + b.toNat + sum16 r
/-- Folds the carries of a sum. -/
def fold16 (n : Nat) : Nat := times (fun n => n / 65536 + n % 65536) 4 n
/-- The Internet checksum. -/
def inetSum (n : Nat) : Nat := 65535 - fold16 n

/-- The final protocol of an IPv6 packet whose L4 header starts at `l4`: walks extension headers. -/
def v6Proto (f : Bytes) (l4 : Nat) : Nat → Nat → Nat → Nat
  | 0, _, nh => nh
  | n + 1, o, nh => if l4 ≤ o then nh else v6Proto f l4 n (o + (if nh = 44 then 8 else (nfld f (o + 1) 1 + 1) * 8)) (nfld f o 1)

/-- IP version, protocol, pseudo-header sum without length, and length of the L4 part of a frame. -/
def l4Info (f : Bytes) (l3 l4 : Nat) : Nat × Nat × Nat × Nat :=
  if nfld f l3 1 / 16 = 6 then
    (6, v6Proto f l4 8 (l3 + 40) (nfld f (l3 + 6) 1), sum16 (bslice f (l3 + 8) 32), nfld f (l3 + 4) 2 + 40 - (l4 - l3))
  else (4, nfld f (l3 + 9) 1, sum16 (bslice f (l3 + 12) 8), nfld f (l3 + 2) 2 - (l4 - l3))

/-- Fills the IPv4 header checksum and the TCP or UDP checksum. -/
def fillSums (f : Bytes) (l3 l4 : Nat) : Bytes :=
  let (ver, proto, ps, len) := l4Info f l3 l4
  let f1 :=
    if ver = 4 then
      let g := patch f (l3 + 10) [0x00#8, 0x00#8]
      patch g (l3 + 10) (be 2 (inetSum (sum16 (bslice g l3 (nfld g l3 1 % 16 * 4)))))
    else f
  let l4Fill (o : Nat) (zeroAs : Nat) : Bytes :=
    let g := patch f1 (l4 + o) [0x00#8, 0x00#8]
    let s := inetSum (ps + proto + len + sum16 ((g.drop l4).take len))
    patch g (l4 + o) (be 2 (if s = 0 then zeroAs else s))
  match proto with
  | 6 => l4Fill 16 0
  | 17 => l4Fill 6 65535
  | _ => f1

/-- Frame `i` of `n` of a segmented send (R86): header, payload, offset of the payload. -/
def segFrame (hdr pay : Bytes) (l3 l4 i n ofs : Nat) : Bytes :=
  let f := hdr ++ pay
  let f1 :=
    if nfld f l3 1 / 16 = 6 then patch f (l3 + 4) (be 2 (f.length - l3 - 40))
    else patch (patch f (l3 + 2) (be 2 (f.length - l3))) (l3 + 4) (be 2 ((nfld f (l3 + 4) 2 + i) % 65536))
  let proto := (l4Info f1 l3 l4).2.1
  let f2 :=
    if proto = 6 then
      let fl := nfld f1 (l4 + 13) 1
      let fl1 := if i + 1 = n then fl else fl - fl % 2 - (fl / 8 % 2) * 8
      let fl2 := if i = 0 then fl1 else fl1 % 128
      patch (patch f1 (l4 + 4) (be 4 ((nfld f1 (l4 + 4) 4 + ofs) % 2 ^ 32))) (l4 + 13) (be 1 fl2)
    else if proto = 17 then patch f1 (l4 + 4) (be 2 (f1.length - l4))
    else f1
  fillSums f2 l3 l4

/-- The frames of a segmented send with a header of `h` bytes and segments of `s`. -/
def segment (data : Bytes) (h s l3 l4 : Nat) : List Bytes :=
  let pay := data.drop h
  let n := ceilDiv pay.length s
  (List.range n).map fun i => segFrame (data.take h) ((pay.drop (i * s)).take s) l3 l4 i n (i * s)

/-! ### Sends -/

/-- The descriptors of a ring that are posted, the next first, at most 64. -/
def PktRing.postedDescs (x : PktRing) (m : Sparse Byte) (free : Nat) : List Bytes :=
  (List.range (min 64 x.posted)).map fun i => x.desc m free (x.rptr + i)

/-- The descriptors of the next send of a ring: up to the first with LAST; none while LAST is not among them. -/
def nextSend (ds : List Bytes) : Option (List Bytes) :=
  match ds.findIdx? fun b => (byteAt b 10).getLsbD 1 with
  | some i => some (ds.take (i + 1))
  | none => none

/-- The flags of a send pair: FIRST on the first descriptor and on no other. -/
def sendPairs : List Bytes → Bool
  | [] => false
  | b :: bs => (byteAt b 10).getLsbD 0 && bs.all fun c => !(byteAt c 10).getLsbD 0

/-- Hands one frame of a send to its destination through partition 2 (R82, R321). -/
def Dev.injOne (d : Dev) (kind num prio key : Nat) (data : Bytes) : Dev :=
  let c := cellsOf data.length
  let (fits, d1) := d.takeCells 2 c
  if !fits then d1.injEnd (some key) stFailed
  else
    let d2 := d1.freeCells 2 c
    match kind with
    | 0 => d2.egress (num % 32) prio data (some key)
    | 1 => d2.enqueue num data (some key)
    | _ =>
      let fr : InFrame := { pipe := d2.dnPipe (num % 32), upstream := false, num := num % 32, term := 0, data := data, stamp := d2.stamp
                            injected := true }
      let d3 : Dev := { d2 with cls := { d2.cls with inQ := d2.cls.inQ ++ [fr] } }
      d3.injEnd (some key) stOk

/-- The header offsets are right for the frame (Table 2-12): an IPv4 or IPv6 header at L3OFF that ends by L4OFF, and a TCP or UDP header's
first 8 bytes before `stop`. -/
def offsGood (f : Bytes) (l3 l4 stop : Nat) : Bool :=
  let v := nfld f l3 1 / 16
  (v == 4 || v == 6) && decide (l3 + (if v = 6 then 40 else max 20 (nfld f l3 1 % 16 * 4)) ≤ l4 ∧ l4 + 8 ≤ stop)

/-- What the device makes of the descriptors of a send. -/
inductive SendPlan where
  /-- Frames as R85 and R86 form them. -/
  | frames (l : List Bytes)
  /-- HLEN, SEGSZ, L3OFF or L4OFF is wrong: the frames of this send are malformed or dropped (Table 2-18). -/
  | malformed
  /-- FIRST and LAST do not pair, or there is more than R80, R85 or R86 allow: frames of the ring are merged, split or malformed
  (Table 2-18). -/
  | mixed
  /-- A DEST that names no destination: any object may be affected (Table 2-18). -/
  | astray
  deriving DecidableEq, Repr

/-- The send that descriptors `ds` ask for (R85, R86): with a header as long as the send there is no payload and no frame. -/
def sendPlan (m : Sparse Byte) (ds : List Bytes) : SendPlan :=
  let b := ds.headD []
  let fl := byteAt b 10
  let dest := fld b 12 4
  let h := fld b 16 2
  let s := fld b 18 2
  let l3 := fld b 20 1
  let l4 := fld b 21 1
  let total := (ds.map fun b => fld b 8 2).foldl (· + ·) 0
  let seg := fl.getLsbD 2
  let csum := fl.getLsbD 3
  if !sendPairs ds || ds.any (fun b => decide (fld b 8 2 = 0 ∨ 16384 < fld b 8 2)) || decide ((if seg then 262144 else 16383) < total) then .mixed
  else if decide (2 < dest / 2 ^ 28) || (dest / 2 ^ 28 != 1 && decide (32 ≤ dest % 2 ^ 20)) then .astray
  else
    let data := ds.flatMap fun b => memRead m (fld b 0 8) (fld b 8 2)
    if seg then
      if decide (14 ≤ h ∧ h ≤ 256 ∧ 64 ≤ s ∧ s ≤ 9000 ∧ h ≤ total) && offsGood data l3 l4 h then .frames (segment data h s l3 l4) else .malformed
    else if !csum then .frames [data]
    else if offsGood data l3 l4 total then .frames [fillSums data l3 l4]
    else .malformed

/-- Up to 64 frames of free bytes. -/
def Dev.pickFrames : Nat → Dev → List Bytes × Dev
  | 0, d => ([], d)
  | n + 1, d =>
    let (b, d1) := d.pickBytes 16383
    let (l, d2) := Dev.pickFrames n d1
    (b :: l, d2)

/-- A send of `ds` starts, of these frames; a send without a frame has ended. -/
def Dev.startSend (d : Dev) (r : Nat) (x : PktRing) (ds : List Bytes) (status : Nat) (frames : List Bytes) : Dev :=
  let b := ds.headD []
  let dest := fld b 12 4
  let fresh : InjFlight := { ring := r, first := x.rptr, flags := ds.map (byteAt · 10), left := frames.length, status := status
                             stampReq := (byteAt b 10).getLsbD 4, port := if dest / 2 ^ 28 = 0 then some (dest % 32) else none }
  let d1 := d.modInj r fun _ => { x with rptr := (x.rptr + ds.length) % x.entries }
  let d2 : Dev := { d1 with inj := d1.inj ++ [fresh] }
  (frames.foldl (fun d f => d.injOne (dest / 2 ^ 28) (dest % 2 ^ 20) (fld b 22 1 % 8) fresh.key f) d2).injFlush r (d2.inj.length)

/-- INJECT_FRAME (R82 to R86): the next send of ring `r`. A mistake of Table 2-18 makes of it what its Result column allows. -/
def Dev.injectFrame (d0 : Dev) (m : Sparse Byte) (r : Nat) : Dev :=
  let y := d0.injRing r
  if !y.en || y.posted = 0 then d0
  else
    let (x, d) := d0.pktPtr y
    let all := x.postedDescs m d0.free
    let free (d : Dev) (ds : List Bytes) : Dev :=
      let (n, d1) := d.pick 6
      let (st, d2) := d1.pick 3
      let (fs, d3) := d2.pickFrames n
      d3.startSend r x ds (st % 5) fs
    let mixed : Dev :=
      let (n, d1) := d.pick 6
      free d1 (all.take (n + 1))
    match nextSend all with
    | none => if 64 ≤ x.posted then mixed else d0
    | some ds =>
      match sendPlan m ds with
      | .frames l => d.startSend r x ds stOk l
      | .malformed => free d ds
      | .mixed => mixed
      | .astray =>
        let (st, d1) := d.pick 3
        (d1.startSend r x ds (st % 5) []).spoil .package

/-- A frame stands in an egress queue that pause holds. -/
def Uplink.holdsFrame (x : Uplink) (f : EgFrame) : Bool := x.heldAll || x.held.contains f.tc

/-- INJECT_PAUSE_TIMEOUT (R83): the oldest send of ring `r` with a frame in an egress queue that pause holds, or a remainder of one (R365),
ends TIMEOUT; its frames leave the held queues. -/
def Dev.injTimeout (d : Dev) (r : Nat) : Dev :=
  let stuck (x : InjFlight) (y : Uplink) (f : EgFrame) : Bool := f.inj == some x.key && y.holdsFrame f
  let waits (y : Uplink) : List EgFrame := y.q ++ ((y.cur.filter fun c => !c.on).map (·.fr)).toList
  match d.inj.find? fun x => x.ring == r && x.left != 0 && x.port.any fun u => (waits (d.uplink u)).any (stuck x (d.uplink u)) with
  | none => d
  | some x =>
    let u := x.port.getD 0
    let y := d.uplink u
    let gone := (waits y).filter (stuck x y)
    let d1 := d.modUplink u fun _ => { y with q := y.q.filter fun f => !stuck x y f, cur := y.cur.filter fun c => c.on || !stuck x y c.fr }
    let d2 := gone.foldl (fun d f => d.freeCells 1 (cellsOf f.data.length)) d1
    gone.foldl (fun d f => d.injEnd f.inj stTimeout) d2

end Sys2Proof.Machine
end

