-- ==== Sys2Proof/Machine/Mirror.lean ====
section
/-! DEFINITION. The mirror (R384, Table 13-4) and what the deputy round compares (R398, Table 13-8): records the active sends, results
of bursts, the health word. -/
namespace Sys2Proof.Machine
open Sys2Proof

/-- Records of the tree go to the mate (R384): active here, standby there, DMP up. -/
def Dev.mirrors (d : Dev) (p : Nat) : Bool := (d.tree p).role == 1 && d.prot.joined && d.prot.mateStandby.getLsbD p

/-- Sends a mirror record of the tree, when its records go to the mate; a tree whose record meets a lost DMP path owes a snapshot (R392). -/
def Dev.mirror (d : Dev) (p : Nat) (r : MirrorRecord) : Dev :=
  if !d.mirrors p then d
  else if d.prot.dmp.lost then d.modTree p fun x => { x with owes := true }
  else d.send (.mirror p r)

/-- A burst of the tree is heard (R388): signal detect or a delimiter. -/
def Dev.hear (d : Dev) (p : Nat) : Dev := d.modTree p fun x => { x with heardAt := some d.now, kind4 := false }

/-! ### Records as they occur -/

/-- What the mirror carries of a terminal; nothing while it is not ranged. -/
def Term.mirrored (x : Term) : Option MirTerm :=
  if x.ranged then some
    { lane := x.lane, serial := x.serial, rtd := x.rtd, eqd := x.eqd, eqdBase := x.eqdBase
      eqdPend := if x.state = 4 then some x.eqdPend else none, tresp := x.tresp }
  else none

/-- Two terminals differ in what "Ranging changes" name: added, removed, re-based, delay in force, correction pending. -/
def mirDiffers (a b : Option MirTerm) : Bool := (a.map fun x => { x with rtd := 0 }) != b.map fun x => { x with rtd := 0 }

/-- The trunk record of an entry. -/
def Trunk.mirrored (x : Trunk) (n : Nat) : MirrorRecord := .trunk n x.dly x.asymM x.asymC x.knownM x.knownC

/-- Keys of either list. -/
def keysOf {α : Type} (a b : Sparse α) : List Nat := ((a ++ b).map (·.1)).eraseDups

/-- Sends what changed of the tree's ranging state and keys since an earlier state (Table 13-4). -/
def Dev.mirrorSince (d old : Dev) (p : Nat) : Dev :=
  if !d.mirrors p then d
  else
    let q := d.port p
    let o := old.port p
    let ts := (keysOf q.terms o.terms).filter fun t => mirDiffers (q.term t).mirrored (o.term t).mirrored
    let ks := (keysOf q.keys o.keys).filter fun t => q.keySlots t != o.keySlots t
    let bs := (keysOf q.bcast o.bcast).filter fun n => q.bcastKey n != o.bcastKey n
    let d1 := ts.foldl (fun d t => d.mirror p (.term t (q.term t).mirrored)) d
    let d2 := if q.trunk0 = o.trunk0 then d1 else d1.mirror p (q.trunk0.mirrored 0)
    let d3 := if q.trunk1 = o.trunk1 then d2 else d2.mirror p (q.trunk1.mirrored 1)
    let d4 := if q.teqdAdj = o.teqdAdj then d3 else d3.mirror p (.teqdAdj q.teqdAdj)
    let d5 := ks.foldl (fun d t =>
      let k := q.keySlots t
      d.mirror p (.keys t k.k0 k.k1 k.use1 q.sfc)) d4
    bs.foldl (fun d n => d.mirror p (.bcast n (q.bcastKey n).idx (q.bcastKey n).key)) d5

/-- A full snapshot (R381): ranging state, key slots, trunk entries, the latest valid checkpoint. -/
def Dev.snapshot (d0 : Dev) (p : Nat) : Dev :=
  let d := d0.modTree p fun x => { x with owes := false }
  let q := d.port p
  let ts := q.terms.filter fun e => e.2.ranged
  let d1 := ts.foldl (fun d e => d.mirror p (.term e.1 e.2.mirrored)) d
  let d2 := ((d1.mirror p (q.trunk0.mirrored 0)).mirror p (q.trunk1.mirrored 1)).mirror p (.teqdAdj q.teqdAdj)
  let d3 := q.keys.foldl (fun d e => d.mirror p (.keys e.1 e.2.k0 e.2.k1 e.2.use1 q.sfc)) d2
  let d4 := q.bcast.foldl (fun d e => d.mirror p (.bcast e.1 e.2.idx e.2.key)) d3
  let d5 := match q.wnd.ckpts.head? with
    | none => d4
    | some c => d4.mirror p (.ckpt c)
  d5.mirror p .snapshotEnd

/-! ### Records of a frame -/

/-- The frame record, at program start. -/
def Dev.mirrorFrame (d : Dev) (p cyc rem : Nat) : Dev :=
  let q := d.port p
  d.mirror p (.frame q.sfc q.fnAt cyc rem (q.wnd.ckpts.head?.map Config.ckptDigest))

/-- The report set, at the cutoff. -/
def Dev.mirrorReports (d : Dev) (p : Nat) : Dev :=
  let q := d.port p
  d.mirror p (.reports q.sfc (q.wnd.rptSet.map fun r => (r.ri, r.bytes)))

/-- A grant as the mirror carries it. -/
def Grant.mirrored (g : Grant) : MirGrant :=
  { ri := g.ri, allocId := g.allocId, term := g.term, cls := g.cls, start := g.start, size := g.size, profIx := g.profIx
    ploamUp := g.ploamUp, rptReq := g.rptReq, wake := g.wake, witness := g.witness }

/-- The sealed map of a lane as the mirror carries it. -/
def LaneS.mirroredMap (x : LaneS) : List MirGrant := ((x.sealed.map (·.grants)).getD []).map Grant.mirrored

/-! ### The deputy round (Table 13-8) -/

/-- MAT_DEPUTY_MISMATCH, at most once per 16 frames. -/
def Dev.sayMismatch (d : Dev) (p check lane entry : Nat) : Dev :=
  if (d.tree p).sinceEv < 16 then d
  else (d.modTree p fun x => { x with sinceEv := 0 }).emitPort p 0x0907
    (le 1 check ++ le 1 lane ++ le 2 entry ++ le 4 0 ++ sfc8 (d.port p).sfc)

/-- A mismatch of a check that counts. -/
def Dev.mismatch (d : Dev) (p check lane entry : Nat) : Dev :=
  ((d.count (0x60108 + 16 * p)).modTree p fun x => { x with cur := { x.cur with all := x.cur.all + 1 } }).sayMismatch p check lane entry

/-- One burst compared: the decode and decrypt checks. -/
def Dev.compareBurst (d : Dev) (p : Nat) (lane : Lane) (i : Nat) (own act : Bool × Word) : Dev :=
  let bad := own.1 && act.1 && own.2 != act.2
  let d1 := d.modTree p fun x => { x with cur := { x.cur with
    total := x.cur.total + 1
    missed := x.cur.missed + b2n (act.1 && !own.1)
    payload := x.cur.payload + b2n bad } }
  if bad then d1.mismatch p 3 lane.code i else d1

/-- Compares the burst results of one lane's upstream frame once both are here. -/
def Dev.compareBursts (d : Dev) (p sfc : Nat) (lane : Lane) : Dev :=
  let x := d.tree p
  let isIt (e : Nat × Lane × List (Bool × Word)) : Bool := e.1 == sfc && e.2.1 == lane
  match x.ownRes.find? isIt, x.actRes.find? isIt with
  | some a, some b =>
    let d1 := d.modTree p fun x => { x with ownRes := dropFirst isIt x.ownRes, actRes := dropFirst isIt x.actRes }
    if x.role != 3 then d1
    else ((a.2.2.zip b.2.2).zipIdx).foldl (fun d e => d.compareBurst p lane e.2 e.1.1 e.1.2) d1
  | _, _ => d

/-- Results kept for a later comparison: those of the last 16 frames. -/
def keepRes (sfc : Nat) (l : List (Nat × Lane × List (Bool × Word))) : List (Nat × Lane × List (Bool × Word)) :=
  l.filter fun e => decide (sfc ≤ e.1 + 16)

/-- Results of every burst of one lane's upstream frame, in map order: sent to the mate by the active, compared by the standby. -/
def Dev.burstResults (d : Dev) (p : Nat) (f : FrameTally) : Dev :=
  let l := (sortBy (fun a b => decide (a.1 < b.1)) f.res).map (·.2)
  if d.deputy p then
    (d.modTree p fun x => { x with ownRes := keepRes f.sfc x.ownRes ++ [(f.sfc, f.lane, l)] }).compareBursts p f.sfc f.lane
  else d.mirror p (.bursts f.sfc f.lane l)

/-- The first place at which two maps differ in ALLOC_ID, start, size, profile or flags. -/
def mapDiff : Nat → List MirGrant → List MirGrant → Option Nat
  | _, [], [] => none
  | i, a :: as, b :: bs =>
    if a.allocId == b.allocId && a.start == b.start && a.size == b.size && a.profIx == b.profIx && a.ploamUp == b.ploamUp &&
      a.rptReq == b.rptReq && a.wake == b.wake && a.witness == b.witness then mapDiff (i + 1) as bs else some i
  | i, _, _ => some i

/-- The map check of one lane. -/
def Dev.checkMap (d : Dev) (p : Nat) (l : Lane) (act : List MirGrant) : Dev :=
  match mapDiff 0 ((d.port p).lane l).mirroredMap act with
  | none => d
  | some i => (d.modTree p fun x => { x with cur := { x.cur with map := x.cur.map + 1 } }).mismatch p 1 l.code i

/-- Sum of a figure over the newest `n` frames. -/
def histSum (l : List FrameChk) (n : Nat) (f : FrameChk → Nat) : Nat := (l.take n).foldl (fun a x => a + f x) 0

/-- DECODE (Table 13-15). -/
def TreeProt.decodeOk (x : TreeProt) : Bool := decide (histSum x.hist 64 (·.missed) * 256 ≤ histSum x.hist 64 (·.total))

/-! ### Completeness of a frame's mirror, arming (R379, R381, R384) -/

/-- 125 us in units of 2^-32 ns. -/
def frameFine : Int := 125000 * 2 ^ 32

/-- A record of frame `sfc` comes after the active's next frame start (R384). -/
def TreeProt.tooLate (x : TreeProt) (sfc : Nat) (now : Int) : Bool :=
  x.due.any fun e => decide (sfc < e.1) || (e.1 == sfc && decide (e.2 < now))

/-- A record of frame `sfc` has arrived, in time or not. -/
def TreeProt.got (x : TreeProt) (sfc : Nat) (now : Int) (f : MirGot → MirGot) : TreeProt :=
  if x.tooLate sfc now then x
  else
    let l := if x.mir.any fun g => g.sfc == sfc then x.mir else x.mir ++ [{ sfc := sfc }]
    { x with mir := (modWhere (fun g => g.sfc == sfc) f l).filter fun g => decide (sfc ≤ g.sfc + 64) }

/-- The frame record names the active's next frame start `nextF`: the frame is the next to be judged, unless an earlier one still is. -/
def TreeProt.dueAt (x : TreeProt) (sfc : Nat) (nextF : Int) : TreeProt :=
  match x.due with
  | none => { x with due := some (sfc, nextF) }
  | some (n, _) => if n = sfc || n + 16 < sfc || sfc + 16 < n then { x with due := some (sfc, nextF) } else x

/-- Frames from that of a map to that in which the active's upstream frame of it ends, by the own delays (R383): its RNG_TEQD lies twice the
trunk difference below, its RNG_TEQD_ADJ is mirrored. -/
def Dev.burstLag (d : Dev) (p : Nat) : Nat :=
  let q := d.port p
  ((q.teqd.toNat + (d.tree p).mateAdj - 2 * ((q.trunk q.ownTrunk).dly - (q.trunk (1 - q.ownTrunk)).dly)) / frameF).toNat + 1

/-- Every record of frame `sfc` is here (R384): frame record, report set, maps, and the results of the bursts whose upstream frame ends in
it. DEDUCED (log entry 41). -/
def TreeProt.complete (x : TreeProt) (sfc lag : Nat) : Bool :=
  let has (b : Bool) (m : Nat) (l : Lane) : Bool := !b || x.brs.any fun e => e.1 == m && e.2 == l
  (x.mir.any fun g => g.sfc == sfc && g.frame && g.reports && g.maps) &&
    x.mir.all fun m => m.sfc + lag != sfc || (has m.mapM m.sfc .main && has m.mapC m.sfc .comp)

/-- Judges the mirror of the frame that is due once the active's next frame start has passed; a complete frame after the snapshot arms the tree
(R381). While no frame record has come, every frame of a running tree port is incomplete. -/
def Dev.judgeMirror (d : Dev) (p : Nat) : Dev :=
  let x := d.tree p
  match x.due with
  | none => (if (d.port p).counting then d.count 0x60048 else d).modTree p fun x => { x with mirror := false }
  | some (sfc, t) =>
    if (d.devFine : Int) < t then d
    else
      let full := x.complete sfc (d.burstLag p)
      let arms := x.role == 2 && x.snapshot && full && !x.mir.any fun g => g.sfc == sfc && g.pre
      (if full then d else d.count 0x60048).modTree p fun x =>
        { x with mirror := full, due := some (sfc + 1, t + frameFine), role := if arms then 3 else x.role }

/-- Tree ports that the variant carries. -/
def Dev.portsHere (d : Dev) : List Nat := (List.range 64).filter d.variant.hasPort

/-- A path is up (R378): its lanes are locked and it carries acknowledged lamp checks. -/
def PathS.up (y : PathS) : Bool := !y.lost && y.locked

/-- MAT_PAIR_JOIN completes once both paths are up and the standby set is armed (R379). -/
def Dev.checkJoin (d : Dev) : Dev :=
  match d.prot.join with
  | none => d
  | some (c, act) =>
    if d.prot.dmp.up && d.prot.hb.up && d.portsHere.all fun p => act.getLsbD p || (d.tree p).role == 3 then
      (d.modProt fun x => { x with join := none }).complete c stOk
    else d

/-- What the deputy round does at the standby's frame start: the map check, the frame's results, whether the mirror was complete (R384). An own
frame start at which no mirror is due judges none; one that passes two judges both. -/
def Dev.deputyAtFrame (d : Dev) (p : Nat) : Dev :=
  if !d.deputy p then d
  else
    let x := d.tree p
    let d1 := match x.maps with
      | some (_, m, c) => if x.role = 3 then (d.checkMap p .main m).checkMap p .comp c else d
      | none => d
    let d2 := d1.judgeMirror p
    let d3 := if x.due.isSome then d2.judgeMirror p else d2
    let d4 := d3.modTree p fun x =>
      { x with
        hist := (x.cur :: x.hist).take 256, cur := {}, sinceEv := min 16 (x.sinceEv + 1), maps := none
        brs := x.brs.filter fun e => x.mir.any fun g => g.sfc == e.1 }
    (if x.role = 3 && x.decodeOk && !(d4.tree p).decodeOk then d4.sayMismatch p 4 0 0 else d4).checkJoin

/-- Bits of MAT_HEALTH (Table 13-15); zero on a tree whose role is not standby. -/
def Dev.health (d : Dev) (p : Nat) : Nat :=
  let x := d.tree p
  if !d.deputy p then 0
  else
    let armed := x.role == 3
    let map := histSum x.hist 16 (·.map) == 0
    let pay := histSum x.hist 64 (·.payload) == 0
    let heard := x.heardAt.any fun t => decide (d.now ≤ t + 1000000)
    let low := b2n armed + 2 * b2n x.mirror + 4 * b2n x.phase + 8 * b2n map + 16 * b2n x.ckptOk + 32 * b2n x.decodeOk + 64 * b2n pay
    low + 128 * b2n heard + 2 ^ 16 * min 255 (histSum x.hist 256 (·.all)) + 2 ^ 31 * b2n (low == 127)

end Sys2Proof.Machine
end

