-- ==== Sys2Proof/Machine/Profiler.lean ====
section
/-! DEFINITION. The winder profiler (R459 to R462): what an issued instruction, a program start and the end of a run record. -/
namespace Sys2Proof.Machine
open Sys2Proof

/-- What an instruction word beyond the image reads as (R196). -/
def imemDflt (_ : Nat) : Word := 0xF8000000#32
/-- The instruction word at `pc` of a half. -/
def Winder.iw (x : Winder) (half : Bool) (pc : Nat) : Word := sget imemDflt x.imem (b2n half * 4096 + pc)

/-- Gives the newest `n` records their LAT. -/
def closeLat (recs : List ProfRec) (n lat : Nat) : List ProfRec :=
  recs.take (recs.length - n) ++ (recs.drop (recs.length - n)).map fun r => { r with lat := lat }

/-- A recording stops: reason, TAL_PROFILE_DONE (R461). -/
def Dev.profStop (d : Dev) (c reason : Nat) : Dev :=
  let pr := (d.cluster c).prof
  if !pr.on then d
  else
    (d.modCluster c fun x => { x with prof := { x.prof with on := false, reason := reason } }).emit 0x0C03 (srcOf 4 c)
      (le 2 reason ++ le 2 pr.recs.length ++ le 4 0 ++ sfc8 pr.lastSfc)

/-- A record enters the buffer (R461): without RING a full buffer stops the recording, with it the oldest goes. -/
def Dev.profAdd (d : Dev) (c : Nat) (r : ProfRec) (t : Nat) : Dev :=
  let pr := (d.cluster c).prof
  if !pr.on then d
  else
    let full := decide (4096 ≤ pr.recs.length)
    let l := (if full then pr.recs.drop 1 else pr.recs) ++ [r]
    let d1 := d.modCluster c fun x => { x with
      prof := { x.prof with recs := l, wrapped := x.prof.wrapped || full, opn := x.prof.opn + 1, opnAt := t } }
    if !pr.set.ring && decide (4096 ≤ l.length) then d1.profStop c 1 else d1

/-- The profiler of a winder's cluster watches the tree port that the winder serves. -/
def Dev.profWatches (d : Dev) (w : Nat) : Bool :=
  (d.winder w).port == 4 * (w / 5) + (d.cluster (w / 5)).prof.set.port

/-- The record of the instruction that issues on winder `w` in cycle `t`. -/
def Dev.profRecord (d : Dev) (w t : Nat) (marker : Bool) : ProfRec :=
  let x := d.winder w
  { pc := x.pc.toNat, marker := marker, word := x.iw (d.port x.port).wnd.half x.pc.toNat, issue := (x.cyc0 + t) % 2 ^ 20,
    winder := w, sfc := x.sfc % 2 ^ 32 }

/-- An instruction issues on winder `w` in cycle `t` (R459, R460). -/
def Dev.profIssue (d : Dev) (w t : Nat) : Dev :=
  let c := w / 5
  let pr := (d.cluster c).prof
  if !d.profWatches w || (!pr.on && pr.opn == 0) then d
  else
    let d1 := d.modCluster c fun x => { x with
      prof := { x.prof with recs := closeLat x.prof.recs x.prof.opn (min 65535 (t - x.prof.opnAt)), opn := 0 } }
    let pc := (d.winder w).pc.toNat
    if !pr.on || pc < pr.set.lo || pr.set.hi < pc then d1
    else
      let n := pr.cnt + 1
      let d2 := d1.modCluster c fun x => { x with prof := { x.prof with cnt := n } }
      if pr.set.mode = 0 || (pr.set.mode = 2 && n % pr.set.every == 0) then d2.profAdd c (d.profRecord w t false) t else d2

/-- The word of SAMPLE with a tag (Tables 6-4 and 6-5). -/
def sampleWord (tag : Half) : Word := 0xF4000000#32 ||| tag.zeroExtend 32

/-- SAMPLE writes a marker record, which carries its tag, in every mode (R216, R459). -/
def Dev.profMark (d : Dev) (w t : Nat) (tag : Half) : Dev :=
  if d.profWatches w then d.profAdd (w / 5) { d.profRecord w t true with word := sampleWord tag } t else d

/-- A program start of tree port `p` (R459): a recording that waits for this frame begins. -/
def Dev.profRunStart (d : Dev) (p sfc : Nat) : Dev :=
  let c := p / 4
  let pr := (d.cluster c).prof
  match pr.pend with
  | some (tag, s) =>
    if 4 * c + s.port = p && s.startSfc ≤ sfc then
      (d.modCluster c fun x => { x with prof := { on := true, set := s, firstSfc := sfc, lastSfc := sfc, reason := pr.reason } }).complete
        tag stOk (sfc8 sfc)
    else d
  | none =>
    if pr.on && 4 * c + pr.set.port == p then d.modCluster c fun x => { x with prof := { x.prof with lastSfc := sfc } } else d

/-- A run of tree port `p` ends: its last record keeps LAT 0; after FRAMES runs the recording stops (R460, R461). -/
def Dev.profRunEnd (d : Dev) (p : Nat) : Dev :=
  let c := p / 4
  let pr := (d.cluster c).prof
  if 4 * c + pr.set.port != p then d
  else
    let d1 := d.modCluster c fun x => { x with prof := { x.prof with opn := 0, runs := x.prof.runs + b2n x.prof.on } }
    if pr.on && pr.set.frames != 0 && decide (pr.set.frames ≤ pr.runs + 1) then d1.profStop c 2 else d1

/-- TAL_PROF_STATUS of a cluster (Table 16-10). -/
def Profiler.status (x : Profiler) : Word :=
  BitVec.ofNat 32 (b2n x.on + 2 * b2n x.wrapped + 4 * x.recs.length + 2 ^ 16 * x.reason + 2 ^ 20 * x.set.mode)

/-- The bytes of a record (Table 16-5). -/
def ProfRec.bytes (r : ProfRec) : Bytes :=
  le 2 (r.pc + b2n r.marker * 2 ^ 15) ++ le 2 r.lat ++ le 4 r.word.toNat ++ le 4 (r.issue + r.winder * 2 ^ 20) ++ le 4 r.sfc

/-- READ_STATE on a cluster (R462). -/
def Profiler.stateBytes (x : Profiler) : Bytes :=
  padTo 64 (le 2 x.recs.length ++ le 2 0 ++ le 4 x.status.toNat ++ sfc8 x.firstSfc) ++ x.recs.flatMap ProfRec.bytes

end Sys2Proof.Machine
end

