-- ==== Sys2Proof/Machine/MapBuilder.lean ====
section
/-! DEFINITION. The map builder (chapters 05 and 07): grants, windows, tails, the precedence cut, seals, missed seals, witness
grants. Intervals are in f after U_M. -/
namespace Sys2Proof.Machine
open Sys2Proof

/-- The superframe counter of frame N+1, whose header carries the map now built. -/
def Port.nextSfc (q : Port) : Nat := if !q.counting || q.fresh then 0 else (q.sfc + 1) % 2 ^ 51

/-- Payload words for `bytes` bytes under a profile (Table 7-3). -/
def payloadWords (gen rate : Nat) (fec : Bool) (bytes : Nat) : Nat :=
  let bpw := bitsPerWord gen rate
  let nd : Nat × Nat := if !fec then (1, 1) else match gen with
    | 1 => (45, 38)
    | 4 => (255, 239)
    | _ => (31, 27)
  ceilDiv (8 * bytes * nd.1) (bpw * nd.2)

/-- Payload words of an allocation's FIXED bytes under profile content `x` (R177, R222). -/
def WndPort.fixedWords (w : WndPort) (gen : Nat) (x : Profile) (ri : Nat) : Nat := payloadWords gen x.rate x.fec (w.rFixed ri)

/-- The rank of a grant class in Table 5-3: fixed 1, assured 3, non-assured 4, best effort 5. -/
def classRank (cls : Nat) : Nat := if cls = 0 then 1 else cls % 4 + 2

/-- The occupied interval of a grant (R173). -/
def grantSpan (gen start size : Nat) (x : Profile) : Int × Int :=
  let b := bitF gen x.rate
  (start * wordF gen - x.hdrBits * b, (start + size) * wordF gen + x.guardBits * b)
def Grant.span (gen : Nat) (g : Grant) : Int × Int := grantSpan gen g.start g.size g.prof
/-- The occupied interval of a window (R135). -/
def Win.span (gen : Nat) (w : Win) : Int × Int := (w.o * wordF gen, (w.o + w.len) * wordF gen)
/-- Two intervals intersect. -/
def meets (a b : Int × Int) : Bool := decide (a.1 < b.2 ∧ b.1 < a.2)

/-- Grants and windows of a map that count against 2,048 (R172): not the tail, not inserted witness grants. -/
def MapB.entries (m : MapB) : Nat := (m.grants.filter fun g => g.ri != 0xFFFF).length + m.wins.length

/-- What R173 asks of a grant apart from its interval. -/
def Port.grantFits (q : Port) (ri profIx : Nat) : Bool :=
  let l := laneOf (q.wnd.rLane ri)
  let x := q.prof profIx
  q.wnd.rValid ri && (q.term (q.wnd.rTerm ri)).ranged && (q.lane l).live && x.valid && x.lane == l

/-- Result codes of GRANT (R231). -/
inductive GrantRes where
  | accepted (displaced : Nat)
  | rejected (code : Nat)
  deriving DecidableEq, Repr

/-- The map builder decides one grant (R172 to R174, R181, R233). By the column "Takes time from" of Table 5-3 a fixed grant
takes time from no class, and no grant takes time from a window (log entry 7). -/
def Port.decideGrant (q : Port) (ri profIx flags start size0 : Nat) : GrantRes × Port :=
  let witness := bitOf flags 3
  let size := if witness then 1 else size0
  let l := laneOf (q.wnd.rLane ri)
  let x := q.prof profIx
  let ls := q.lane l
  let gen := ls.gen
  let sp := grantSpan gen start size x
  if !q.grantFits ri profIx || decide (sp.1 < 0 ∨ frameF < sp.2) then (.rejected 1, q)
  else
    let rank := classRank (q.wnd.rClass ri)
    let hit := ls.map.grants.filter fun g => meets (g.span gen) sp
    if meets sp (0, (ls.map.tail * wordF gen : Nat)) || ls.map.wins.any (fun w => meets (w.span gen) sp) ||
        hit.any (fun g => rank == 1 || decide (classRank g.cls ≤ rank)) then
      (.rejected 2, q)
    else if 2048 ≤ ls.map.entries - hit.length then (.rejected 3, q)
    else
      let g : Grant :=
        { ri := ri, allocId := q.wnd.rAllocId ri, term := q.wnd.rTerm ri, lane := l, cls := q.wnd.rClass ri,
          start := start, size := size, profIx := profIx, prof := x,
          ploamUp := bitOf flags 0, rptReq := bitOf flags 1 || witness, wake := bitOf flags 2, witness := witness }
      let keep := ls.map.grants.filter fun g => !meets (g.span gen) sp
      (.accepted hit.length, q.modLane l fun s => { s with map := { s.map with grants := keep ++ [g] } })

/-- Records with fields outside Table 5-2: a grant of the port may be wrong in size or class (Table 5-12). -/
def Dev.oddSize (d : Dev) (p size : Nat) : Nat × Dev := if (d.port p).wnd.odd then d.pick 16 else (size, d)

/-- GRANT reaches the map builder: decision and counters (R163, R172 to R174, R181). -/
def Dev.grant (d0 : Dev) (p ri profIx flags start size0 : Nat) : GrantRes × Dev :=
  let (size, d) := d0.oddSize p size0
  let (r, q) := (d.port p).decideGrant ri profIx flags start size
  match r with
  | .rejected _ => (r, d.countPort p 0x24C)
  | .accepted n =>
    let d1 := d.setPort p q
    let d2 := if n = 0 then d1 else d1.countPort p 0x250 n
    (r, if bitOf flags 3 then d2.countPort p 0x248 else d2)

/-- First word after `o` that a fixed grant or window occupies, if any. -/
def nextBlock (gen : Nat) (m : MapB) (o : Nat) : Option Nat :=
  let w := max 1 (wordF gen)
  let starts := (m.grants.filter fun g => g.cls == 0).map (fun g => ((g.span gen).1.toNat / w)) ++ m.wins.map (·.o)
  (starts.filter fun a => decide (o < a)).foldl (fun acc a => match acc with | none => some a | some b => some (min a b)) none
/-- A fixed grant or window occupies word `o`. -/
def blocked (gen : Nat) (m : MapB) (o : Nat) : Bool :=
  let w := max 1 (wordF gen)
  (m.grants.any fun g => g.cls == 0 && decide ((g.span gen).1.toNat / w ≤ o ∧ o < ceilDiv (g.span gen).2.toNat w)) ||
    m.wins.any fun x => decide (x.o ≤ o ∧ o < x.o + x.len)

/-- The request RNGWIN serves (R232): the lane's oldest ranging request, else its oldest discovery request. -/
def Port.oldestReq (q : Port) (l : Lane) : Option RngReq :=
  match q.rngReqs.find? fun r => r.lane == l && r.ranging with
  | some r => some r
  | none => q.rngReqs.find? fun r => r.lane == l && !r.ranging

/-- Counts a discovery window as placed; the programme ends with its last one (R134). -/
def DiscProg.onPlaced (x : DiscProg) : DiscProg :=
  let n := x.placed + 1
  { x with placed := n, wait := x.period, running := x.running && (x.count == 0xFFFFFFFF || decide (n < x.count)) }

/-- What the map builder made of a window: the value for g[rd], the port, the grants removed, and whether the full map refused it (R172). -/
structure WinRes where
  val : Nat
  port : Port
  hit : Nat := 0
  full : Bool := false

/-- RNGWIN (R172, R176, R232). With an RSV bit set in its operands the window may have any size and profile (Table 7-9): `odd`. -/
def Port.placeWindow (q : Port) (l : Lane) (reserve0 s : Nat) (odd : Option (Nat × Nat)) : WinRes :=
  match q.oldestReq l with
  | none => { val := 0, port := q }
  | some req =>
    let kind := (if req.ranging then 2 else 1) * 2 ^ 18
    let ls := q.lane l
    let gen := ls.gen
    let n := wordsPerFrame gen
    let pr := q.prof ((odd.map (·.1)).getD req.prof)
    let hw := pr.hw gen
    let l0 := (odd.map (·.2)).getD (ceilDiv (req.wUs * n) 125)
    let l16 := ceilDiv (16 * n) 125
    let deferred : WinRes := { val := kind + 2 ^ 20, port := q }
    if s < hw || !ls.live then deferred
    else
      let o := s - hw
      let m := ls.map
      if o < m.tail || n ≤ o || blocked gen m o then deferred
      else
        let lim := 2 * n - min reserve0 n
        let e := match nextBlock gen m o with
          | some a => min a lim
          | none => lim
        let len := min l0 (e - o)
        let win : Win := { req := req, s := s, o := o, len := len, prof := pr }
        let hit := m.grants.filter fun g => meets (g.span gen) (win.span gen)
        if len < l16 then deferred
        else if 2048 ≤ m.entries - hit.length then { deferred with full := true }
        else
          let keep := m.grants.filter fun g => !meets (g.span gen) (win.span gen)
          let q1 := q.modLane l fun x => { x with
            map := { x.map with grants := keep, wins := x.map.wins ++ [win] }
            disc := if req.ranging then x.disc else x.disc.onPlaced }
          { val := len + kind, port := { q1 with rngReqs := dropFirst (fun r => r == req) q1.rngReqs }, hit := hit.length }

/-- A window or a grant that the map builder no longer takes is counted (R163, R172). -/
def Dev.windowPlaced (d : Dev) (p : Nat) (r : WinRes) : Dev :=
  let d1 := d.setPort p r.port
  let d2 := if r.hit = 0 then d1 else d1.countPort p 0x250 r.hit
  if r.full then d2.countPort p 0x24C else d2

/-- Returns the request of a window that a missed seal drops (R134, R179), unless its attempt has ended or its programme was replaced
(R133, R139). -/
def Port.returnReq (q : Port) (w : Win) : Port :=
  let q1 := { q with rngReqs := w.req :: q.rngReqs }
  if w.req.ranging then (if q.attempts.any fun a => a.id == w.req.id then q1 else q)
  else if (q.lane w.req.lane).disc.id != w.req.id then q
  else q1.modLane w.req.lane fun x => { x with disc := { x.disc with placed := x.disc.placed - 1, wait := 0, running := true } }

/-! ### The precedence cut (R177, R235) -/

/-- An entry of a fixed demand: record, payload words, overhead words. -/
structure Demand where
  ri : Nat
  pay : Nat
  ovh : Nat
  deriving DecidableEq, Repr

/-- Cut order: PREC highest first, then ADMIT highest first (R177). -/
def cutBefore (x : WndPort) (a b : Nat) : Bool :=
  decide (x.rPrec b < x.rPrec a ∨ (x.rPrec a = x.rPrec b ∧ x.rAdmit b < x.rAdmit a))

/-- Takes an excess from entries in cut order (R235): the cuts made, as record, words cut and new payload. -/
def cutWalk : Int → List Demand → List (Nat × Nat × Nat)
  | _, [] => []
  | ex, e :: es =>
    if ex ≤ 0 then []
    else if ex < e.pay then [(e.ri, ex.toNat, e.pay - ex.toNat)]
    else (e.ri, e.pay, 0) :: cutWalk (ex - e.pay - e.ovh) es

/-- The cuts that bring a list of demands to a budget (R235). -/
def precut (x : WndPort) (l : List Demand) (budget : Nat) : List (Nat × Nat × Nat) :=
  let act := l.filter fun e => decide (0 < e.pay)
  let dem : Nat := act.foldl (fun n e => n + e.pay + e.ovh) 0
  cutWalk ((dem : Int) - budget) (sortBy (fun a b => cutBefore x a.ri b.ri) act)

/-- Adds words cut from a record to the marks of the run (R236). -/
def addMark (l : List (Nat × Nat)) (ri words : Nat) : List (Nat × Nat) :=
  if l.any fun e => e.1 == ri then modWhere (fun e => e.1 == ri) (fun e => (e.1, e.2 + words)) l else l ++ [(ri, words)]

/-- Sets CUT in the records that a map cuts, clears it in every other, raises WND_GUARANTEE_BREACH (R178, R236). -/
def Dev.breach (d : Dev) (p : Nat) (cut : List (Nat × Nat)) : Dev :=
  let sfc := (d.port p).nextSfc
  let d1 := d.modPort p fun q =>
    let x := q.wnd.recs.foldl (fun x r => if bitOf (x.rDstate r) 1 then x.setDbit r 1 false else x) q.wnd
    { q with wnd := cut.foldl (fun x e => x.setDbit e.1 1 true) x }
  cut.foldl (fun d e =>
    (d.countPort p 0x244).emitPort p 0x0302
      (le 2 e.1 ++ le 2 ((d.port p).wnd.rAllocId e.1) ++ le 4 e.2 ++ sfc8 sfc)) d1

/-! ### Witness grants (R180, R182) -/

/-- The lowest-numbered ranged terminal of a lane. -/
def Port.lowestRanged (q : Port) (l : Lane) : Option Nat :=
  (q.terms.find? fun e => e.2.ranged && e.2.lane == l).map (·.1)

/-- Witness grants that fill the idle interval [a, b) of the time line (R180): the latest start that keeps the interval before
it within GAP; at most `n` more. -/
def witnessFill (gen gap : Nat) (x : Profile) (mk : Nat → Grant) (b : Int) : Nat → Int → List Grant
  | 0, _ => []
  | n + 1, a =>
    let w := max 1 (wordF gen)
    let gapF : Int := gap * 7962624 / 10
    let h : Int := x.hdrBits * bitF gen x.rate
    let g : Int := x.guardBits * bitF gen x.rate
    if (b - a) ≤ gapF then []
    else
      let flr := max a 0
      let s0 := (a + gapF + h) / w
      let s1 := if s0 * w - h < flr then (flr + h + w - 1) / w else s0
      let s2 := if b < (s1 + 1) * w + g then (b - g) / w - 1 else s1
      if s2 < 0 || s2 * w - h < flr || b < (s2 + 1) * w + g then []
      else mk s2.toNat :: witnessFill gen gap x mk b n ((s2 + 1) * w + g)

/-- Idle intervals between occupied ones, from `cur` to the end of the frame. -/
def idleSpans (cur : Int) : List (Int × Int) → List (Int × Int)
  | [] => if cur < frameF then [(cur, frameF)] else []
  | (lo, hi) :: l => (if cur < lo then [(cur, lo)] else []) ++ idleSpans (max cur hi) l

/-- Every occupied interval of a lane's map. -/
def MapB.spans (gen : Nat) (m : MapB) : List (Int × Int) :=
  m.grants.map (·.span gen) ++ m.wins.map (·.span gen) ++ (if m.tail = 0 then [] else [((0 : Int), (m.tail * wordF gen : Int))])

/-- Witness insertion after a seal (R180, R182); NO_WITNESS clears at the first seal at which neither cause holds. -/
def Dev.insertWitness (d : Dev) (p : Nat) : Dev :=
  let q := d.port p
  let x := q.prof q.wnd.witProf
  let l := x.lane
  let c1 := (q.lowestRanged l).isNone
  let c2 := !x.valid || !(q.lane l).live
  if !q.wnd.witEn then (if c1 || c2 then d else d.modPort p fun q => { q with wnd := { q.wnd with noWitness := false } })
  else
    if c1 || c2 then
      if q.wnd.noWitness then d
      else (d.modPort p fun q => { q with wnd := { q.wnd with noWitness := true } }).emitPort p 0x0303
        (le 1 (b2n c1 + 2 * b2n c2) ++ le 7 0 ++ sfc8 q.nextSfc)
    else
      let t := (q.lowestRanged l).getD 0
      let gen := (q.lane l).gen
      let mk (s : Nat) : Grant :=
        { ri := 0xFFFF, allocId := t, term := t, lane := l, cls := 0, start := s, size := 1, profIx := q.wnd.witProf, prof := x,
          rptReq := true, witness := true }
      let occ := sortBy (fun a b => decide (a.1 < b.1))
        ((if q.main.live then q.main.map.spans q.main.gen else []) ++ (if q.comp.live then q.comp.map.spans q.comp.gen else []))
      let cur := max q.main.prevEnd q.comp.prevEnd
      let add := ((idleSpans cur occ).flatMap fun s => witnessFill gen q.wnd.witGap x mk s.2 63 s.1).take 63
      let d1 := d.modPort p fun q =>
        { (q.modLane l fun ls => { ls with map := { ls.map with grants := ls.map.grants ++ add } }) with
          wnd := { q.wnd with noWitness := false } }
      if add.isEmpty then d1 else d1.countPort p 0x248 add.length

/-! ### Seals -/

/-- Grants of a map in order of start time (R175). -/
def sortGrants (l : List Grant) : List Grant := sortBy (fun a b => decide (a.start < b.start)) l

/-- The last occupied instant of a lane's time line, seen from the next map's U_M; `prev` is that of the map before, seen from this map's
U_M. It lies before U_M when the end of the frame was idle (R180). -/
def MapB.lastEnd (gen : Nat) (m : MapB) (prev : Int) : Int :=
  (m.spans gen).foldl (fun e s => max e (s.2 - frameF)) (prev - frameF)

/-- Closes a lane's map: what the next header carries, what the next map inherits (R179, R233). -/
def LaneS.close (x : LaneS) : LaneS :=
  let m : MapB := if x.live then { x.map with grants := sortGrants x.map.grants } else {}
  let n := wordsPerFrame x.gen
  let tail := m.wins.foldl (fun t w => max t (w.o + w.len - n)) 0
  { x with
    sealed := if x.running then some m else none
    prevFixed := m.grants.filter fun g => g.cls == 0 && g.ri != 0xFFFF
    prevEnd := m.lastEnd x.gen x.prevEnd
    tail := tail
    map := { tail := tail } }

/-- Both lanes' maps are closed: CUT bits and breaches, witness grants, the sealed maps (R180, R236, R237). -/
def Dev.finishMaps (d : Dev) (p : Nat) (cut : List (Nat × Nat)) : Dev :=
  ((d.breach p cut).insertWitness p).modPort p fun q => { q with main := q.main.close, comp := q.comp.close }

/-- Lays grants back to back from word `cur` (R179). -/
def layBack (gen cur : Nat) : List Grant → List Grant
  | [] => []
  | g :: gs =>
    let s := cur + g.prof.hw gen
    { g with start := s } :: layBack gen (s + g.size + g.prof.gw gen) gs

/-- Sorted occupied word intervals do not intersect. -/
def disjointSpans : List (Int × Int) → Bool
  | a :: b :: l => decide (a.2 ≤ b.1) && disjointSpans (b :: l)
  | _ => true

/-- Gives each allocation's grants, in order of start, the words that R177 leaves it: every grant but an allocation's last takes its own
size of them, the last takes the rest (log entry 47); an allocation cut to zero receives no grant. -/
def sharePay (left : List (Nat × Nat)) : List Grant → List Grant
  | [] => []
  | g :: gs =>
    let a := ((left.find? fun e => e.1 == g.ri).map (·.2)).getD 0
    let s := if gs.any fun h => h.ri == g.ri then min g.size a else a
    let rest := sharePay (modWhere (fun e => e.1 == g.ri) (fun e => (e.1, e.2 - s)) left) gs
    if a = 0 then rest else { g with size := s } :: rest

/-- The carried grants laid anew under changed profile content (R177, R179), with the words cut. -/
def Port.relay (q : Port) (gen tail : Nat) (l : List Grant) : List Grant × List (Nat × Nat) :=
  let ovh (g : Grant) : Nat := g.prof.hw gen + g.prof.gw gen
  let dem := ((l.map (·.ri)).eraseDups).filterMap fun r =>
    (l.find? fun g => g.ri == r).map fun g =>
      (⟨r, q.wnd.fixedWords gen g.prof r, ((l.filter fun h => h.ri == r).map ovh).foldl (· + ·) 0⟩ : Demand)
  let cuts := precut q.wnd dem (wordsPerFrame gen)
  let left := dem.map fun e => (e.ri, ((cuts.find? fun c => c.1 == e.ri).map (·.2.2)).getD e.pay)
  (layBack gen tail (sharePay left (sortGrants l)), cuts.map fun c => (c.1, c.2.1))

/-- The fixed grants that a missed seal carries over on a lane, with the words it cuts, one entry for each record (R178, R179). Each keeps its
own profile, as R179 words it; PROFILE of Table 5-2 is not read (DESIGN CHOICE, log entry 47). A profile whose content has changed since
the grant was accepted, at this seal point or an earlier one, counts with its content in force (R104). -/
def Port.carried (q : Port) (l : Lane) : List Grant × List (Nat × Nat) :=
  let x := q.lane l
  let gen := x.gen
  let w := wordF gen
  let fits := x.prevFixed.filter fun g => q.wnd.rClass g.ri == 0 && laneOf (q.wnd.rLane g.ri) == l && q.grantFits g.ri g.profIx
  let changed := fits.any fun g => g.prof != q.prof g.profIx
  let cur := fits.map fun g => { g with prof := q.prof g.profIx }
  let tl := x.map.tail
  let spans := sortBy (fun a b => decide (a.1 < b.1)) (cur.map (·.span gen))
  let still := disjointSpans (if tl = 0 then spans else ((0 : Int), (tl * w : Int)) :: spans)
  let (laid, cut) := if !changed || still then (cur, []) else q.relay gen tl cur
  let inFrame := laid.filter fun g => decide (0 ≤ (g.span gen).1 ∧ (g.span gen).2 ≤ (frameF : Int))
  let hitTail (g : Grant) : Bool := decide (0 < tl) && meets (g.span gen) (0, (tl * w : Nat))
  (inFrame.filter fun g => !hitTail g, (inFrame.filter hitTail).foldl (fun m g => addMark m g.ri g.size) cut)

/-- One lane of a missed seal (R179): the run's grants go, carried grants and kept windows stay. -/
def Port.missLane (q : Port) (l : Lane) : Port × List (Nat × Nat) × Nat × Nat :=
  let x := q.lane l
  let gen := x.gen
  let (carry, cut) := if x.live then q.carried l else ([], [])
  let hit (w : Win) : Bool := carry.any fun g => meets (g.span gen) (w.span gen)
  let q1 := q.modLane l fun x => { x with map := { x.map with grants := carry, wins := x.map.wins.filter fun w => !hit w } }
  ((x.map.wins.filter hit).foldl (fun q w => q.returnReq w) q1, cut, carry.length, x.map.grants.length)

/-- A missed seal (R179), with its reason (Table 5-7). -/
def Dev.missedSeal (d : Dev) (p reason : Nat) : Dev :=
  let q := d.port p
  let (q1, cut1, n1, g1) := q.missLane .main
  let (q2, cut2, n2, g2) := q1.missLane .comp
  let q3 := { q2 with wnd := { q2.wnd with lastMissed := true, sealCyc := 0, marks := [] } }
  (((d.setPort p q3).countPort p 0x240).emitPort p 0x0301
    (le 2 reason ++ le 2 (n1 + n2) ++ le 2 (g1 + g2) ++ le 2 0 ++ sfc8 q.nextSfc)).finishMaps p (cut1 ++ cut2)

/-! ### The report queue (R170, R171) -/

/-- Entries that return to the head of the queue; a newer report for the same record replaces the value. -/
def mergeRpts (hd q : List Rpt) : List Rpt :=
  (hd.map fun h => (q.find? fun n => n.ri == h.ri).getD h) ++ q.filter fun n => !(hd.any fun h => h.ri == n.ri)

/-- A report enters the report queue (R170), or is discarded and counted. -/
def Dev.report (d : Dev) (p ri bytes : Nat) : Dev :=
  let q := d.port p
  if !q.wnd.rValid ri then d.countPort p 0x254
  else
    let sfc := if q.wnd.cutDone then q.nextSfc else q.sfc
    let e : Rpt := { ri := ri, bytes := min bytes 0xFFFFFFFF, sfc := sfc }
    d.modPort p fun q =>
      let x := q.wnd
      let rq := if x.rptQ.any fun r => r.ri == ri then modWhere (fun r => r.ri == ri) (fun _ => e) x.rptQ else x.rptQ ++ [e]
      { q with wnd := (({ x with rptQ := rq }).setAw ri 8 e.bytes).setAw ri 9 (sfc % 2 ^ 32) }

/-- REPORT_CUTOFF (R171): the entries in the queue form the frame's report set; those of a set that no run has ended are among them, at
the head (R185, R229). -/
def WndPort.cutoff (x : WndPort) : WndPort :=
  if x.cutDone then x
  else { x with rptSet := mergeRpts (x.rptFetched ++ x.rptSet) x.rptQ, rptQ := [], rptFetched := [], cutDone := true }

/-! ### Runs, checkpoints, pending writes -/

/-- A WND_ALLOC_WRITE or WND_ALLOC_REMOVE takes effect (R166 to R168). -/
def Port.applyAlloc (q : Port) (ri : Nat) (recd : Option Bytes) : Port :=
  let x := q.wnd
  let dropRpt (x : WndPort) : WndPort := { x with
    rptQ := x.rptQ.filter fun r => r.ri != ri
    rptSet := x.rptSet.filter fun r => r.ri != ri
    rptFetched := x.rptFetched.filter fun r => r.ri != ri
    ckptRpts := x.ckptRpts.filter fun r => r.ri != ri }
  match recd with
  | none =>
    let w1 := x.aw ri 1
    { q with wnd := dropRpt ((x.setAw ri 1 (w1 - b2n (bitOf w1 24) * 2 ^ 24)).setAw ri 11 0) }
  | some bs =>
    let was := x.rValid ri
    let x1 := (List.range 8).foldl (fun x k => x.setAw ri k (fld bs (4 * k) 4)) x
    let now := x1.rValid ri
    if now && !was then
      let x2 := [8, 9, 11, 12, 13, 14, 15].foldl (fun x k => x.setAw ri k 0) (x1.setAw ri 10 x.admitSeq.toNat)
      let x3 := { x2 with admitSeq := x2.admitSeq + 1 }
      { q with wnd := if (q.term (x3.rTerm ri)).ranged then x3.setDbit ri 0 true else x3 }
    else if !now && was then { q with wnd := dropRpt (x1.setAw ri 11 0) }
    else { q with wnd := x1 }

/-- Pending allocation writes take effect between runs (R166). -/
def Dev.applyAllocs (d : Dev) (p : Nat) : Dev :=
  let l := (d.port p).wnd.allocPend
  let d1 := d.modPort p fun q => { q with wnd := { q.wnd with allocPend := [] } }
  l.foldl (fun d e => (d.modPort p fun q => q.applyAlloc e.2.1 e.2.2).complete e.1 stOk) d1

/-- SCRATCH words of the records (bytes 48-63). -/
def scratchOf (m : Sparse Word) : Sparse Word := m.filter fun e => decide (12 ≤ e.1 % 16)

/-- The checkpoint of the state as it stands (Table 5-5). -/
def takeCkpt (q : Port) (w : Winder) : Ckpt :=
  { lmem := w.lmem, scratch := scratchOf q.wnd.alloc, cal := q.wnd.cal, v := q.wnd.v, shift := q.wnd.shift, half := q.wnd.half,
    sfc := q.wnd.runSfc }

/-- A run ends (R163): the winder stops, its checkpoint is being written (R184), entries never fetched stay in the queue (R229),
pending record writes take effect (R166). -/
def Dev.endRun (d : Dev) (p : Nat) (how : RunEnd) : Dev :=
  let q := d.port p
  let w := q.wnd.winder
  let x := d.winder w
  let d1 := (d.setWinder w { x with running := false, late := how == .running }).profRunEnd p
  (d1.modPort p fun q => { q with wnd := { q.wnd with
    run := how
    ckptPend := some (takeCkpt q x)
    ckptRpts := if how == .sealedOk then q.wnd.rptFetched else []
    rptQ := if how == .sealedOk then mergeRpts q.wnd.rptSet q.wnd.rptQ
      else mergeRpts (q.wnd.rptFetched ++ q.wnd.rptSet) q.wnd.rptQ
    rptSet := []
    rptFetched := [] } }).applyAllocs p

/-- CHECKPOINT_COMPLETE (R171, R184): the checkpoint becomes valid, the older store is overwritten, the entries fetched are
released. -/
def WndPort.ckptDone (x : WndPort) : WndPort :=
  match x.ckptPend with
  | none => x
  | some c => { x with ckpts := (c :: x.ckpts).take 2, ckptPend := none, ckptRpts := [] }

/-- The sealed maps of both lanes go to the mate (Table 13-4). -/
def Dev.mirrorMaps (d : Dev) (p : Nat) : Dev :=
  let q := d.port p
  d.mirror p (.maps q.nextSfc q.main.mirroredMap q.comp.mirroredMap)

/-- SEAL (R236, R237): the map is sealed with the run's marks; the run ends. -/
def Dev.sealMaps (d : Dev) (p sealrem : Nat) : Dev :=
  let marks := (d.port p).wnd.marks
  let d1 := d.modPort p fun q => { q with wnd := { q.wnd with sealCyc := sealrem, lastMissed := false, marks := [] } }
  ((d1.finishMaps p marks).mirrorMaps p).endRun p .sealedOk

/-- The profiles of a lane that are VALID, with their content. -/
def Port.validOn (q : Port) (l : Lane) : List (Nat × Profile) :=
  ((List.range 4).map fun i => (i, q.prof i)).filter fun e => e.2.valid && e.2.lane == l

/-- Profile changes at a seal point (R104); a lane whose VALID profiles changed announces them anew (R105). -/
def Port.applyProfiles (q : Port) : Port :=
  let q1 := q.profPend.foldl (fun q e => { q with profs := sset (fun _ => {}) q.profs e.2.1 e.2.2 }) { q with profPend := [] }
  let restart (l : Lane) (q2 : Port) : Port :=
    if q.validOn l == q1.validOn l then q2 else q2.modLane l fun x => { x with annNext := 0, annPrio := 4 }
  restart .comp (restart .main q1)

/-- What takes effect at a seal point: profiles (R104), discovery programmes (R133), removals (R142), witness settings (R182). A request of
the replaced programme that is posted and not placed is dropped (DESIGN CHOICE, log entry 46). -/
def Dev.sealDuties (d : Dev) (p : Nat) : Dev :=
  let q := d.port p
  let d1 := d.modPort p Port.applyProfiles
  let d2 := q.profPend.foldl (fun d e => d.complete e.1 stOk) d1
  let disc (l : Lane) (d : Dev) : Dev :=
    match ((d.port p).lane l).discPend with
    | none => d
    | some (c, prog) =>
      let old := ((d.port p).lane l).disc
      (d.modPort p fun q =>
        { (q.modLane l fun x => { x with disc := prog, discPend := none }) with
          rngReqs := q.rngReqs.filter fun r => r.ranging || r.lane != l }).complete c stOk
        (le 4 old.placed)
  let d3 := disc .comp (disc .main d2)
  let d4 := q.removes.foldl (fun d e =>
    let l := ((d.port p).term e.2).lane
    let msgs := (((d.port p).lane l).hostQ ++ ((d.port p).lane l).hostWait).filter fun m => m.term == e.2
    let d5 := (d.modPort p fun q =>
      ((q.modTerm e.2 fun x => { x with state := 0, eqdPend := 0, limit := false, trackFail := false, silent := false, risk := false }).markRanged e.2 false).modLane l fun x =>
        { x with hostQ := x.hostQ.filter fun m => m.term != e.2, hostWait := x.hostWait.filter fun m => m.term != e.2 })
    (d5.abandonTags (msgs.map (·.tag))).complete e.1 stOk) (d3.modPort p fun q => { q with removes := [] })
  match q.wnd.witPend with
  | none => d4
  | some (c, en, gap, pr) =>
    (d4.modPort p fun q => { q with wnd := { q.wnd with witEn := en, witGap := gap, witProf := pr, witPend := none } }).complete c stOk

/-- While a mistake of the active image or of its program holds, the maps may hold any accepted grants or be missed seals (Tables 5-12,
6-21). -/
def Dev.wildMaps (d : Dev) (p : Nat) : Dev := if (d.port p).wnd.wild then d.spoil (.maps p (d.port p).wnd.winder) else d

/-- SEAL_POINT (R163, R164, R179): duties of the instant; a run in progress ends; a map that SEAL has not sealed is a missed
seal, or an empty map without an active image or, on a standby tree, without a deputy run (log entry 42). -/
def Dev.sealPoint (d0 : Dev) (p : Nat) : Dev :=
  let d := d0.wildMaps p
  let how := (d.port p).wnd.run
  let d1 := if how == .running then d.endRun p .running else d
  let d2 := d1.sealDuties p
  let d3 :=
    if how == .sealedOk then d2
    else if !(d2.port p).wnd.image || (d2.deputy p && how == .none) then (d2.finishMaps p []).mirrorMaps p
    else (d2.missedSeal p (match how with | .halted => 1 | .faulted => 2 | _ => 0)).mirrorMaps p
  (d3.modPort p fun q => { q with wnd := { q.wnd with
    run := if q.wnd.faultNext then .faulted else .none
    faultNext := false
    past := true } }).applyAllocs p

end Sys2Proof.Machine
end

