-- ==== Sys2Proof/Machine/WordDecode.lean ====
section
/-! DEFINITION. Oliol instruction words: the formats of Table 6-4, the opcode maps of Tables 6-5 and 7-1, the func codes of Tables 6-11 to 6-14. -/
namespace Sys2Proof.Machine
open Sys2Proof

/-- The `n` bits of a word from bit `lo` up. -/
def wf (v : Word) (lo n : Nat) : BitVec n := v.extractLsb' lo n
/-- One of the bits of a mask is set. -/
def anyOf (v m : Word) : Bool := v &&& m != 0#32

/-- Source t of the Vec format (R211). -/
def wordSrc (v : Word) : VecSrc := if v.getLsbD 10 then .sca (wf v 11 5) else .vec (wf v 11 4)
/-- Predication of the Vec format (R211). -/
def wordPred (v : Word) : Pred := if v.getLsbD 9 then .all else if v.getLsbD 6 then .zeroing (wf v 7 2) else .merging (wf v 7 2)
/-- Bit 4 of the vt field is RSV where it names a vector register. -/
def vtRsv (v : Word) : Bool := !v.getLsbD 10 && v.getLsbD 15

/-- VALU (Table 6-11); bit 5, and bit 4 of the vd and vs fields, are RSV. -/
def wordValu (w : Fin 80) (v : Word) : Instr × Bool :=
  let vd := wf v 21 4
  let vs := wf v 16 4
  let t := wordSrc v
  let pr := wordPred v
  let bad := anyOf v 0x02100020#32 || vtRsv v
  match (wf v 0 5).toNat with
  | 0 => (.vadd w vd vs t pr, bad)
  | 1 => (.vsub w vd vs t pr, bad)
  | 2 => (.vand w vd vs t pr, bad)
  | 3 => (.vor w vd vs t pr, bad)
  | 4 => (.vxor w vd vs t pr, bad)
  | 5 => (.vshl w vd vs t pr, bad)
  | 6 => (.vshr w vd vs t pr, bad)
  | 7 => (.vsar w vd vs t pr, bad)
  | 8 => (.vmul w vd vs t pr, bad)
  | 9 => (.vmulhu w vd vs t pr, bad)
  | 10 => (.vminu w vd vs t pr, bad)
  | 11 => (.vmaxu w vd vs t pr, bad)
  | 12 => (.vsubsat w vd vs t pr, bad)
  | _ => (.halt w, false)

/-- VCMP (R213, Table 6-12): pd in bits [22:21], bits [25:23] RSV. -/
def wordVcmp (w : Fin 80) (v : Word) : Instr × Bool :=
  let pd := wf v 21 2
  let vs := wf v 16 4
  let t := wordSrc v
  let pr := wordPred v
  let bad := anyOf v 0x03900020#32 || vtRsv v
  match (wf v 0 5).toNat with
  | 0 => (.vceq w pd vs t pr, bad)
  | 1 => (.vcne w pd vs t pr, bad)
  | 2 => (.vcltu w pd vs t pr, bad)
  | 3 => (.vclt w pd vs t pr, bad)
  | 4 => (.vcgeu w pd vs t pr, bad)
  | 5 => (.vcge w pd vs t pr, bad)
  | _ => (.halt w, false)

/-- VSEL (Table 6-13): U and Z are 0. -/
def wordVsel (w : Fin 80) (v : Word) : Instr × Bool :=
  if wf v 0 5 = 0 then (.vsel w (wf v 21 4) (wf v 16 4) (wordSrc v) (wf v 7 2), anyOf v 0x02100260#32 || vtRsv v) else (.halt w, false)

/-- VRED (Table 6-13): the vt field, S and Z are 0. -/
def wordVred (w : Fin 80) (v : Word) : Instr × Bool :=
  let gd := wf v 21 5
  let vs := wf v 16 4
  let pr := wordPred v
  let bad := anyOf v 0x0010FC60#32
  match (wf v 0 5).toNat with
  | 0 => (.vrsum w gd vs pr, bad)
  | 1 => (.vrminu w gd vs pr, bad)
  | 2 => (.vrmaxu w gd vs pr, bad)
  | 3 => (.vrmini w gd vs pr, bad)
  | 4 => (.vrmaxi w gd vs pr, bad)
  | _ => (.halt w, false)

/-- VLANE (Table 6-13): for VINS and VEXT the p field, U, Z and bits [4:3] of the vt field are 0. -/
def wordVlane (w : Fin 80) (v : Word) : Instr × Bool :=
  match (wf v 0 5).toNat with
  | 0 => (.vbc w (wf v 21 4) (wf v 16 5) (wordPred v), anyOf v 0x02000020#32)
  | 1 => (.vidx w (wf v 21 4) (wordPred v), anyOf v 0x02000020#32)
  | 2 => (.vins w (wf v 21 4) (wf v 16 5) (wf v 11 3), anyOf v 0x0200C3E0#32)
  | 3 => (.vext w (wf v 21 5) (wf v 16 4) (wf v 11 3), anyOf v 0x0010C3E0#32)
  | _ => (.halt w, false)

/-- VPRED (R215, Table 6-14): every bit of [25:5] that the func does not name is RSV. -/
def wordVpred (w : Fin 80) (v : Word) : Instr × Bool :=
  let pd := wf v 21 2
  let ps := wf v 16 2
  let pt := wf v 11 2
  match (wf v 0 5).toNat with
  | 0 => (.pand w pd ps pt, anyOf v 0x039CE7E0#32)
  | 1 => (.por w pd ps pt, anyOf v 0x039CE7E0#32)
  | 2 => (.pxor w pd ps pt, anyOf v 0x039CE7E0#32)
  | 3 => (.pandn w pd ps pt, anyOf v 0x039CE7E0#32)
  | 4 => (.pset w pd (wf v 8 8), anyOf v 0x039F00E0#32)
  | 5 => (.pfirst w pd ps, anyOf v 0x039CFFE0#32)
  | 6 => (.pcnt w (wf v 21 5) ps, anyOf v 0x001CFFE0#32)
  | 7 => (.ptog w (wf v 21 5) ps, anyOf v 0x001CFFE0#32)
  | 8 => (.pfromg w pd (wf v 16 5), anyOf v 0x0380FFE0#32)
  | _ => (.halt w, false)

/-- The shifts of opcode 0x15: imm[6:5] names the shift, imm[15:7] is RSV (Table 6-8). -/
def wordShift (w : Fin 80) (v : Word) : Instr × Bool :=
  let rd := wf v 21 5
  let rs := wf v 16 5
  let n := wf v 0 5
  let bad := anyOf v 0x0000FF80#32
  match (wf v 5 2).toNat with
  | 0 => (.shli w rd rs n, bad)
  | 1 => (.shri w rd rs n, bad)
  | 2 => (.sari w rd rs n, bad)
  | _ => (.rori w rd rs n, bad)

/-- The scheduling group 0x30 to 0x38 (Table 7-1); 0x39 to 0x3B execute as HALT. -/
def wordSched (w : Fin 80) (v : Word) : Instr × Bool :=
  let rd := wf v 21 5
  let rs := wf v 16 5
  let rt := wf v 11 5
  let z := anyOf v 0x000007F8#32
  let rd0 := anyOf v 0x03E00000#32
  let rs0 := anyOf v 0x001F0000#32
  let rt0 := anyOf v 0x0000F800#32
  match (wf v 26 6).toNat, (wf v 0 3).toNat with
  | 0x30, _ =>
    if wf v 0 5 = 0 then (.vft w (wf v 21 4) (wf v 16 4) (wordSrc v) (wordPred v), anyOf v 0x02100060#32 || vtRsv v) else (.halt w, false)
  | 0x31, 0 => (.vtnow w rd, z || rs0 || rt0)
  | 0x31, 1 => (.vtadv w rd rs, z || rt0)
  | 0x31, 2 => (.vtset w rs, z || rd0 || rt0)
  | 0x31, 3 => (.vtshift w rs, z || rd0 || rt0)
  | 0x32, 0 => (.calins w rd rs rt, z)
  | 0x33, 0 => (.calpop w rd rs, z || rt0)
  | 0x33, 1 => (.calcnt w rd rs, z || rt0)
  | 0x34, 0 => (.rptget w rd rt, z || rs0)
  | 0x34, 1 => (.rptcnt w rd, z || rs0 || rt0)
  | 0x35, 0 => (.grant w rd rs rt, z)
  | 0x36, 0 => (.rngwin w rd rs rt, z)
  | 0x36, 1 => (.rngtail w rd rs, z || rt0)
  | 0x37, 0 => (.precut w rd rs rt, z)
  | 0x38, _ => (.sealMap w true, anyOf v 0x03FFFFFF#32)
  | _, _ => (.halt w, false)

/-- The row that a word of winder `w` spells, and whether the word has an RSV bit set (R194). A word whose opcode or func is not assigned
executes as HALT (R195, R219). -/
def wordInstr (w : Fin 80) (v : Word) : Instr × Bool :=
  let rd := wf v 21 5
  let rs := wf v 16 5
  let rt := wf v 11 5
  let vd := wf v 21 4
  let imm := wf v 0 16
  let pi := v.getLsbD 15
  let disp := wf v 0 15
  let low := anyOf v 0x000007FF#32
  let vd4 := v.getLsbD 25
  match (wf v 26 6).toNat with
  | 0x00 => (.add w rd rs rt, low)
  | 0x01 => (.sub w rd rs rt, low)
  | 0x02 => (.andR w rd rs rt, low)
  | 0x03 => (.orR w rd rs rt, low)
  | 0x04 => (.xorR w rd rs rt, low)
  | 0x05 => (.shl w rd rs rt, low)
  | 0x06 => (.shr w rd rs rt, low)
  | 0x07 => (.sar w rd rs rt, low)
  | 0x08 => (.mul w rd rs rt, low)
  | 0x09 => (.mulhu w rd rs rt, low)
  | 0x0A => (.minu w rd rs rt, low)
  | 0x0B => (.maxu w rd rs rt, low)
  | 0x0C => (.slt w rd rs rt, low)
  | 0x0D => (.sltu w rd rs rt, low)
  | 0x0E => (.subsat w rd rs rt, low)
  | 0x0F => (.mfs w rd rs, anyOf v 0x0000FFFF#32)
  | 0x10 => (.addi w rd rs imm, false)
  | 0x11 => (.andi w rd rs imm, false)
  | 0x12 => (.ori w rd rs imm, false)
  | 0x13 => (.xori w rd rs imm, false)
  | 0x14 => (.lui w rd imm, anyOf v 0x001F0000#32)
  | 0x15 => wordShift w v
  | 0x16 => (.slti w rd rs imm, false)
  | 0x17 => (.sltiu w rd rs imm, false)
  | 0x18 => (.ldw w rd rs pi disp, false)
  | 0x19 => (.stw w rd rs pi disp, false)
  | 0x1A => (.ldv w vd rs pi disp, vd4)
  | 0x1B => (.stv w vd rs pi disp, vd4)
  | 0x1C => (.lda w rd rs pi disp, false)
  | 0x1D => (.sta w rd rs pi disp, false)
  | 0x1E => (.ldav w vd rs pi disp, vd4)
  | 0x1F => (.ldag w vd (wf v 16 4) pi disp, vd4 || v.getLsbD 20)
  | 0x20 => (.beq w rd rs imm, false)
  | 0x21 => (.bne w rd rs imm, false)
  | 0x22 => (.blt w rd rs imm, false)
  | 0x23 => (.bge w rd rs imm, false)
  | 0x24 => (.bltu w rd rs imm, false)
  | 0x25 => (.bgeu w rd rs imm, false)
  | 0x26 =>
    if v.getLsbD 15 then (.jalr w rd rs, anyOf v 0x00007FFF#32) else (.jal w rd (wf v 0 12), anyOf v 0x001F7000#32)
  | 0x27 =>
    if v.getLsbD 25 then (.loopi w (wf v 13 12) (wf v 0 12), v.getLsbD 12) else (.loopR w (wf v 20 5) (wf v 0 12), anyOf v 0x000FF000#32)
  | 0x28 => wordValu w v
  | 0x29 => wordVcmp w v
  | 0x2A => wordVsel w v
  | 0x2B => wordVred w v
  | 0x2C => wordVlane w v
  | 0x2D => wordVpred w v
  | 0x2E => (.halt w, false)
  | 0x2F => (.halt w, false)
  | 0x3C => (.wait w rs imm, anyOf v 0x03E00000#32)
  | 0x3D => (.sample w imm, anyOf v 0x03FF0000#32)
  | 0x3E => (.halt w, anyOf v 0x03FFFFFF#32)
  | 0x3F => (.halt w, false)
  | _ => wordSched w v

end Sys2Proof.Machine
end

