-- ==== Sys2Proof/Machine/Winder.lean ====
section
/-! DEFINITION. Winders (chapters 05 and 06): registers and memories, issue and scoreboard (R197, R198, R220), program starts,
images and swaps, faults and takeover, the winder commands. -/
namespace Sys2Proof.Machine
open Sys2Proof

/-! ### Registers and memories (R191, R193) -/

/-- Scalar register; g0 reads as zero. -/
def Winder.rg (x : Winder) (n : BitVec 5) : Word := if n = 0 then 0 else sget (fun _ => 0#32) x.g n.toNat
/-- Writes a scalar register; a write to g0 is discarded. -/
def Winder.setG (x : Winder) (n : BitVec 5) (v : Word) : Winder :=
  if n = 0 then x else { x with g := sset (fun _ => 0#32) x.g n.toNat v }
/-- Lane `i` of a vector register. -/
def Winder.rv (x : Winder) (n : BitVec 4) (i : Nat) : Word := sget (fun _ => 0#32) x.v (n.toNat * 8 + i)
/-- Writes one lane of a vector register. -/
def Winder.setV (x : Winder) (n : BitVec 4) (i : Nat) (v : Word) : Winder :=
  { x with v := sset (fun _ => 0#32) x.v (n.toNat * 8 + i) v }
/-- Writes all eight lanes. -/
def Winder.setVs (x : Winder) (n : BitVec 4) (f : Nat → Word) : Winder :=
  (List.range 8).foldl (fun x i => x.setV n i (f i)) x
/-- Predicate register. -/
def Winder.rp (x : Winder) (n : BitVec 2) : Byte := sget (fun _ => 0#8) x.p n.toNat
def Winder.setP (x : Winder) (n : BitVec 2) (v : Byte) : Winder := { x with p := sset (fun _ => 0#8) x.p n.toNat v }
/-- Word of local data memory that holds byte address `a`. -/
def Winder.lw (x : Winder) (a : Nat) : Word := sget (fun _ => 0#32) x.lmem (a / 4)
def Winder.setLw (x : Winder) (a : Nat) (v : Word) : Winder := { x with lmem := sset (fun _ => 0#32) x.lmem (a / 4) v }
/-! ### Issue (R197, R198, R220) -/

/-- Scoreboard keys of registers; g0 is always ready. -/
def kG (n : BitVec 5) : List Nat := if n = 0 then [] else [n.toNat]
def kV (n : BitVec 4) : List Nat := [32 + n.toNat]
def kP (n : BitVec 2) : List Nat := [48 + n.toNat]

/-- First cycle in which an instruction that uses these registers can issue (R197). -/
def Winder.issueAt (x : Winder) (keys : List Nat) : Nat :=
  keys.foldl (fun t k => max t (sget (fun _ => 0) x.ready k)) x.cycle

/-- Marks registers ready `lat` cycles after issue. -/
def Winder.writes (x : Winder) (t lat : Nat) (keys : List Nat) : Winder :=
  { x with ready := keys.foldl (fun m k => sset (fun _ => 0) m k (t + lat)) x.ready }

/-- The step of hardware loops when the instruction at `pc` issues (R209): next pc, loop stack. -/
def loopStep (pc : Nat) : List LoopEnt → Nat × List LoopEnt
  | [] => ((pc + 1) % 4096, [])
  | e :: es =>
    if pc = e.stop then
      if 1 < e.left then (e.start, { e with left := e.left - 1 } :: es) else loopStep pc es
    else ((pc + 1) % 4096, e :: es)

/-- After an instruction that falls through: issue cost, next pc (R197, R209). -/
def Winder.retire (x : Winder) (t cost : Nat) : Winder :=
  let (pc, ls) := loopStep x.pc.toNat x.loops
  { x with pc := BitVec.ofNat 12 pc, loops := ls, cycle := t + cost }

/-- After an instruction that goes to `pc`. -/
def Winder.jump (x : Winder) (t cost pc : Nat) : Winder := { x with pc := BitVec.ofNat 12 pc, cycle := t + cost }

/-- An instruction of winder `w` that uses these registers issues, unless the winder is not running a program or the seal
point comes first (R163); `adj` delays it for a port it needs; `f` gets the issue cycle. The profiler sees the issue (R459). -/
def Dev.issue (d : Dev) (w : Nat) (keys : List Nat) (adj : Winder → Nat → Nat) (f : Nat → Winder → Dev → Option Dev) : Option Dev :=
  let x := d.winder w
  if !d.winderUp w || !x.running then some d
  else
    let t := adj x (x.issueAt keys)
    if x.rem0 ≤ t then some d else f t x (d.profIssue w t)

/-- No port delays the instruction. -/
def noWait (_ : Winder) (t : Nat) : Nat := t

/-- An instruction that changes only its winder. -/
def Dev.issueW (d : Dev) (w : Nat) (keys : List Nat) (f : Nat → Winder → Winder) : Option Dev :=
  d.issue w keys noWait fun t x d1 => some (d1.setWinder w (f t x))

/-! ### The word at the program counter (R194, R195, R218, R240) -/

/-- The instruction word at the program counter of winder `w`, in the active half of the tree port it serves (R196). -/
def Dev.wordAt (d : Dev) (w : Nat) : Word :=
  let x := d.winder w
  x.iw (d.port x.port).wnd.half x.pc.toNat

/-- A row as a word spells it: whether a late SEAL is honoured is no part of the word (R161). -/
def Instr.spelled : Instr → Instr
  | .sealMap w _ => .sealMap w true
  | i => i

/-- Winder `w` is running a program and the word at its program counter spells the row `i`. -/
def Dev.atRow (d : Dev) (w : Fin 80) (i : Instr) : Bool :=
  d.winderUp w.val && (d.winder w.val).running && (wordInstr w (d.wordAt w.val)).1 == Instr.spelled i

/-- A mistake of a program or an image (R218): the tree port's maps may hold any accepted grants, or be missed seals, until another image is
active (Tables 5-12, 6-21). -/
def Dev.oliolMistake (d : Dev) (w : Nat) : Dev :=
  let p := (d.winder w).port
  (d.spoil (.maps p w)).modPort p fun q => { q with wnd := { q.wnd with wild := true } }

/-- GRANT and RNGWIN go to the map builder. -/
def Instr.toBuilder : Instr → Bool
  | .grant .. => true
  | .rngwin .. => true
  | _ => false

/-- A row on a winder that is not at it: a GRANT or RNGWIN still on its way when the seal point ended the run is discarded and counted
(R163). -/
def Dev.lateRow (d : Dev) (w : Fin 80) (i : Instr) : Dev :=
  let x := d.winder w.val
  if d.winderUp w.val && !x.running && x.late && Instr.toBuilder i && (wordInstr w (d.wordAt w.val)).1 == i then
    (d.setWinder w.val (x.retire x.cycle 0)).countPort x.port 0x24C
  else d

/-- What an Oliol row does: nothing on a winder that is not running a program or whose next word spells another row; a word with an RSV bit
set, and an instruction that breaks Table 6-21 (`none`), are mistakes. -/
def Dev.oliol (d : Dev) (w : Fin 80) (i : Instr) (r : Option Dev) : Dev :=
  if !d.atRow w i then d.lateRow w i
  else if (wordInstr w (d.wordAt w.val)).2 then d.oliolMistake w.val
  else r.getD (d.oliolMistake w.val)

/-- An Oliol row. -/
def State.oliol (s : State) (w : Fin 80) (i : Instr) (r : Option Dev) : Host.Outcome State Fault Refusal := s.next (s.dev.oliol w i r)

/-! ### Program starts, swaps (R162, R188, R192) -/

/-- Image in a slot. -/
def WndPort.img (x : WndPort) (half : Bool) : Image := if half then x.img1 else x.img0

/-- Local data memory with an image's initialiser (R239): bytes 0 to DSIZE - 1, the rest unchanged. -/
def initLmem (m : Sparse Word) (data : Bytes) : Sparse Word :=
  (List.range (data.length / 4)).foldl (fun m k => sset (fun _ => 0#32) m k (BitVec.ofNat 32 (fld data (4 * k) 4))) m

/-- Instruction memory with an image's code in a half (R187, R196). -/
def loadHalf (m : Sparse Word) (half : Bool) (code : List Word) : Sparse Word :=
  code.zipIdx.foldl (fun m e => sset imemDflt m (b2n half * 4096 + e.2) e.1)
    (sclear (fun k => decide (k / 4096 = b2n half)) m)

/-- CLEAR_SCHED (R188, R226): the calendar, the virtual-time unit and every SCRATCH. -/
def WndPort.clearSched (x : WndPort) : WndPort :=
  { x with cal := [], v := 0, shift := 8, alloc := x.alloc.filter fun e => decide (e.1 % 16 < 12) }
/-- The link words of the calendar, local bytes 0xE000-0xFFFF, zeroed (R226). -/
def clearLinks (m : Sparse Word) : Sparse Word := sclear (fun k => decide (0x3800 ≤ k)) m

/-- The link words of the calendar are not all zero. -/
def linksSet (m : Sparse Word) : Bool := m.any fun e => decide (0x3800 ≤ e.1)

/-- The swap due at a program start (R188). An image that breaks Table 5-12 opens the maps until another image is active; an initialiser that
reaches 0xE000, or link words left over without CLEAR_SCHED, open the calendar (Table 7-9). -/
def Dev.doSwap (d : Dev) (p : Nat) : Dev :=
  let q := d.port p
  match q.wnd.swap with
  | none => d
  | some sw =>
    if q.sfc < sw.sfc then d
    else
      let w := q.wnd.winder
      let x := d.winder w
      let img := q.wnd.img (!q.wnd.half)
      let m1 := if sw.initData then initLmem x.lmem img.data else x.lmem
      let m2 := if sw.clearSched then clearLinks m1 else m1
      let wp := { q.wnd with
        half := !q.wnd.half, image := true, swap := none, firstSfc := q.sfc, wild := img.bad
        calOpen := (sw.initData && decide (0xE000 < img.data.length)) || (!sw.clearSched && (q.wnd.calOpen || linksSet m2)) }
      ((d.setWinder w { x with lmem := m2 }).modPort p fun q =>
        { q with wnd := if sw.clearSched then wp.clearSched else wp }).complete sw.tag stOk (sfc8 q.sfc)

/-- Registers at a program start (R162, R191, R192). -/
def Winder.startRun (x : Winder) (q : Port) (cyc rem : Nat) : Winder :=
  { x with
    running := true, late := false, pc := BitVec.ofNat 12 (q.wnd.img q.wnd.half).entry, g := [], v := [], p := [], loops := []
    cyc0 := cyc, rem0 := rem, cycle := 0, ready := [], portFree := 0, loads := [], calFree := 0, localFree := 0
    frameNo := BitVec.ofNat 32 q.sfc - BitVec.ofNat 32 q.wnd.firstSfc, sfc := q.sfc, allocN := q.wnd.valids.length }

/-- A program start on the serving winder (R162). -/
def Dev.startProgram (d : Dev) (p cyc rem : Nat) : Dev :=
  let q := d.port p
  let d1 := d.modWinder q.wnd.winder fun x => x.startRun q cyc rem
  (d1.modPort p fun q => { q with wnd := { q.wnd with run := .running, runSfc := q.sfc, marks := [] } }).profRunStart p q.sfc

/-- PROGRAM_START (R162, R188): once a frame, after the cutoff, on a serving winder with an active image. -/
def Dev.programStart (d : Dev) (p cyc rem : Nat) : Dev :=
  let q := d.port p
  if !d.portUp p || q.wnd.run != .none || q.wnd.takeover.isSome || (d.winder q.wnd.winder).st != 1 || !q.counting then d
  else
    let d1 := d.doSwap p
    if !(d1.port p).wnd.image then d1
    else d1.startProgram p cyc rem

/-! ### Faults and takeover (R183 to R186, R509) -/

/-- The tree port a winder serves, when it serves one. -/
def Winder.serves (x : Winder) : Option Nat := if x.st = 1 then some x.port else none
/-- The idle spare of a cluster. -/
def Dev.spareOf (d : Dev) (c : Nat) : Option Nat := ((List.range 5).map (5 * c + ·)).find? fun w => (d.winder w).st == 0

/-- A checkpoint that was being written is lost, and the reports of its run return (R171, R185). -/
def WndPort.loseCkpt (x : WndPort) : WndPort :=
  { x with ckptPend := none, rptQ := mergeRpts x.ckptRpts x.rptQ, ckptRpts := [] }

/-- The faulted frame: this one, or the next when its SEAL has been executed (R183). -/
def WndPort.strike (x : WndPort) : WndPort :=
  match x.run with
  | .sealedOk => { x with faultNext := true }
  | .halted => x
  | _ => { x with run := .faulted, rptQ := mergeRpts (x.rptFetched ++ x.rptSet) x.rptQ, rptFetched := [], rptSet := [], marks := [] }

/-- WND_FAULT (Table 5-7). -/
def Dev.wndFault (d : Dev) (w cause port : Nat) (sfc : Nat) : Dev :=
  d.emit 0x8304 (srcOf 2 w) (le 1 cause ++ le 1 port ++ le 6 0 ++ sfc8 sfc)

/-- The frame a fault belongs to (R183): this one, or the next once its SEAL has been executed or its seal point has passed. -/
def Port.faultSfc (q : Port) : Nat := if q.wnd.run == .sealedOk || q.wnd.past then q.nextSfc else q.sfc

end Sys2Proof.Machine
end

