-- ==== Sys2Proof/Machine/Upstream.lean ====
section
/-! DEFINITION. The upstream path (chapter 08): acquisition of granted bursts, the LDPC pool, delineation, policing, the hand-off
to the hub, missed-burst records. -/
namespace Sys2Proof.Machine
open Sys2Proof

/-! ### Missed bursts and the end of a lane's upstream frame -/

/-- Writes a missed-burst log entry (R261). -/
def Dev.logMissed (d : Dev) (p : Nat) (g : Grant) (sfc cause : Nat) (isPartial : Bool) : Dev :=
  d.modPort p fun q => { q with ups := { q.ups with
    mbLog := sset (fun _ => {}) q.ups.mbLog (q.ups.widx.toNat % 8192)
      { ri := g.ri, allocId := g.allocId, lane := g.lane.code, cause := cause, isPartial := isPartial, sfc := sfc }
    widx := q.ups.widx + 1 } }

/-- UPS_MISSED_BURSTS (R262); a die that is cut off reports none (R261). -/
def Dev.emitMissed (d : Dev) (p : Nat) (f : FrameTally) : Dev :=
  d.emitPort p 0x0401 (le 2 f.lane.code ++ le 2 f.missed ++ le 4 f.first ++ sfc8 f.sfc)

/-- LOS_FRAMES; 0 acts as 1 (Table 3-13). -/
def Port.losLimit (q : Port) : Nat := max 1 q.losFrames.toNat

/-- Every granted burst of one lane's upstream frame has been received or missed (R113, R148, R262). DESIGN CHOICE (log entry 46): a frame
in which no ranged terminal of the lane had a granted burst neither counts towards the 8 frames of R148 nor breaks their run. -/
def Dev.closeFrame (d : Dev) (p : Nat) (f : FrameTally) : Dev :=
  let q := d.port p
  let d1 := d.modPort p fun q =>
    { q with ups := { q.ups with frames := dropFirst (fun e => e.lane == f.lane && e.sfc == f.sfc) q.ups.frames } }
  let d1 := d1.burstResults p f
  let d2 := if 0 < f.missed && !d.deputy p && !d.dieLost (dieOfPort p) then d1.emitMissed p f else d1
  let d3 :=
    if f.sampled = 0 || d.deputy p then d2
    else
      let n := if f.sdSeen then 0 else (q.lane f.lane).losCount + 1
      let d4 := d2.modPort p fun q => q.modLane f.lane fun x => { x with losCount := n }
      if !(q.lane f.lane).los && decide (q.losLimit ≤ n) then
        (d4.modPort p fun q => q.modLane f.lane fun x => { x with los := true }).emitPort p 0x0101
          (le 4 f.lane.code ++ sfc8 f.sfc)
      else d4
  if f.rngBursts = 0 then d3
  else
    let n := if f.rngMeasured = 0 && f.rngSd == f.rngBursts then (q.lane f.lane).missCount + 1 else 0
    let d5 := d3.modPort p fun q => q.modLane f.lane fun x => { x with missCount := n }
    if n = 8 then d5.emitPort p 0x8207 (le 8 f.lane.code ++ sfc8 f.sfc) else d5

/-- Changes the tally of the frame a slot belongs to, and closes it when its last burst is settled. -/
def Dev.tallyFrame (d : Dev) (p : Nat) (s : AcqSlot) (f : FrameTally → FrameTally) : Dev :=
  let isIt (e : FrameTally) : Bool := e.lane == s.g.lane && e.sfc == s.sfc
  match (d.port p).ups.frames.find? isIt with
  | none => d
  | some e =>
    let e1 := f e
    let d1 := d.modPort p fun q => { q with ups := { q.ups with frames := modWhere isIt (fun _ => e1) q.ups.frames } }
    if e1.left = 0 then d1.closeFrame p e1 else d1

/-- Drops a slot. -/
def Dev.dropSlot (d : Dev) (p id : Nat) : Dev :=
  d.modPort p fun q => { q with ups := { q.ups with slots := q.ups.slots.filter fun s => s.id != id } }

/-- A granted burst is missed (R261, R262); on a standby tree it leaves no record (R398). -/
def Dev.missSlot (d : Dev) (p : Nat) (s : AcqSlot) (cause : Nat) (isPartial : Bool := false) : Dev :=
  let w := (d.port p).ups.widx.toNat
  let d1 := if d.deputy p then d else (d.logMissed p s.g s.sfc cause isPartial).countPort p 0x344
  (d1.dropSlot p s.id).tallyFrame p s fun f =>
    { f with left := f.left - 1, missed := f.missed + 1, first := if f.missed = 0 then w else f.first
             res := f.res ++ [(s.id, false, 0)] }

/-- Every granted burst of a lane still outstanding is missed (drain end, role change). -/
def Dev.missAll (d : Dev) (p : Nat) (cause : Nat) (sel : AcqSlot → Bool) : Dev :=
  ((d.port p).ups.slots.filter sel).foldl (fun d s => d.missSlot p s cause) d

/-- Creates the acquisition slots of a map as its frame header leaves (chapter 08). -/
def Port.openSlots (q : Port) (l : Lane) (gs : List Grant) : Port :=
  if gs.isEmpty then q
  else
    let n0 := q.ups.slotNext
    let new : List AcqSlot := gs.zipIdx.map fun e => { id := n0 + e.2, g := e.1, sfc := q.sfc }
    { q with ups := { q.ups with
      slots := q.ups.slots ++ new
      slotNext := n0 + gs.length
      frames := q.ups.frames ++ [{ lane := l, sfc := q.sfc, left := gs.length }] } }

/-! ### Sideband of a burst (R110, R111, R114) -/

/-- A frame of the map with superframe counter `sfc`, on one time line, in units of 10^-5 f. -/
def lineAt5 (sfc : Nat) (x : Int) : Int := ((sfc : Int) * frameF + x) * 100000
/-- 0.8 ns in units of 10^-5 f. -/
def step5 : Int := 63700992

/-- A of a slot in f after F_M, with the delays in force now (R132, R144). -/
def Port.slotA (q : Port) (s : AcqSlot) : Int :=
  let t := q.term s.g.term
  arrivalA (q.lane s.g.lane).gen s.g.prof t.rtd t.eqd s.g.start

/-- BRST_PULSE (R110, R111): the pulse of a granted burst, merged with the previous one when they would touch. -/
def Dev.brstPulse (d : Dev) (p id : Nat) : Dev :=
  let q := d.port p
  match q.ups.slots.find? fun s => s.id == id && !s.pulsed with
  | none => d
  | some s =>
    let l := s.g.lane
    let r := (match l with | .main => q.brstM | .comp => q.brstC).toNat
    let start := lineAt5 s.sfc (q.slotA s) - (r % 256 : Nat) * step5
    let stop := start + (r / 256 % 64 + 4 : Nat) * step5
    let d1 := d.modPort p fun q =>
      { q with ups := { q.ups with slots := modWhere (fun e => e.id == id) (fun e => { e with pulsed := true }) q.ups.slots } }
    let (merge, s0) := match (q.lane l).brstEnd with
      | some e => (decide (start < e + 2 * step5), (q.lane l).brstStart)
      | none => (false, start)
    if merge then
      ((d1.modPort p fun q => q.modLane l fun x => { x with brstEnd := some (max stop (x.brstEnd.getD stop)) }).countTree p 0x4C).send
        (.brst p l s0 stop)
    else (d1.modPort p fun q => q.modLane l fun x => { x with brstStart := start, brstEnd := some stop }).send (.brst p l start stop)

/-- A write of TREE_RSSI in cycle `now` (R114, Table 3-13): DONE is cleared by `clr`; ARM written 1 while it is 1 changes nothing else, and ARM
written 0 cancels the watch. A write in the cycle in which RSSI_TRIG fires comes first: DONE stays 1, and ARM written 1 reads 0 (R504). -/
def Port.rssiWrite (q : Port) (now term : Nat) (arm clr : Bool) : Port :=
  let fired := q.firedAt == some now
  let q1 := { q with rssiDone := q.rssiDone && (!clr || fired) }
  if (q.rssiArm || fired) && arm then q1 else { q1 with rssiTerm := term, rssiArm := arm }

/-- RSSI_TRIG_FIRE (R114): for the next granted burst of the armed terminal, one that has not been received, on the lane of that terminal's
record. -/
def Dev.rssiFire (d : Dev) (p id : Nat) : Dev :=
  let q := d.port p
  match q.ups.slots.find? fun s => s.id == id && !s.received && s.g.term == q.rssiTerm && s.g.lane == (q.term q.rssiTerm).lane with
  | none => d
  | some s =>
    if !q.rssiArm then d
    else
      let r := q.rssiTime.toNat
      ((d.modPort p fun q => { q with rssiArm := false, rssiDone := true, firedAt := some d.now }).emitPort p 0x0104
        (le 2 q.rssiTerm ++ le 2 s.g.ri ++ sfc8 s.sfc)).send
        (.rssi p (lineAt5 s.sfc (q.slotA s) + (r % 2 ^ 14 : Nat) * step5) (r / 2 ^ 16 % 2 ^ 14))

/-! ### Acquisition (R112, R113, R143, R241 to R244) -/

/-- DEL_ERR and MAXLEN of UPS_CTRL (Table 8-7). -/
def UpsPort.delErr (u : UpsPort) : Nat := u.ctrl.toNat % 8
def UpsPort.maxLen (u : UpsPort) : Nat := bitsOf u.ctrl.toNat 29 16
def UpsPort.ploamRing (u : UpsPort) : Nat := bitsOf u.ctrl.toNat 7 4
def UpsPort.omciRing (u : UpsPort) : Nat := bitsOf u.ctrl.toNat 11 8

/-- The position R143 selects: nearest to its expected instant, E before E_new, then the earlier. The result says whether it
is one measured against E_new. -/
def selectDel (e : Int) (eNew : Option Int) (k : Int) (cands : List Int) : Option (Int × Bool) :=
  let inside (c : Int) (m : Int) : Bool := decide (c - k ≤ m ∧ m < c + k)
  let opts : List (Nat × Nat × Int) :=
    (cands.filter (inside e)).map (fun m => ((m - e).natAbs, 0, m)) ++
    (match eNew with | none => [] | some n => (cands.filter (inside n)).map (fun m => ((m - n).natAbs, 1, m)))
  let lt (a b : Nat × Nat × Int) : Bool :=
    decide (a.1 < b.1 ∨ (a.1 = b.1 ∧ (a.2.1 < b.2.1 ∨ (a.2.1 = b.2.1 ∧ a.2.2 < b.2.2))))
  ((sortBy lt opts).head?).map fun m => (m.2.2, m.2.1 == 1)

/-- Where frame `a` starts on the time line of frame `b`, in f: the same frame or one beside it; others do not meet. -/
def frameShift (a b : Nat) : Option Int :=
  if a = b then some 0
  else if (a + 1) % 2 ^ 51 = b then some (-(frameF : Int))
  else if (b + 1) % 2 ^ 51 = a then some (frameF : Int)
  else none

/-- Delimiter positions that the previous acquisition or a window does not prevent, those of the frames beside it among them (R244). -/
def Port.unblocked (q : Port) (s : AcqSlot) (cands : List Int) : List Int :=
  let x := q.lane s.g.lane
  let gen := x.gen
  let a := q.slotA s
  let len : Int := (s.g.prof.hdrBits * bitF gen s.g.prof.rate + s.g.size * wordF gen : Nat)
  let free (m : Int) (w : Nat × Win) : Bool :=
    (frameShift w.1 s.sfc).all fun k =>
      let lo := q.teqdEff + k + (w.2.o * wordF gen : Nat)
      let hi := lo + (w.2.len * wordF gen : Nat)
      !meets (a, a + len) (lo, hi) || decide (hi ≤ m)
  cands.filter fun m => (x.acqEnd.all fun e => (frameShift x.acqSfc s.sfc).all fun k => decide (e + k ≤ m)) && x.winsOut.all (free m)

/-- Codewords of a burst (R245, R246). -/
def burstCodewords (gen : Nat) (g : Grant) : Nat :=
  if gen = 1 && g.prof.fec then ceilDiv (g.size * bitsPerWord gen g.prof.rate) 17280 else 0

/-- The burst's record shares its ALLOC_ID with another VALID one of the lane, or its lane is not that of its terminal: the burst may be lost
(Table 5-12). -/
def Port.doubtful (q : Port) (g : Grant) : Bool :=
  decide (2 ≤ (q.wnd.valids.filter fun r => q.wnd.rAllocId r == g.allocId && laneOf (q.wnd.rLane r) == g.lane).length) ||
    ((q.term g.term).state != 0 && (q.term g.term).lane != g.lane)

/-- The first upstream burst after a promotion ends the fail-over (R399) and a planned switch (R389). -/
def Dev.firstBurst (d : Dev) (p : Nat) : Dev :=
  let x := d.tree p
  if x.role != 1 || !(x.failover || x.plan == .promoted) then d
  else
    let d1 := d.modTree p fun x => { x with failover := false, plan := if x.plan == .promoted then .none else x.plan }
    if x.plan == .promoted then d1.endRole p stOk else d1

/-- BURST_ACQUISITION (R112, R113, R143 to R148, R241 to R244). -/
def Dev.acquire (d0 : Dev) (p id : Nat) (o : BurstObs) : Dev :=
  let q := d0.port p
  match q.ups.slots.find? fun s => s.id == id && !s.received with
  | none => d0
  | some s =>
    let (gone, d) := if q.doubtful s.g then d0.pick 1 else (0, d0)
    let l := s.g.lane
    let gen := (q.lane l).gen
    let pr := s.g.prof
    let bit := bitF gen pr.rate
    let t := q.term s.g.term
    let d1 := if o.sd then
        let d2 := ((d.tallyFrame p s fun f => { f with sampled := f.sampled + 1, sdSeen := true }).hear p).firstBurst p
        if (q.lane l).los && !d.deputy p then
          (d2.modPort p fun q => q.modLane l fun x => { x with los := false, losCount := 0 }).emitPort p 0x0102
            (le 4 l.code ++ sfc8 s.sfc)
        else d2
      else (d.tallyFrame p s fun f => { f with sampled := f.sampled + 1 }).countTree p 0x54
    let d3 := if t.ranged then
        (d1.tallyFrame p s fun f => { f with rngBursts := f.rngBursts + 1, rngSd := f.rngSd + b2n o.sd }).modPort p fun q =>
          q.corrPassed s.g.term s.sfc
      else d1
    let e := expectE gen pr t.rtd t.eqd s.g.start
    let eNew := if t.state = 4 then some (expectE gen pr t.rtd t.eqdPend s.g.start) else none
    let cands := if gone = 1 then [] else q.unblocked s ((o.dels.filter fun c => decide (c.2 ≤ q.ups.delErr)).map (·.1))
    let miss (c : Nat) : Dev := (if t.ranged then d3.unmeasured p s.g.term s.sfc else d3).missSlot p s c
    if !o.lock then miss (if o.sd then 2 else 1)
    else match selectDel e eNew (searchK gen pr) cands with
      | none => miss 3
      | some (m, _) =>
        let near : Bool := eNew.any fun n => decide ((m - n).natAbs ≤ 8 * bit)
        let dr := if near then m - eNew.getD 0 else m - e
        let n := burstCodewords gen s.g
        let d4 := if t.ranged then
            (d3.tallyFrame p s fun f => { f with rngMeasured := f.rngMeasured + 1 }).measured p s.g.term s.g.ri bit dr near s.sfc
          else d3
        let d5 := d4.modPort p fun q =>
          let got (e : AcqSlot) : AcqSlot := { e with received := true, stamp := d.stamp, cwLeft := n }
          let q1 := { q with ups := { q.ups with slots := modWhere (fun e => e.id == id) got q.ups.slots } }
          q1.modLane l fun x => { x with acqSfc := s.sfc, acqEnd := some (m + (pr.delLen * 8 * bit + s.g.size * wordF gen : Nat)) }
        let d6 := (d5.hear p).firstBurst p
        let due (i : Nat) : Nat := d.now + (i + 1) * 17280 * bit * 10000 / 7962624
        d6.modCluster (p / 4) fun c =>
          { c with arriving := c.arriving ++ (List.range n).map fun i => (due i, { port := p, slot := id, idx := i }) }

/-! ### The decoder pool (R245 to R247) -/

/-- LDPC decoders of a cluster. -/
def decsOf (c : Nat) : List Nat := (List.range 5).map (5 * c + ·)
/-- The cap on iterations in force (R246); ITER_MAX 0 acts as 1 (Table 8-6). -/
def Cluster.cap (c : Cluster) : Nat := if 32 < c.queue.length then 10 else max 1 (c.iterMax.toNat % 32)

/-- The pool as it stands at time-base cycle `now`: codewords that are in have joined the queue, which holds 64 (R245). -/
def Cluster.takeIn (c : Cluster) (now : Nat) : Cluster :=
  let come := (c.arriving.filter fun e => decide (e.1 ≤ now)).take (64 - c.queue.length)
  let cq := c.queue ++ come.map (·.2)
  { c with queue := cq, qMax := max c.qMax cq.length, arriving := c.arriving.filter fun e => !come.contains e }

/-- The pool at an LDPC_DISPATCH: with an empty queue the row is the arrival of the next codeword. -/
def Cluster.arrive (c : Cluster) (now : Nat) : Cluster :=
  let x := c.takeIn now
  if x.queue.isEmpty then (match x.arriving with | [] => x | e :: _ => x.takeIn e.1) else x

/-- LDPC_DISPATCH (R245): the oldest codeword goes to the lowest-numbered idle decoder of the pool, under the cap then in force (R246). -/
def Dev.ldpcDispatch (d : Dev) (c : Nat) : Dev :=
  let x := (d.cluster c).arrive d.now
  match x.queue, (decsOf c).find? fun n => (d.dec n).st == 1 && (d.dec n).held.isNone with
  | w :: ws, some n => (d.modCluster c fun _ => { x with queue := ws }).modDec n fun y => { y with held := some w, cap := x.cap }
  | _, _ => d.modCluster c fun _ => x

/-- Changes the slot a codeword belongs to. -/
def Dev.modSlot (d : Dev) (w : Codeword) (f : AcqSlot → AcqSlot) : Dev :=
  d.modPort w.port fun q => { q with ups := { q.ups with slots := modWhere (fun e => e.id == w.slot) f q.ups.slots } }

/-- A codeword is lost to its burst (R249). -/
def AcqSlot.lose (s : AcqSlot) (i : Nat) : AcqSlot := { s with cwLeft := s.cwLeft - 1, cwLost := some (min i (s.cwLost.getD i)) }

/-- The decoder reports a zero syndrome: it sees one no later than at its cap (R246). -/
def Decoder.zeroReported (x : Decoder) (o : DecodeObs) : Bool := o.zeroAt.any fun i => decide (i ≤ x.cap)

/-- A decoder ends a codeword that it keeps (R246): what its slot keeps, and the counters. -/
def Dev.decodeEnd (d : Dev) (n : Nat) (w : Codeword) (zero corrected : Bool) : Dev :=
  let d0 := d.modDec n fun x => { x with held := none }
  let d1 := if d0.deputy w.port then d0 else d0.count (decBase n + 4)
  let d2 := d1.modSlot w fun s => { s with cwLeft := s.cwLeft - 1, uncorr := if zero then s.uncorr else w.idx :: s.uncorr }
  if !zero then d2.countTree w.port 0x34C
  else if corrected then d2.countTree w.port 0x348 else d2

/-- A decoder ends a codeword. With an ITER_MAX above 16 the burst may be lost (Table 8-10). -/
def Dev.decodeGood (d : Dev) (n : Nat) (w : Codeword) (o : DecodeObs) : Dev :=
  let zero := (d.dec n).zeroReported o
  if (d.cluster (n / 5)).iterMax.toNat % 32 ≤ 16 then d.decodeEnd n w zero o.corrected
  else
    let (k, d1) := d.pick 1
    if k = 0 then d1.decodeEnd n w zero o.corrected
    else (d1.modDec n fun x => { x with held := none }).modSlot w fun s => s.lose w.idx

/-! ### Delineation (R250 to R257) -/

/-- The flow record that maps a frame of a lane (R252). -/
def Port.mapFlow (q : Port) (l : Lane) (wireId term : Nat) : Option Nat :=
  (q.ups.flows.find? fun e => e.2.flags.getLsbD 0 && !e.2.flags.getLsbD 2 && e.2.lane == l.code && e.2.wireId == wireId
    && e.2.term == term).map (·.1)

/-- The policer's token count now, in 10^-6 bytes (R257): CIR is in 64 kb/s, that is 8 bytes a ms. -/
def Flow.tNow (x : Flow) (now : Nat) : Nat := min (x.cbs * 1000000) (x.t + (now - x.tAt) * x.cir * 8)

/-- Judges a frame (R257): the verdict and the record after it. -/
def Flow.judge (x : Flow) (now len : Nat) : Bool × Flow :=
  if !x.flags.getLsbD 4 then (true, x)
  else
    let t := x.tNow now
    if len * 1000000 ≤ t then (true, { x with t := t - len * 1000000, tAt := now }) else (false, { x with t := t, tAt := now })

def Dev.modFlow (d : Dev) (p k : Nat) (f : Flow → Flow) : Dev :=
  d.modPort p fun q => { q with ups := { q.ups with flows := sset (fun _ => {}) q.ups.flows k (f (q.flow k)) } }

/-- The forwarding pipeline of upstream frames of tree port `p` (R260). -/
def Dev.upPipe (d : Dev) (p : Nat) : Nat :=
  let g := p / 16
  if d.cls.pipeDown.contains g then ((List.range 4).find? fun f => !d.cls.pipeDown.contains f).getD g else g

/-- A whole upstream frame of a flow: OMCI is punted (R256), the rest policed (R257) and handed to the hub (R260). -/
def Dev.upFrame (d : Dev) (m : Sparse Byte) (p k term : Nat) (data : Bytes) (stamp : Dword) : Dev :=
  let x := (d.port p).flow k
  let h := p * 2 ^ 14 + k
  if x.flags.getLsbD 3 then
    ((d.puntFrame m (d.port p).ups.omciRing 0x0002 (2 ^ 28 + h) data stamp).countFlow h 0).countFlow h 1 data.length
  else
    let (ok, x1) := x.judge d.now data.length
    let d1 := d.modFlow p k fun _ => x1
    if !ok then (d1.countPort p 0x364).countFlow h 2
    else
      let d2 := ((d1.countFlow h 0).countFlow h 1 data.length).winCount p false data.length (stampNs stamp)
      { d2 with cls := { d2.cls with inQ := d2.cls.inQ ++
        [{ pipe := d2.upPipe p, upstream := true, num := h, term := term, data := data, stamp := stamp }] } }

/-- The reassembly state of a flow (R254). -/
def Port.reasmOf (q : Port) (k : Nat) : Option Reasm := sget (fun _ => none) q.ups.reasm k
def Dev.setReasm (d : Dev) (p k : Nat) (r : Option Reasm) : Dev :=
  d.modPort p fun q => { q with ups := { q.ups with reasm := sset (fun _ => none) q.ups.reasm k r } }

/-- The content of a frame under its key index (R253); its position is that of the grant and its own in the burst. -/
def Port.plain (q : Port) (s : AcqSlot) (ofs key : Nat) (data : Bytes) : Bytes :=
  let ks := q.keySlots s.g.term
  let gen := (q.lane s.g.lane).gen
  if gen = 4 || key = 0 then data
  else Config.aesCtr (if key = 1 then ks.k0 else ks.k1) true gen s.sfc (s.g.start * 2 ^ 32 + ofs) data

/-- The flow a frame mapped to flow `k` goes on; with a MAXLEN below 64 it may be dropped or go on another flow (Table 8-10). -/
def Dev.strayFlow (d : Dev) (p k : Nat) : Option Nat × Dev :=
  if 64 ≤ (d.port p).ups.maxLen then (some k, d)
  else
    let (a, d1) := d.pick 2
    let (j, d2) := d1.pick 14
    (if a = 0 then none else if a = 1 then some j else some k, d2)

/-- One XGEM or GEM frame or fragment (R252 to R254); true when bytes of it were delivered or kept. -/
def Dev.gemFrame (d0 : Dev) (m : Sparse Byte) (p : Nat) (s : AcqSlot) (ofs wireId key : Nat) (opens closes : Bool)
    (data : Bytes) : Bool × Dev :=
  let q := d0.port p
  let gen := (q.lane s.g.lane).gen
  match q.mapFlow s.g.lane wireId s.g.term with
  | none => (false, d0.countPort p 0x358)
  | some k0 =>
    let enc := (q.flow k0).flags.getLsbD 1
    if gen != 4 && (key == 3 || (key == 0 && enc)) then (false, d0.countPort p 0x35C)
    else match d0.strayFlow p k0 with
    | (none, d) => (false, d.countPort p 0x360)
    | (some k, d) =>
      let plain := q.plain s ofs key data
      let old := q.reasmOf k
      let d1 := if opens && old.isSome then (d.countPort p 0x360).setReasm p k none else d
      if !opens && old.isNone then (false, d1.countPort p 0x360)
      else
        let whole := (if opens then [] else (old.map (·.data)).getD []) ++ plain
        if q.ups.maxLen < whole.length then (false, (d1.countPort p 0x360).setReasm p k none)
        else if closes then (true, (d1.setReasm p k none).upFrame m p k s.g.term whole s.stamp)
        else (true, d1.setReasm p k (some { data := whole, allocId := s.g.allocId, lane := s.g.lane, idle := 0 }))

/-- The VALID records with a report's ALLOC_ID and lane (R251). -/
def WndPort.recsOf (x : WndPort) (l : Lane) (allocId : Nat) : List Nat :=
  x.valids.filter fun r => x.rAllocId r == allocId && x.rLane r == l.code

/-- A report taken out at delineation (R170, R251); of two records with its ALLOC_ID either may get it (Table 5-12). -/
def Dev.takeReport (d : Dev) (p : Nat) (l : Lane) (allocId : Nat) (valid : Bool) (bytes : Nat) : Dev :=
  if !valid then d.countPort p 0x354
  else match (d.port p).wnd.recsOf l allocId with
    | [] => d.countPort p 0x254
    | [r] => d.report p r bytes
    | r :: rs => (let (k, d1) := d.pick 16; d1.report p ((r :: rs).getD (k % (rs.length + 1)) r) bytes)

/-- An upstream PLOAM message, with the terminal ID put before it: counted and punted whole (R251). -/
def Dev.takePloam (d : Dev) (m : Sparse Byte) (p : Nat) (l : Lane) (t : Nat) (msg : Bytes) (stamp : Dword) : Dev :=
  (d.countPort p 0x368).puntFrame m (d.port p).ups.ploamRing 0x0001 (2 ^ 28 + p * 2 ^ 14)
    (le 1 p ++ le 1 l.code ++ le 2 t ++ msg) stamp

/-- Serial-number responses of a discovery window, and the response of a ranging window, are punted like every upstream message (R251).
A responder in a discovery window has no terminal ID of its own: the ID in the punted frame is a free value (log entry 5). -/
def Dev.puntResponses (d : Dev) (m : Sparse Byte) (p : Nat) (l : Lane) (ranging : Bool) (msgs : List Bytes) : Dev :=
  match ((d.port p).lane l).winsOut.find? fun e => e.2.req.ranging == ranging with
  | none => d
  | some (_, w) =>
    if d.deputy p then d
    else msgs.foldl (fun d msg =>
      let (t, d1) := d.pick 10
      if ranging then d.takePloam m p l w.req.term msg d.stamp else d1.takePloam m p l t msg d.stamp) d

/-- Bytes of a corrected burst that one codeword of 17,280 bits carries: 14,592 bits (Table 7-3). -/
def cwBytes : Nat := 1824

/-- What a burst that lost a codeword keeps: the items that lie wholly before it (R249). -/
def AcqSlot.kept (s : AcqSlot) (items : List PlacedItem) : List PlacedItem :=
  match s.cwLost with
  | none => items
  | some i => items.takeWhile fun x => decide (x.stop ≤ i * cwBytes)

/-- The header of an item cannot be trusted: its HEC is uncorrectable, or it lies in an uncorrectable codeword (R250). -/
def AcqSlot.untrusted (s : AcqSlot) (x : PlacedItem) : Bool :=
  match x.item with
  | .lost => true
  | .frame .. => s.uncorr.any fun i => decide (x.ofs < (i + 1) * cwBytes ∧ i * cwBytes < x.hdr)
  | _ => false

/-- The decrypted payload of a burst, to the first untrusted header (Table 13-4). -/
def Port.burstPlain (q : Port) (s : AcqSlot) (items : List PlacedItem) : Bytes :=
  ((s.kept items).takeWhile fun x => !s.untrusted x).flatMap fun x =>
    match x.item with
    | .frame _ key _ _ data => q.plain s x.ofs key.toNat data
    | _ => []

/-- The items of a burst in order, to the first untrusted header (R250); how many frames were delivered. -/
def Dev.delineate (d : Dev) (m : Sparse Byte) (p : Nat) (s : AcqSlot) (n : Nat) : List PlacedItem → Nat × Dev
  | [] => (n, d)
  | x :: is =>
    if s.untrusted x then (n, d.countPort p 0x350)
    else match x.item with
      | .lost => (n, d)
      | .frame wireId key opens closes data =>
        let r := d.gemFrame m p s x.ofs wireId.toNat key.toNat opens closes data
        r.2.delineate m p s (n + b2n r.1) is
      | .report a v b => (d.takeReport p s.g.lane a.toNat v b).delineate m p s n is
      | .ploam msg => (d.takePloam m p s.g.lane s.g.term msg s.stamp).delineate m p s n is

/-- The partial frames of an allocation as its next burst begins (R254): those that its first frame does not continue are discarded; the
others have waited no frame. -/
def Dev.burstOpens (d : Dev) (p : Nat) (s : AcqSlot) (items : List PlacedItem) : Dev :=
  let q := d.port p
  let first : Option TcItem := (items.find? fun x => match x.item with | .frame .. => true | _ => false).map (·.item)
  let goesOn (k : Nat) : Bool := match first with
    | some (.frame wireId _ opens _ _) => !opens && q.mapFlow s.g.lane wireId.toNat s.g.term == some k
    | _ => true
  let mine (e : Nat × Option Reasm) : Bool := e.2.any fun r => r.allocId == s.g.allocId && r.lane == s.g.lane
  let d1 := ((q.ups.reasm.filter fun e => mine e && !goesOn e.1).map (·.1)).foldl (fun d k => (d.setReasm p k none).countPort p 0x360) d
  d1.modPort p fun q => { q with ups := { q.ups with
    reasm := q.ups.reasm.map fun e => if mine e then (e.1, e.2.map fun r => { r with idle := 0 }) else e } }

/-- BURST_DELINEATION (R247, R249, R250): once every codeword has come back or been lost; a standby tree only keeps the result for
comparison (R398). -/
def Dev.burstDelineation (d : Dev) (m : Sparse Byte) (p id : Nat) (items : List PlacedItem) : Dev :=
  match (d.port p).ups.slots.find? fun s => s.id == id && s.received && (s.cwLeft == 0) with
  | none => d
  | some s =>
    let r := (id, true, crc32 ((d.port p).burstPlain s items))
    if d.deputy p then
      (d.dropSlot p id).tallyFrame p s fun f => { f with left := f.left - 1, res := f.res ++ [if s.cwLost.isSome then (id, false, 0) else r] }
    else
    let (n, d1) := (d.burstOpens p s (s.kept items)).delineate m p s 0 (s.kept items)
    match s.cwLost with
    | some _ => d1.missSlot p s 4 (decide (0 < n))
    | none => ((d1.countPort p 0x340).dropSlot p id).tallyFrame p s fun f => { f with left := f.left - 1, res := f.res ++ [r] }

/-- REASSEMBLY_TIMEOUT (R254): 8 frames without a burst of the allocation. -/
def Dev.reasmTimeout (d : Dev) (p k : Nat) : Dev :=
  match (d.port p).reasmOf k with
  | none => d
  | some r => if r.idle < 8 then d else (d.setReasm p k none).countPort p 0x360

/-! ### Commands -/

/-- UPS_FLOW_SET (R255): upstream at once, downstream at the next frame start. -/
def cmdUpsFlowSet (c : Tag) (obj : Word) (wireId term : Half) (lane fflags slot : Byte) (d0 : Dev) : HostCmd :=
  let p := (objFlow obj).1
  let k := (objFlow obj).2
  let q0 := d0.port p
  let new (x : Flow) : Flow :=
    { x with wireId := wireId.toNat, term := term.toNat % 1024, lane := lane.toNat, flags := fflags &&& 0x1F#8, slot := slot &&& 0x07#8 }
  let clash : Bool := fflags.getLsbD 0 && q0.ups.flows.any fun e =>
    e.1 != k && e.2.flags.getLsbD 0 && e.2.lane == lane.toNat && e.2.wireId == wireId.toNat
  { opc := 0x0401
    good := objIs obj 4 (2 ^ 20) && decide (lane.toNat ≤ 1 ∧ term.toNat % 1024 ≤ 1019 ∧ wireId.toNat ≤ 65534 ∧
      ((q0.lane (laneOf lane.toNat)).gen = 4 → wireId.toNat ≤ 4095)) && !clash
    reach := reachIf (objIs obj 4 (2 ^ 20)) (.tree p)
    body := fun d => ((d.modFlow p k new).modPort p fun q => { q with ups := { q.ups with
      dsPend := q.ups.dsPend ++ [(k, new (q.flow k))] } }).complete c stOk }

/-- UPS_POLICER_SET (R258). -/
def cmdUpsPolicerSet (c : Tag) (obj : Word) (cir cbs : Word) (pflags : Byte) (_ : Dev) : HostCmd :=
  let cirN := cir.toNat % 2 ^ 24
  let cbsN := cbs.toNat % 2 ^ 24
  { opc := 0x0402
    good := objIs obj 4 (2 ^ 20) && decide (1 ≤ cirN ∧ 64 ≤ cbsN)
    reach := reachIf (objIs obj 4 (2 ^ 20)) (.tree (objFlow obj).1)
    body := fun d => (d.modFlow (objFlow obj).1 (objFlow obj).2 fun x =>
      { x with cir := cirN, cbs := cbsN, t := if pflags.getLsbD 0 then cbsN * 1000000 else 0, tAt := d.now }).complete c stOk }

end Sys2Proof.Machine
end

