-- ==== Sys2Proof/Machine/Contain.lean ====
section
/-! DEFINITION. Containment on the tree side (chapters 01, 05, 08, 13): pending commands of a tree, fencing, release and dark hold,
promotion, winder and decoder faults and their spares, tree-side resets. -/
namespace Sys2Proof.Machine
open Sys2Proof

/-! ### Pending commands of a tree port -/

/-- Forgets what a tree port keeps for commands that end. -/
def Port.forget (q : Port) (l : List Tag) : Port :=
  let has (c : Tag) : Bool := l.contains c
  let lane (x : LaneS) : LaneS := { x with
    hostQ := x.hostQ.filter fun m => !has m.tag
    hostWait := x.hostWait.filter fun m => !has m.tag
    discPend := x.discPend.filter fun e => !has e.1 }
  let keep (k : KeyPend) : Bool := match k with
    | .load c .. => !has c
    | .bcast c .. => !has c
    | .switch c .. => !has c
  { q with
    main := lane q.main
    comp := lane q.comp
    drainWait := q.drainWait.filter fun e => !has e.1
    enableWait := q.enableWait.filter fun e => !has e.1
    keyPend := q.keyPend.filter keep
    profPend := q.profPend.filter fun e => !has e.1
    trunkPend := q.trunkPend.filter fun e => !has e.tag
    attempts := q.attempts.filter fun e => !has e.tag
    removes := q.removes.filter fun e => !has e.1
    wnd := { q.wnd with
      swap := q.wnd.swap.filter fun e => !has e.tag
      allocPend := q.wnd.allocPend.filter fun e => !has e.1
      witPend := q.wnd.witPend.filter fun e => !has e.1 } }

/-- Commands on an object of tree port `p` for which `sel` holds end ABANDONED. -/
def Dev.abandonPort (d : Dev) (p : Nat) (sel : Active → Bool) : Dev :=
  let l := (d.cmds.filter fun a => objPort a.obj == some p && sel a).map (·.tag)
  (d.modPort p fun q => q.forget l).abandonTags l

/-- The "Active only" row of Table 13-3, by opcode. -/
def activeOnlyOpc (o : Nat) : Bool := decide ((0x0105 ≤ o ∧ o ≤ 0x0108) ∨ (0x0201 ≤ o ∧ o ≤ 0x0203))

/-! ### Roles (R380, R382, R387, R399, R400) -/

/-- The mirror state of a tree starts afresh with its role. -/
def TreeProt.fresh (x : TreeProt) (role : Nat) : TreeProt :=
  { role := role, kind4 := x.kind4, heardAt := x.heardAt, shownAt := x.shownAt, plan := x.plan, fenceBy := x.fenceBy }

/-- What becomes of a planned switch as the tree leaves the active role: an asked release is done (R389), a switch to this package is over. -/
def TreeProt.leave (x : TreeProt) : TreeProt :=
  { x with plan := match x.plan with
    | .release => .released
    | .promoted => .none
    | y => y }

/-- Injected frames on the drift or in the lane buffers of a tree that fails over end ABANDONED (R83). -/
def Dev.abandonInj (d : Dev) (p : Nat) : Dev :=
  let q := d.port p
  let l := (q.main.buf ++ q.comp.buf).map (·.inj) ++ (d.dtm.onDrift.filter fun e => e.1 == p).map (·.2.2.inj)
  let bare (x : LaneS) : LaneS := { x with buf := x.buf.map fun f => { f with inj := none } }
  let d1 := { (d.modPort p fun q => { q with main := bare q.main, comp := bare q.comp }) with
    dtm := { d.dtm with onDrift := d.dtm.onDrift.map fun (e : Nat × Lane × DsFrame) => if e.1 == p then (e.1, e.2.1, { e.2.2 with inj := none }) else e } }
  d1.injEndAll stAbandoned l

/-- A tree leaves the active role: its "Active only" commands end ABANDONED (R382), its granted bursts are missed with cause 7 unless a reset
of their scope follows, and the traffic manager discards what waits for it (R333). -/
def Dev.leaveActive (d : Dev) (p role : Nat) (miss : Bool := true) : Dev :=
  let d0 := (if (d.tree p).plan = .promoted then d.endRole p stAbandoned else d).abandonPort p fun a => activeOnlyOpc a.opc
  let d1 := ((if miss then d0.missAll p 7 fun _ => true else d0).discardTree p).abandonInj p
  (d1.modTree p fun x => (x.fresh role).leave).modPort p fun q => { q with framesSinceRole := 0 }

/-- A tree that is not active changes its role; bursts of mirrored maps are acquired no more. -/
def Dev.leaveStandby (d : Dev) (p role : Nat) : Dev :=
  (d.modTree p fun x => x.fresh role).modPort p fun q => { q with framesSinceRole := 0, ups := { q.ups with slots := [], frames := [] } }

/-- A tree changes its role without becoming active. -/
def Dev.setRole (d : Dev) (p role : Nat) : Dev := if (d.tree p).role ≤ 1 then d.leaveActive p role else d.leaveStandby p role

/-- Dark hold (R400). A pending MAT_ROLE_SET of the tree ends ABANDONED. -/
def Dev.darkHold (d : Dev) (p cause : Nat) : Dev :=
  (((d.setRole p 5).modTree p fun x => { x with plan := .none }).endRole p stAbandoned).emitPort p 0x8906 (le 8 cause ++ sfc8 (d.port p).sfc)

/-- A tree becomes standby, unarmed, and asks the active for a snapshot (R381, R395). -/
def Dev.becomeStandby (d : Dev) (p : Nat) : Dev :=
  ((d.setRole p 2).modTree p fun x => { x with plan := .none }).send (.mirror p .askSnapshot)

/-- Fences an active tree and releases it (R387). Lamp checks carry its RELEASE bit while the mate is shown armed. -/
def Dev.fenceTree (d : Dev) (p cause : Nat) : Dev :=
  ((d.leaveActive p 4).modTree p fun x => { x with fenceBy := cause }).emitPort p 0x8905 (le 8 cause ++ sfc8 (d.port p).sfc)

/-- A standby tree becomes unarmed (R381). -/
def Dev.disarm (d : Dev) (p : Nat) : Dev :=
  if d.deputy p then (d.modTree p fun x => { x with role := 2, snapshot := false }).send (.mirror p .askSnapshot) else d

/-- A tree without a mate (R32): its lasers are held off for a fault of scope `lvl`; with a mate that is not shown armed, and does not carry
the tree, the tree is also fenced, without a release. Its bursts are missed here unless a reset of the scope follows, which records them. -/
def Dev.holdTree (d : Dev) (p lvl : Nat) (reset : Bool) : Dev :=
  let d1 :=
    if (d.tree p).role = 1 && d.prot.joined && !d.prot.mateActive.getLsbD p then
      (d.leaveActive p 4 !reset).modTree p fun x => { x with fenceBy := 0 }
    else if reset then d
    else d.missAll p 7 fun _ => true
  d1.modPort p fun q => { q with hold := max q.hold lvl }

/-- Containment of a fault of scope `lvl` on which the service of tree `p` depends; `reset` says that its scope is reset next (R26, R32,
R387, R399). -/
def Dev.containTree (d : Dev) (p lvl : Nat) (reset : Bool) : Dev :=
  let x := d.tree p
  if x.failover then d.darkHold p 1
  else if x.role = 1 && d.mateArmed p then d.fenceTree p 1
  else if x.role ≤ 1 then d.holdTree p lvl reset
  else d.disarm p

/-- A promotion (R391): kinds 1 release, 2 silence, 3 planned; a silence promotion asserts FENCE_OUT (R394). Bursts of the mirrored
maps that are still to come are granted bursts from now on. -/
def Dev.promote (d : Dev) (p kind : Nat) : Dev :=
  let hl := d.health p
  let d1 := (d.modTree p fun x => { x.fresh 1 with
    failover := true, kind4 := false, lightF := kind == 3, plan := if x.plan = .asked then .promoted else .none }).modPort p fun q =>
    { q with
      framesSinceRole := 0
      ups := { q.ups with frames := q.ups.frames.map fun f => { f with missed := 0 } } }
  let d2 := if kind = 2 then d1.modProt fun x => { x with fenceOut := true } else d1
  (d2.redoAllDs p).emitPort p 0x8904 (le 1 kind ++ le 1 (b2n d2.prot.fenceOut) ++ le 2 0 ++ le 4 hl ++ sfc8 (d.port p).sfc)

/-! ### Winder faults, takeover (R183 to R186, R509) -/

/-- The spare that can still take over in a cluster: idle and not chosen for a takeover. -/
def Dev.freeSpare (d : Dev) (c : Nat) : Option Nat :=
  ((List.range 5).map (5 * c + ·)).find? fun w => (d.winder w).st == 0 && !(d.winder w).selfTest &&
    !((List.range 4).any fun k => ((d.port (4 * c + k)).wnd.takeover.map (·.2)) == some w)

/-- The tree port whose takeover an idle spare has been chosen for. -/
def Dev.takeoverOf (d : Dev) (w : Nat) : Option Nat :=
  ((List.range 4).map (4 * (w / 5) + ·)).find? fun p => ((d.port p).wnd.takeover.map (·.2)) == some w

/-- A serving winder stops serving with a cause: its frame is a missed seal, the cluster spare takes over, or the tree moves
to the mate (R183, R186). -/
def Dev.strikeServing (d : Dev) (w p cause : Nat) : Dev :=
  let q := d.port p
  let d1 := (d.modPort p fun q => { q with wnd := q.wnd.strike.loseCkpt }).wndFault w cause p q.faultSfc
  match d1.freeSpare (w / 5) with
  | some v => d1.modPort p fun q => { q with wnd := { q.wnd with takeover := some (w, v) } }
  | none => d1.containTree p 1 false

/-- A winder fault (R183, R186): causes of Table 5-7. -/
def Dev.winderFault (d : Dev) (w cause : Nat) : Dev :=
  let x := d.winder w
  let d1 := d.setWinder w { x with st := 2, cause := cause, running := false, selfTest := false }
  if x.st = 1 then (if x.running then d1.profRunEnd x.port else d1).strikeServing w x.port cause
  else if x.st = 0 then
    match d.takeoverOf w with
    | some p =>
      ((d1.modPort p fun q => { q with wnd := { q.wnd with takeover := none } }).wndFault w cause p (d.port p).sfc).containTree p 1 false
    | none => d1.wndFault w cause 0xFF (d.port (4 * (w / 5))).sfc
  else d

/-- The state a checkpoint holds, on winder `v` that serves tree port `p` (R184). -/
def Dev.applyCkpt (d : Dev) (p v : Nat) (c : Ckpt) : Dev :=
  (d.modWinder v fun x => { x with lmem := c.lmem }).modPort p fun q => { q with wnd := { q.wnd with
    alloc := c.scratch.foldl (fun m e => sset (fun _ => 0#32) m e.1 e.2) (q.wnd.alloc.filter fun e => decide (e.1 % 16 < 12))
    cal := c.cal, v := c.v, shift := c.shift } }

/-- Restores the state a checkpoint holds, or the state after a swap with INIT_DATA and CLEAR_SCHED (R184). -/
def Dev.restoreCkpt (d : Dev) (p v : Nat) : Dev :=
  let q := d.port p
  let imem := loadHalf (loadHalf [] false q.wnd.img0.code) true q.wnd.img1.code
  match q.wnd.ckpts.head? with
  | some c => (d.modWinder v fun x => { x with imem := imem }).applyCkpt p v c
  | none =>
    (d.modWinder v fun x => { x with imem := imem, lmem := initLmem [] (q.wnd.img q.wnd.half).data }).modPort p fun q =>
      { q with wnd := q.wnd.clearSched }

/-- WND_SPARE_TAKEOVER (R183, Table 5-4): the spare serves from the program start of the frame after the faulted frame. DESIGN CHOICE (log
entry 47): without a valid checkpoint, bytes 20 to 23 of the event are zero. -/
def Dev.spareTakeover (d : Dev) (p cyc rem : Nat) : Dev :=
  let q := d.port p
  match q.wnd.takeover with
  | none => d
  | some (f, v) =>
    if !d.portUp p || q.wnd.run != .none || q.wnd.faultNext then d
    else
      let ck := (q.wnd.ckpts.head?.map (·.sfc)).getD 0
      let d1 := (d.restoreCkpt p v).modPort p fun q => { q with wnd := { q.wnd with winder := v, takeover := none } }
      let d2 := ((d1.modWinder v fun x => { x with st := 1, port := p }).modWinder f fun x => { x with port := 0 }).emit 0x8305 (srcOf 2 v)
        (le 1 p ++ le 1 f ++ le 2 0 ++ le 4 ck ++ sfc8 q.sfc)
      let d3 := d2.doSwap p
      if (d3.port p).wnd.image && !d3.deputy p then d3.startProgram p cyc rem else d3

/-- SPARE_SELF_TEST (R183, R509): an idle spare that fails is held in reset; a reset winder that passes becomes the spare. -/
def Dev.spareSelfTest (d : Dev) (w : Nat) (pass : Bool) : Dev :=
  let x := d.winder w
  if x.selfTest && pass then d.setWinder w { x with st := 0, selfTest := false }
  else if (x.st == 0 || x.selfTest) && !pass then (d.setWinder w { x with st := 0 }).winderFault w 4
  else d

/-- Commands on an object that `sel` picks end ABANDONED (R37), and the repairs they ran with them. -/
def Dev.abandonObj (d : Dev) (own : Option Tag) (sel : Word → Bool) : Dev :=
  let d1 := d.abandon fun a => own != some a.tag && sel a.obj
  { d1 with ddr := { d1.ddr with march := d1.ddr.march.filter fun e => d1.cmds.any fun a => a.tag == e.1 } }

/-- An object of class `cls` with an index in [lo, hi). -/
def objRange (cls lo hi : Nat) (obj : Word) : Bool := objClass obj == cls && decide (lo ≤ objIndex obj ∧ objIndex obj < hi)

/-- RESET_SCOPE on a winder (R509). DESIGN CHOICE (log entry 47): STATE of WND_UNIT_STATUS shows 2 while the self-test runs. -/
def Dev.resetWinder (d0 : Dev) (w : Nat) (own : Option Tag) : Dev :=
  let d := d0.abandonObj own (objRange 5 w (w + 1))
  let x := d.winder w
  if x.st = 1 then
    ((if x.running then d.profRunEnd x.port else d).setWinder w { st := 2, selfTest := true, cause := 5 }).strikeServing w x.port 5
  else if x.st = 0 then d.setWinder w {}
  else d0

/-! ### Decoder faults (R248, R249) -/

/-- The highest-numbered tree port of a cluster that runs 50G-PON upstream (R27). -/
def Dev.top50G (d : Dev) (c : Nat) : Option Nat :=
  ((List.range 4).map (4 * c + 3 - ·)).find? fun p => (d.port p).main.gen == 1 && (d.port p).main.running && (d.port p).hold == 0 &&
    (d.tree p).role ≤ 1

/-- A decoder is faulted (R248, R249): its codeword is lost, the spare joins the pool, or a tree moves (R27). -/
def Dev.decoderFault (d : Dev) (n cause : Nat) : Dev :=
  let x := d.dec n
  if x.st != 1 && x.st != 0 then d
  else
    let c := n / 5
    let d1 := d.modDec n fun x => { x with st := 2, cause := cause, held := none, selfTest := false }
    let d2 := match x.held with
      | none => d1
      | some w => d1.modSlot w fun s => s.lose w.idx
    let d3 := d2.emit 0x8402 (srcOf 3 n) (le 1 cause ++ le 1 c ++ le 2 (b2n x.held.isSome) ++ le 4 0 ++ sfc8 (d.port (4 * c)).sfc)
    if x.st = 0 then d3
    else match (decsOf c).find? fun k => (d3.dec k).st == 0 && !(d3.dec k).selfTest with
      | some k => (d3.modDec k fun x => { x with st := 1 }).emit 0x8403 (srcOf 3 k) (le 1 c ++ le 1 n ++ le 1 k)
      | none => match d3.top50G c with
        | some p => d3.containTree p 1 false
        | none => d3

/-- LDPC_DECODE_DONE (R246, R248): the checker faults a decoder that reported a codeword corrected and left a syndrome. -/
def Dev.decodeDone (d : Dev) (n : Nat) (o : DecodeObs) : Dev :=
  match (d.dec n).held with
  | none => d
  | some w => if (d.dec n).zeroReported o && !o.zeroChecked then d.decoderFault n 1 else d.decodeGood n w o

/-! ### Resets on the tree side (R35 to R37, R261) -/

/-- Counters of a tree port and of its flows go back to zero, but for those the traffic manager keeps on the hub die (k = 5, R35). -/
def Dev.clearPortCtrs (d : Dev) (p : Nat) : Dev :=
  let lo := ctrIdx (portBase p)
  let f0 := 8 * (p * 2 ^ 14)
  d.clearCtrs fun k => decide ((lo ≤ k ∧ k < lo + 0x10000) ∨ (f0 ≤ k ∧ k < f0 + 2 ^ 17 ∧ k % 8 ≠ 5))

/-- Reset of a tree port: pending commands of its objects but `own` end ABANDONED (R37); registers and state return to reset
values; the missed-burst log stays unless `wipe` (R261), and the bursts lost are entered once the reset has ended. The winder that serves it, and
a takeover in progress, lie outside the scope (R35); a hold of R32 for a wider scope than `lvl` stays. -/
def Dev.resetPort (d : Dev) (p : Nat) (own : Option Tag) (wipe : Bool) (lvl : Nat := 1) : Dev :=
  let q := d.port p
  let d1 := d.abandonPort p fun a => own != some a.tag
  let d2 := (if (d1.winder q.wnd.winder).running then d1.profRunEnd p else d1).modWinder q.wnd.winder fun x => { x with running := false }
  let d3 := (d2.clearPortCtrs p).setPort p { (Port.dflt p) with
    ups := if wipe then {} else { mbLog := q.ups.mbLog, widx := q.ups.widx, slots := q.ups.slots, frames := q.ups.frames }
    wnd := { (Port.dflt p).wnd with winder := q.wnd.winder, takeover := q.wnd.takeover }
    hold := if q.hold ≤ lvl then 0 else q.hold }
  let d4 := d3.disarm p
  let d5 := d4.modCluster (p / 4) fun c => { c with
    queue := c.queue.filter fun w => w.port != p
    arriving := c.arriving.filter fun e => e.2.port != p
    i2cQ := c.i2cQ.filter fun j => j.port != p || own == some j.tag }
  let d6 := (d5.discardTree p).injEndAll stAbandoned ((q.main.buf ++ q.comp.buf).map (·.inj))
  let d7 := if q.main.gen = 0 then d6 else d6.genChanged p .main
  let d8 := if q.comp.gen = 0 then d7 else d7.genChanged p .comp
  if wipe then d8 else d8.missAll p 5 fun _ => true

/-- The records and buffer of a profiler are cleared by a cluster reset; a running recording ends (R461). -/
def Dev.profReset (d : Dev) (c : Nat) : Dev := (d.profStop c 4).modCluster c fun x => { x with prof := {} }

/-- Reset of a cluster (R35): its tree ports, winders, decoders, pool, I2C master, profiler. -/
def Dev.resetCluster (d : Dev) (c : Nat) (own : Option Tag) (wipe : Bool) (lvl : Nat := 2) : Dev :=
  let d1 := d.abandonObj own fun o => objRange 5 (5 * c) (5 * c + 5) o || objRange 6 (5 * c) (5 * c + 5) o || objRange 7 c (c + 1) o
  let d2 := (List.range 4).foldl (fun d k => d.resetPort (4 * c + k) own wipe lvl) d1
  let d3 := (List.range 5).foldl (fun d k => (d.setWinder (5 * c + k) (Winder.dflt (5 * c + k))).modDec (5 * c + k)
    fun _ => Decoder.dflt (5 * c + k)) d2
  let d4 := (List.range 4).foldl (fun d k => d.modPort (4 * c + k) fun q =>
    { q with wnd := { q.wnd with winder := 5 * c + k, takeover := none } }) (d3.profReset c)
  let cl (k : Nat) : Bool := (List.range 5).any fun j =>
    k == ctrIdx (decBase (5 * c + j) + 4)
  (d4.clearCtrs cl).modCluster c fun _ => {}

/-- Reset of a region: its clusters. -/
def Dev.resetRegion (d : Dev) (g : Nat) (own : Option Tag) (wipe : Bool) (lvl : Nat := 3) : Dev :=
  (List.range 4).foldl (fun d k => d.resetCluster (4 * g + k) own wipe lvl) (d.abandonObj own fun o => objRange 8 g (g + 1) o)

/-- Reset of a port die: both regions and its end of the drift; it ends the state of R23 and clears the missed-burst logs. -/
def Dev.resetDie (d : Dev) (x : Nat) (own : Option Tag) : Dev :=
  let d1 := (List.range 2).foldl (fun d k => d.resetRegion (2 * x + k) own true 4) (d.abandonObj own fun o => objRange 9 x (x + 1) o)
  d1.modDrift x fun y => { held := y.held }

/-- Containment of a fault whose scope is reset (R26, R32, R36): its trees move to the mate or are held dark, the scope is reset, and
the trees without a mate stay held dark until the host resets it and enables them. -/
def Dev.containScope (d : Dev) (ports : List Nat) (lvl : Nat) (reset : Dev → Dev) : Dev :=
  let mine := ports.filter d.variant.hasPort
  let d1 := mine.foldl (fun d p => d.containTree p lvl true) d
  mine.foldl (fun d p => d.modPort p fun q => { q with hold := (d1.port p).hold }) (reset d1)

/-- A fault in the logic or the SRAM of a tree port (Table 1-3). -/
def Dev.portFault (d : Dev) (p : Nat) : Dev := d.containScope [p] 1 fun d => d.resetPort p none false

/-- Retired winders and decoders stay so after a reset, and their cluster's spare takes their place (R25, R441, R442). -/
def Dev.retireWinder (d : Dev) (w : Nat) : Dev :=
  let sp := 5 * (w / 5) + 4
  let p := 4 * (w / 5) + w % 5
  let serves := (d.winder w).st == 1
  let d1 := d.setWinder w { d.winder w with st := 3, port := 0 }
  if serves && (d1.winder sp).st == 0 && decide (sp ≠ w) then
    (d1.setWinder sp { d1.winder sp with st := 1, port := p }).modPort p fun q => { q with wnd := { q.wnd with winder := sp } }
  else d1

def Dev.retireDec (d : Dev) (n : Nat) : Dev :=
  let sp := 5 * (n / 5) + 4
  let serves := (d.dec n).st == 1
  let d1 := d.modDec n fun x => { x with st := 3 }
  if serves && (d1.dec sp).st == 0 && decide (sp ≠ n) then d1.modDec sp fun x => { x with st := 1 } else d1

/-- The retirements of the ledger among the units that a reset has brought back. -/
def Dev.retireAgain (d : Dev) : Dev :=
  let d1 := (sortBy (fun a b => decide (b < a)) (d.ddr.nv.winders.filter fun w => (d.winder w).st != 3)).foldl (fun d w => d.retireWinder w) d
  (sortBy (fun a b => decide (b < a)) (d1.ddr.nv.decs.filter fun n => (d1.dec n).st != 3)).foldl (fun d n => d.retireDec n) d1

end Sys2Proof.Machine
end

