-- ==== Sys2Proof/Machine/Time.lean ====
section
/-! DEFINITION. Device time (chapter 14): the clock, the servo, steps, pulse outputs; and the bandwidth windows of chapter 16, which
steps close. -/
namespace Sys2Proof.Machine
open Sys2Proof

def Dev.modTime (d : Dev) (f : TimeUnit → TimeUnit) : Dev := { d with time := f d.time }

/-! ### The clock (R403 to R405) -/

/-- Device time set to a count of 2^-32 ns. -/
def TimeUnit.setFine (x : TimeUnit) (n : Nat) : TimeUnit :=
  { x with sec := n / 2 ^ 32 / 1000000000 % 2 ^ 48, ns := n / 2 ^ 32 % 1000000000, frac := n % 2 ^ 32 }

/-- One time-base cycle (R404): 1 ns and FREQ; nothing while RESET_N holds the time unit. -/
def Dev.cycle (d : Dev) : Dev :=
  let d1 := { d with now := d.now + 1 }
  if d.board.resetN then d1 else d1.modTime fun x => x.setFine (Int.toNat ((d.devFine : Int) + 2 ^ 32 + x.freq))

/-- MODE of TOD_CTRL. -/
def TimeUnit.mode (x : TimeUnit) : Nat := x.ctrl.toNat % 4
def TimeUnit.gp (x : TimeUnit) : Nat := bitsOf x.ctrl.toNat 7 4
def TimeUnit.gi (x : TimeUnit) : Nat := bitsOf x.ctrl.toNat 11 8

/-- Raises an event of the time unit (R421). -/
def Dev.emitTime (d : Dev) (typ : Nat) (payload : Bytes) : Dev := d.emit typ (srcOf 0xE 0) payload

/-- TIME_10M_LOSS (R405). -/
def Dev.loss10m (d : Dev) : Dev :=
  if d.time.sysRef then d else (d.modTime fun x => { x with sysRef := true, lost10m := true }).emitTime 0x8A04 (le 1 1)

/-- TIME_10M_QUALIFIED (R405). -/
def Dev.qualified10m (d : Dev) : Dev :=
  if !d.time.sysRef then d
  else
    let d1 := d.modTime fun x => { x with sysRef := false, lost10m := false }
    if d.time.lost10m then d1.emitTime 0x8A04 (le 1 2) else d1

/-! ### Bandwidth windows (R457, R458): port x is tree port x, or the uplink port x - 64 -/

/-- Length of a window in ns. -/
def BwWin.len (w : BwWin) : Nat := w.ms * 1000000

/-- Ends the window in progress: its results are stored, SEQ counts, TAL_WINDOW is raised; the next one starts at `next`. -/
def Dev.endWindow (d : Dev) (x next : Nat) : Dev :=
  let w := d.win x
  if !w.en then d
  else
    let d1 := d.setWin x { w with last := w.cur, cur := {}, seq := w.seq + 1, start := next }
    if w.evt then d1.emit 0x0C02 (srcOf 0xF 0) (le 1 (x / 64) ++ le 1 (x % 64) ++ le 2 (w.seq + 1).toNat ++ le 4 w.cur.outB ++ le 4 w.cur.inB ++
      le 4 w.ms) else d1

/-- WINDOW_END (R457). -/
def Dev.windowEnd (d : Dev) (x : Nat) : Dev := d.endWindow x ((d.win x).start + (d.win x).len)

/-- TAL_WIN_SEQ_READ (R458). -/
def Dev.winSeqRead (d : Dev) (x : Nat) : Dev := d.setWin x { d.win x with latched := (d.win x).last }

/-- TAL_WINDOW_SET (R457). -/
def cmdTalWindowSet (c : Tag) (obj : Word) (wflags : Byte) (winMs : Half) (_ : Dev) : HostCmd :=
  let x := if objClass obj = 1 then objIndex obj else 64 + objIndex obj
  { opc := 0x0C02
    good := (objIs obj 1 64 || objIs obj 0x0B 32) && decide (1 ≤ winMs.toNat ∧ winMs.toNat ≤ 10000)
    reach := reachIf (objIs obj 1 64 || objIs obj 0x0B 32) (.window x)
    body := fun d =>
      let w := winMs.toNat * 1000000
      let t := d.devNs + (if d.time.frac = 0 then 2000 else 2001)
      (d.setWin x { d.win x with
        en := wflags.getLsbD 0, evt := wflags.getLsbD 1, ms := winMs.toNat, start := ceilDiv t w * w, cur := {} }).complete c stOk }

/-! ### Pulse outputs (R419, R420) -/

def Dev.trig (d : Dev) (n : Nat) : Trig := sget (fun _ => {}) d.time.trigs n
def Dev.modTrig (d : Dev) (n : Nat) (f : Trig → Trig) : Dev :=
  d.modTime fun x => { x with trigs := sset (fun _ => {}) x.trigs n (f (d.trig n)) }

/-- The first instant of a schedule at or after a time. -/
def Sched.first (x : Sched) (t : Nat) : Option Nat :=
  if t ≤ x.start then some x.start else if x.periodic then some (x.start + ceilDiv (t - x.start) x.period * x.period) else none

/-- A schedule resumed at or after a time. -/
def Sched.resume (x : Sched) (t : Nat) : Option Sched := (x.first t).map fun n => { x with next := n }

/-- The first whole nanosecond of device time at least `n` ns from now. -/
def Dev.nsAfter (d : Dev) (n : Nat) : Nat := d.devNs + n + b2n (decide (d.time.frac ≠ 0))

/-- TOD_TRIG_SET (R420). -/
def cmdTodTrigSet (c : Tag) (obj : Word) (tflags : Byte) (sec : BitVec 48) (ns period width : Word) (_ : Dev) : HostCmd :=
  let n := objIndex obj
  let per := if period.toNat = 0 then 2 ^ 32 else period.toNat
  let nsOk := !tflags.getLsbD 0 || decide (ns.toNat % 2 ^ 30 < 1000000000)
  { opc := 0x0A03
    good := objIs obj 0x13 8 && nsOk && (!tflags.getLsbD 0 ||
      decide (100 ≤ per ∧ 8 ≤ width.toNat ∧ width.toNat ≤ 1000000 ∧ width.toNat < per))
    reach := reachIf (objIs obj 0x13 8 && nsOk) (.output n)
    body := fun d =>
      if tflags.getLsbD 0 then
        let start := sec.toNat * 1000000000 + ns.toNat % 2 ^ 30
        let s : Sched := { start := start, periodic := tflags.getLsbD 1, period := per, width := width.toNat, next := start }
        match s.resume (d.nsAfter 2000) with
        | none => d.complete c stOk (le 8 0)
        | some r => (d.modTrig n fun x => { x with pend := some r }).complete c stOk
            (le 8 (packTime (r.next / 1000000000) (r.next % 1000000000)).toNat)
      else (d.modTrig n fun x => { x with act := none, pend := none }).complete c stOk (le 8 0) }

/-- The schedule whose instant comes next, and what runs after it. -/
def Trig.pick (x : Trig) : Option (Sched × Trig) :=
  let after (s : Sched) : Option Sched := if s.periodic then some { s with next := s.next + s.period } else none
  match x.act, x.pend with
  | some a, some b =>
    if b.next ≤ a.next then some (b, { x with act := after b, pend := none }) else some (a, { x with act := after a })
  | some a, none => some (a, { x with act := after a })
  | none, some b => some (b, { x with act := after b, pend := none })
  | none, none => none

/-- PULSE_OUTPUT_FIRE (R419, R420). -/
def Dev.pulseFire (d : Dev) (n : Nat) : Dev :=
  match (d.trig n).pick with
  | none => d
  | some (s, x) =>
    ((d.modTrig n fun _ => { x with endAt := max x.endAt (d.now + s.width) }).count (0x70104 + 16 * n)).send (.pulse n s.width)

/-- TOD_TRIG_STATUS (Table 14-8). -/
def Dev.trigStatus (d : Dev) (n : Nat) : Nat :=
  let x := d.trig n
  b2n x.act.isSome + 2 * b2n (x.act.any (·.periodic)) + 4 * b2n (decide (d.now < x.endAt)) + 8 * b2n x.pend.isSome

/-! ### Steps (R408, R412 to R414) -/

/-- A running WAIT_TIME whose time has come (R63, R414). -/
def Dev.waitDue (d : Dev) (a : Active) : Bool :=
  a.phase == .running && match a.cmd with
  | .waitTime _ _ sec ns => decide (sec.toNat * 1000000000 + ns.toNat % 2 ^ 30 ≤ d.devNs)
  | _ => false

/-- LOCKED clears with a cause (R409). -/
def Dev.unlock (d : Dev) (cause : Nat) : Dev :=
  if d.time.locked then
    (d.modTime fun x => { x with locked := false, good := 0 }).emitTime 0x8A02 (le 4 cause ++ le 4 (uns32 d.time.err))
  else d

/-- A step of device time (R414): every user of device time moves. -/
def Dev.stepTime (d : Dev) (cause : Nat) (fine : Nat) : Dev :=
  let d1 := d.modTime fun x => x.setFine fine
  let diff : Int := (d1.devNs : Int) - d.devNs
  let d2 := (d1.modTime fun x => { x with
    last := x.last.map (· + diff)
    trigs := x.trigs.map fun e => (e.1, { e.2 with
      act := e.2.act.bind (·.resume (d1.nsAfter 1000)), pend := e.2.pend.bind (·.resume (d1.nsAfter 1000)) }) }).count 0x70048
  let d3 := d2.emitTime 0x0A03 (le 2 cause ++ le 6 ((BitVec.ofInt 48 (Int.tdiv diff 1000000000)).toNat) ++
    le 4 (uns32 (Int.tmod diff 1000000000)))
  let d4 := (d3.unlock 3).regate
  let d5 := (d4.tally.wins.map (·.1)).foldl (fun d x => d.endWindow x ((d.devNs / max 1 (d.win x).len + 1) * (d.win x).len)) d4
  ((d5.cmds.filter d5.waitDue).map (·.tag)).foldl (fun d c => d.complete c stOk) d5

/-- Device time moved by whole nanoseconds, its fraction kept; time does not fall below zero. -/
def Dev.shiftTime (d : Dev) (cause : Nat) (ns : Int) : Dev := d.stepTime cause (Int.toNat ((d.devFine : Int) + ns * 2 ^ 32))

/-- TOD_STEP (R413). -/
def cmdTodStep (c : Tag) (obj : Word) (mode : Byte) (sec : BitVec 48) (ns : Word) (_ : Dev) : HostCmd :=
  let isSet := mode == 0x01#8
  { opc := 0x0A01
    good := objIs obj 0 1 && decide (mode.toNat ≤ 1) &&
      (if isSet then decide (ns.toNat % 2 ^ 30 < 1000000000) else decide (ns.toInt.natAbs ≤ 999999999))
    reach := reachIf (objIs obj 0 1 && decide (mode.toNat ≤ 1)) .time
    body := fun d =>
      let r : StepReq :=
        { tag := c, isSet := isSet, sec := if isSet then (sec.toNat : Int) else sec.toInt
          ns := if isSet then ((ns.toNat % 2 ^ 30 : Nat) : Int) else ns.toInt }
      d.modTime fun x => { x with step := some r } }

/-- TOD_STEP_INSTANT (R413). -/
def Dev.todStepInstant (d : Dev) : Dev :=
  match d.time.step with
  | none => d
  | some r =>
    let d1 := d.modTime fun x => { x with step := none, secValid := true }
    let d2 := if r.isSet then d1.stepTime 1 (Int.toNat ((r.sec * 1000000000 + r.ns) * 2 ^ 32)) else d1.shiftTime 1 (r.sec * 1000000000 + r.ns)
    d2.complete r.tag stOk (le 8 d2.stamp.toNat)

/-- SERVO_STEP (R408). -/
def Dev.servoStep (d : Dev) : Dev :=
  match d.time.servo with
  | none => d
  | some e => (d.modTime fun x => { x with servo := none }).shiftTime 2 (-e)

/-- TOD_IN_SECONDS_STEP (R412). -/
def Dev.todInStep (d : Dev) : Dev :=
  match d.time.secs with
  | none => d
  | some n => (d.modTime fun x => { x with secs := none, secValid := true }).shiftTime 3 (n * 1000000000)

/-! ### Discipline (R407 to R413) -/

/-- FREQ kept within R404. -/
def clampFreq (f : Int) : Int := max (-4194304) (min 4194304 f)

/-- Applies a rate in units of 2^-32 ppb as FREQ, rounded to the nearest unit (R408); which way a tie goes is a free value. -/
def Dev.applyRate (d : Dev) (r : Int) : Dev :=
  let lo := r / 1000000000
  let rem := r % 1000000000
  let (b, d1) := if rem = 500000000 then d.pick 1 else (0, d)
  d1.modTime fun x => { x with freq := clampFreq (if 500000000 < rem || b = 1 then lo + 1 else lo) }

/-- Nearest whole second of a stamp in ns, a tie going to the earlier one, and the phase error (R407). -/
def nearSecond (t : Int) : Int × Int :=
  let s := t % 1000000000
  if s ≤ 500000000 then (t / 1000000000, s) else (t / 1000000000 + 1, s - 1000000000)

/-- An edge is accepted (R407). -/
def TimeUnit.accepts (x : TimeUnit) (t : Int) : Bool :=
  match x.last with
  | none => true
  | some p =>
    if x.locked || x.holdover then decide (p + 999000000 ≤ t ∧ t ≤ p + 1001000000) else decide (p + 500000000 ≤ t)

/-- The servo on an accepted edge (R408, R409). -/
def Dev.servo (d : Dev) (t : Int) : Dev :=
  let e := (nearSecond t).2
  let x := d.time
  let big := if 1000 < e.natAbs then x.big + 1 else 0
  let good := if e.natAbs ≤ 20 then x.good + 1 else 0
  let integ := if big = 3 then x.integ else x.integ - e * 2 ^ (32 - x.gi)
  let d1 := d.modTime fun x => { x with
    last := some t, err := e, holdover := false, integ := integ, good := good
    big := if big = 3 then 0 else big, servo := if big = 3 then some e else x.servo }
  let d2 := d1.applyRate (integ - e * 2 ^ (32 - x.gp))
  if !x.locked && decide (8 ≤ good) then
    (d2.modTime fun x => { x with locked := true }).emitTime 0x0A01 (le 4 x.mode ++ le 4 (uns32 e))
  else if 100 < e.natAbs then d2.unlock 2
  else d2

/-- PPS_IN_EDGE (R407). -/
def Dev.ppsEdge (d : Dev) : Dev :=
  let d1 := d.modTime fun x => { x with seen := some d.now }
  let t : Int := (d.devNs : Int) + d.time.adj.toInt
  if d.time.mode = 0 then d1 else if d.time.accepts t then d1.servo t else d1.count 0x70040

/-- PPS_WINDOW_END (R409): an edge accepted in the same cycle opens the next window (R69). -/
def Dev.ppsWindowEnd (d : Dev) : Dev :=
  let caught := d.time.last == some ((d.devNs : Int) + d.time.adj.toInt)
  if caught || d.time.mode = 0 || !(d.time.locked || d.time.holdover) then d
  else ((d.unlock 1).modTime fun x => { x with holdover := true }).applyRate d.time.integ

/-- A valid TOD_IN message (R411). -/
def todValid (m : Bytes) : Bool :=
  m.length == 12 && nfld m 0 2 == 0x7EA1 && byteAt m 2 == 0x08#8 && (byteAt m 9).getLsbD 0 &&
    byteAt m 11 == ((m.drop 2).take 9).foldl (· ^^^ ·) 0

/-- TOD_IN_MESSAGE (R411, R412). -/
def Dev.todIn (d : Dev) (m : Bytes) : Dev :=
  if d.time.mode ≠ 2 then d
  else if !todValid m || !d.time.last.any fun p => decide ((d.devNs : Int) + d.time.adj.toInt ≤ p + 900000000) then
    (d.modTime fun x => { x with msg := none }).count 0x70044
  else
    let s := nfld m 3 6
    let edge := (nearSecond (d.time.last.getD 0)).1
    let confirmed := d.time.msg.any fun n => n + 1 == s
    d.modTime fun x => { x with
      msg := some s, secs := if confirmed && decide ((s : Int) ≠ edge) then some ((s : Int) - edge) else x.secs }

/-- TOD_STEER (R413). -/
def cmdTodSteer (c : Tag) (obj : Word) (freq : Word) (sflags : Byte) (d0 : Dev) : HostCmd :=
  let new (x : TimeUnit) : Int := if sflags.getLsbD 0 then x.freq + freq.toInt else freq.toInt
  { opc := 0x0A02
    good := objIs obj 0 1 && (d0.time.mode != 0 || decide ((new d0.time).natAbs ≤ 4194304))
    reach := reachIf (objIs obj 0 1) .time
    body := fun d =>
      if d.time.mode ≠ 0 then d.complete c stFailed [0x01#8]
      else (d.modTime fun x => { x with freq := new x }).complete c stOk }

/-! ### Registers (Tables 14-5 to 14-7) -/

/-- The values TOD_CTRL may take (Table 14-9). -/
def todCtrlGood (v : Word) : Bool :=
  decide (v.toNat % 4 ≠ 3 ∧ 1 ≤ bitsOf v.toNat 7 4 ∧ bitsOf v.toNat 7 4 ≤ 8 ∧ 2 ≤ bitsOf v.toNat 11 8)

/-- TOD_CTRL_WRITE (R410). -/
def Dev.todCtrl (d : Dev) (v : Word) : Dev :=
  let w := v &&& 0x00003FF3#32
  d.modTime fun x =>
    if w.toNat % 4 = x.mode then { x with ctrl := w }
    else
      let y := { x with ctrl := w, locked := false, holdover := false, good := 0, big := 0 }
      if w.toNat % 4 = 0 then y else { y with integ := x.freq * 1000000000 }

/-- TOD_NOW_NS_READ (R416). -/
def Dev.nowNsRead (d : Dev) : Dev := d.modTime fun x => { x with latFrac := x.frac / 2 ^ 16, latSec := x.sec }

/-- TOD_STATUS (Table 14-7). -/
def Dev.todStatus (d : Dev) : Nat :=
  let x := d.time
  b2n x.locked + 2 * b2n x.holdover + 4 * b2n x.sysRef + 8 * b2n (x.seen.any fun t => decide (d.now ≤ t + 2000000000)) + 16 * b2n x.secValid

end Sys2Proof.Machine
end

