-- ==== Sys2Proof/Machine/Memory.lean ====
section
/-! DEFINITION. Memory integrity (chapter 15): check codes, repair ladder, freeze and thaw of DRAM subchannels, refresh, the wear
ledger; and the package reset with the hub-die fault that asks for it (R36). -/
namespace Sys2Proof.Machine
open Sys2Proof

/-! ### Check codes (R423 to R425) -/

/-- Columns of d0 to d31: the numbers 3 to 38 that are not powers of two (R423). -/
def dataCols : List Nat := (List.range 39).filter fun n => decide (3 ≤ n) && !([4, 8, 16, 32].contains n)
/-- Columns of an on-chip word in the order of its 39 bits d0 to d31, c0 to c6; c6 is in no column (R423). -/
def chipCols : List Nat := dataCols ++ [1, 2, 4, 8, 16, 32, 0]
/-- Columns of a DRAM word in the order of its 40 lines: d0 to d31, F, c0 to c6 (R424, Table 15-5). -/
def dramCols : List Nat := dataCols ++ [39] ++ [1, 2, 4, 8, 16, 32, 0]

/-- The syndrome S (R425). -/
def syndrome (cols : List Nat) (raw : Nat) : Nat := cols.zipIdx.foldl (fun s c => if bitOf raw c.2 then s ^^^ c.1 else s) 0
/-- The parity P over `n` bits. -/
def parityOf (n raw : Nat) : Bool := (List.range n).foldl (fun p i => p ^^ bitOf raw i) false

/-- What a read finds (Table 15-1): no error, the word after inverting one bit, or an uncorrectable word. -/
inductive Secded where
  | good
  | fixed (bit : Nat)
  | bad
  deriving DecidableEq, Repr

/-- Table 15-1. -/
def secded (cols : List Nat) (raw : Nat) : Secded :=
  let s := syndrome cols raw
  if parityOf cols.length raw then
    match cols.idxOf? s with
    | some i => .fixed i
    | none => .bad
  else if s = 0 then .good else .bad

/-- The word after correction. -/
def Secded.apply (x : Secded) (raw : Nat) : Nat := match x with
  | .fixed i => raw ^^^ 2 ^ i
  | _ => raw

/-- The fold bit of a word of subchannel `s` (R424). -/
def foldBit (s addr : Nat) : Bool := parityOf 3 s ^^ parityOf 32 addr

/-! ### Locations (Table 15-6) -/

def locSpace (loc : Dword) : Nat := loc.toNat % 256
def locSub (loc : Dword) : Nat := bitsOf loc.toNat 15 8
/-- The row of a location: its word or granule left out. -/
def rowKey (loc : Dword) : Nat :=
  if locSpace loc = 3 then loc.toNat % 2 ^ 56 else loc.toNat % 2 ^ 48 - bitsOf loc.toNat 15 8 * 256
/-- The row number of a location. -/
def locRow (loc : Dword) : Nat := if locSpace loc = 3 then bitsOf loc.toNat 55 32 else bitsOf loc.toNat 47 32
/-- The on-chip array or DRAM bank of a location. -/
def arrayKey (loc : Dword) : Nat := rowKey loc % 2 ^ 32
/-- The group of an on-chip array (R443): its space and array div 32. -/
def groupKey (loc : Dword) : Nat := locSpace loc + 256 * (bitsOf loc.toNat 31 16 / 32)
/-- Spare rows of an on-chip array or DRAM bank (R443). -/
def spareCap (loc : Dword) : Nat := if locSpace loc = 3 then 64 else 8
/-- The location exists on the variant (Table 15-6). -/
def Dev.locGood (d : Dev) (loc : Dword) : Bool :=
  if locSpace loc = 3 then decide (locSub loc < 8 ∧ bitsOf loc.toNat 23 16 < 2 ∧ bitsOf loc.toNat 31 24 < 32)
  else decide (locSpace loc ≤ 2 ∧ bitsOf loc.toNat 15 8 < 32 ∧ locRow loc < 520 ∧ loc.toNat / 2 ^ 48 = 0) &&
    (locSpace loc == 0 || d.variant.hasDie (locSpace loc - 1))

/-- Raises a memory event (R448). -/
def Dev.emitMem (d : Dev) (typ : Nat) (loc : Dword) (more : Bytes) : Dev :=
  d.emit typ (if locSpace loc = 3 then srcOf 8 (locSub loc) else srcOf 0 4) (le 8 loc.toNat ++ more)

/-! ### The wear ledger (R446) -/

def Dev.modDdr (d : Dev) (f : Ddr → Ddr) : Dev := { d with ddr := f d.ddr }
def Dev.modNv (d : Dev) (f : Ledger → Ledger) : Dev := d.modDdr fun x => { x with nv := f x.nv }

/-- Changes a count now and in the store (a repair, retirement or freeze is written at once). -/
def Dev.countNow (d : Dev) (f : LedgerCnt → LedgerCnt) : Dev :=
  d.modDdr fun x => { x with cnt := f x.cnt, nv := { x.nv with cnt := f x.nv.cnt } }

/-- Writes a record; after 4,096 none is added. -/
def Dev.record (d : Dev) (loc : Dword) (kind : Nat) : Dev :=
  d.modNv fun x => if x.recs.length < 4096 then
    { x with recs := x.recs ++ [{ loc := loc, kind := kind, hours := d.ddr.cnt.secs / 3600 }] } else x

/-- Spare rows left in the array or bank of a location. -/
def Dev.sparesLeft (d : Dev) (loc : Dword) : Nat := spareCap loc - sget (fun _ => 0) d.ddr.nv.spares (arrayKey loc)
def Dev.useSpare (d : Dev) (loc : Dword) : Dev :=
  d.modNv fun x => { x with spares := sset (fun _ => 0) x.spares (arrayKey loc) (sget (fun _ => 0) x.spares (arrayKey loc) + 1) }

/-- Fewest spare rows left among the arrays or banks that `sel` picks by key. -/
def Dev.fewestSpares (d : Dev) (cap : Nat) (sel : Nat → Bool) : Nat :=
  d.ddr.nv.spares.foldl (fun n e => if sel e.1 then min n (cap - e.2) else n) cap

/-- The temperature range of a reading in 0.25 degrees (Table 15-8). -/
def tempBin (t : Int) : Nat := ([25, 45, 65, 75, 85, 95, 105].filter fun x : Int => decide (4 * x ≤ t)).length

/-- PAD_TEMP[k] in 0.25 degrees. -/
def Dev.temp (d : Dev) (k : Nat) : Int := sget (fun _ => 0) d.board.temps k
/-- The highest sensor reading and its sensor; sensors of an absent die take no part (R496). -/
def Dev.hottest (d : Dev) : Nat × Int :=
  ((List.range 9).filter fun k => k < 6 || d.variant.hasDie 1).foldl (fun (a : Nat × Int) k => if a.2 < d.temp k then (k, d.temp k) else a)
    (0, d.temp 0)

/-- LEDGER_WRITE (R446): 600 s of power, then counts and hours are stored. -/
def Dev.ledgerWrite (d : Dev) : Dev :=
  let b := tempBin d.hottest.2
  d.modDdr fun x =>
    let c := { x.cnt with secs := x.cnt.secs + 600, temps := sset (fun _ => 0) x.cnt.temps b (sget (fun _ => 0) x.cnt.temps b + 600) }
    { x with cnt := c, nv := { x.nv with cnt := c } }

/-- Bits of a list of numbers. -/
def maskOf (l : List Nat) : Nat := (l.eraseDups).foldl (fun m k => m + 2 ^ k) 0

/-- The ledger summary (Table 15-8). -/
def Dev.ledgerSummary (d : Dev) : Bytes :=
  let c := d.ddr.cnt
  let nv := d.ddr.nv
  let lane (x k : Nat) : Nat := b2n (decide (k < (nv.drift.filter fun e => e.1 == x).length))
  padTo 256 (le 4 (c.secs / 3600) ++ ((List.range 8).map fun b => le 4 (sget (fun _ => 0) c.temps b / 3600)).flatten ++
    le 8 c.ceChip ++ le 8 c.ceDram ++ le 4 c.ueChip ++ le 4 c.ueDram ++ le 4 c.rows ++ le 4 c.arrays ++
    le 2 (d.fewestSpares 8 fun k => k % 256 != 3) ++ le 2 nv.groups.length ++ le 2 (d.fewestSpares 64 fun k => k % 256 == 3) ++
    le 1 (maskOf nv.subs) ++ le 1 0 ++ le 10 (maskOf nv.winders) ++ le 10 (maskOf nv.decs) ++
    le 1 (lane 0 0 + 2 * lane 0 1 + 4 * lane 1 0 + 8 * lane 1 1) ++ le 3 0 ++ le 4 nv.recs.length)

/-- The ledger as READ_STATE gives it (R446). -/
def Dev.ledgerState (d : Dev) : Bytes :=
  d.ledgerSummary ++ (d.ddr.nv.recs.map fun r => le 8 r.loc.toNat ++ le 1 r.kind ++ le 3 0 ++ le 4 r.hours).flatten

/-! ### Package reset (R35, R36, R486) -/

/-- A package reset: everything but the non-volatile store, the time base, and what lies outside the package. -/
def Dev.packageReset (d : Dev) : Dev :=
  { variant := d.variant, free := d.free, now := d.now, outbox := d.outbox ++ [.reset], dma := d.dma, sent := d.sent
    board := { resetN := d.board.resetN, since := d.board.since, fenceIn := d.board.fenceIn, rails := d.board.rails, tap := d.board.tap }
    ddr := { nv := d.ddr.nv, cnt := d.ddr.nv.cnt } }

/-- HUB_DIE_FAULT (R36): a ledger record of kind 6, a package reset, the start-up from step 1. The straps stand as sampled, since RESET_N does not
rise (DEDUCED, log entry 34). -/
def Dev.hubDieFault (d : Dev) : Dev :=
  if d.board.resetN then d
  else
    let d1 := (d.record 0 6).packageReset
    { d1 with board := { d1.board with since := d.now, straps := d.board.straps } }

/-! ### Corrections and the repair ladder (R427, Table 15-7, R443 to R445) -/

/-- No spare is left for a repair. -/
def Dev.sparesGone (d : Dev) (loc : Dword) (what : Nat) : Dev :=
  (d.modDdr fun x => { x with sparesOut := true }).emitMem 0x8B05 loc (le 1 what)

/-- AUTO_ROW, AUTO_ARRAY and ROW_TH of MEM_CTRL. -/
def Ddr.autoRow (x : Ddr) : Bool := x.ctrl.getLsbD 1
def Ddr.autoArray (x : Ddr) : Bool := x.ctrl.getLsbD 2
def Ddr.rowTh (x : Ddr) : Nat := bitsOf x.ctrl.toNat 19 16

/-- Starts the array repair that a row without spares asks for (R445); a DRAM bank has no spare array. -/
def Dev.startArray (d : Dev) (loc : Dword) : Dev :=
  if locSpace loc = 3 then d.sparesGone loc 1
  else if d.ddr.repairs.any fun r => r.array && arrayKey r.loc == arrayKey loc then d
  else if d.ddr.nv.groups.contains (groupKey loc) then d.sparesGone loc 2
  else if d.ddr.autoArray then
    (d.modNv fun x => { x with groups := x.groups ++ [groupKey loc] }).modDdr fun x =>
      { x with repairs := x.repairs ++ [{ array := true, loc := loc, tag := none }] }
  else d.sparesGone loc 1

/-- A repair takes a spare row; the last one of an on-chip array calls for the array's repair (Table 15-7, R445). -/
def Dev.spendSpare (d : Dev) (loc : Dword) : Dev :=
  let d1 := d.useSpare loc
  if d1.sparesLeft loc = 0 && locSpace loc != 3 && d.ddr.autoArray && !d.ddr.nv.groups.contains (groupKey loc) then d1.startArray loc else d1

/-- A repair of a row is in progress. -/
def Dev.repairing (d : Dev) (loc : Dword) : Bool := d.ddr.repairs.any fun r => !r.array && rowKey r.loc == rowKey loc

/-- The device's own row repair (R444). -/
def Dev.autoRepair (d : Dev) (loc : Dword) : Dev :=
  if !d.ddr.autoRow || d.repairing loc then d
  else if d.sparesLeft loc = 0 then d.startArray loc
  else (d.spendSpare loc).modDdr fun x => { x with repairs := x.repairs ++ [{ array := false, loc := loc, tag := none }] }

def Dev.rowCnt (d : Dev) (loc : Dword) : RowCnt := sget (fun _ => {}) d.ddr.rows (rowKey loc)
def Dev.setRow (d : Dev) (loc : Dword) (r : RowCnt) : Dev :=
  d.modDdr fun x => { x with rows := sset (fun _ => {}) x.rows (rowKey loc) r }

/-- The row's count has reached ROW_TH; a ROW_TH of 0 leaves it open whether repairs are made (Table 15-16). -/
def Dev.reached (d : Dev) (n : Nat) : Bool × Dev :=
  if d.ddr.rowTh = 0 then (let (b, d1) := d.pick 1; (b == 1, d1)) else (decide (d.ddr.rowTh ≤ n), d)

/-- A correction counts against its row (R427); the count, or the same bit twice in a row, calls for a repair (Table 15-7). -/
def Dev.corrected (d : Dev) (loc : Dword) (word bit : Nat) : Dev :=
  let r := d.rowCnt loc
  let (th, d1) := d.reached (r.n + 1)
  let d2 := d1.setRow loc { n := r.n + 1, bit := some (word, bit) }
  if th || r.bit == some (word, bit) then d2.autoRepair loc else d2

/-- A row repair is in force: counted, recorded, announced (R444, R446). -/
def Dev.rowRepaired (d : Dev) (loc : Dword) : Dev :=
  ((((d.setRow loc {}).count 0x8004C).countNow fun c => { c with rows := c.rows + 1 }).record loc 1).emitMem 0x0B03 loc
    (le 2 (d.sparesLeft loc))

/-- ROW_REPAIR_DONE (R444, R447). -/
def Dev.rowRepairDone (d : Dev) (loc : Dword) : Dev :=
  let isIt (r : Repair) : Bool := !r.array && rowKey r.loc == rowKey loc
  match d.ddr.repairs.find? isIt with
  | none => d
  | some r =>
    let d1 := (d.modDdr fun x => { x with repairs := dropFirst isIt x.repairs }).rowRepaired r.loc
    match r.tag with
    | some c => d1.complete c stOk
    | none => d1

/-- ARRAY_REPAIR_DONE (R445): the spare array is in use, with spare rows of its own. -/
def Dev.arrayRepairDone (d : Dev) (loc : Dword) : Dev :=
  let isIt (r : Repair) : Bool := r.array && arrayKey r.loc == arrayKey loc
  match d.ddr.repairs.find? isIt with
  | none => d
  | some r =>
    let d1 := d.modDdr fun x => { x with
      repairs := dropFirst isIt x.repairs
      rows := sclear (fun k => k % 2 ^ 32 == arrayKey loc) x.rows
      nv := { x.nv with spares := sset (fun _ => 0) x.nv.spares (arrayKey loc) 0 } }
    (((d1.count 0x8004C).countNow fun c => { c with arrays := c.arrays + 1 }).record r.loc 2).emitMem 0x0B04 r.loc []

/-! ### On-chip words (R428, Table 15-2) -/

/-- The unit a word belongs to is fitted, its port die reachable. -/
def Dev.hasMem (d : Dev) : OnChip → Bool
  | .winder w _ => d.winderUp w.val
  | .decoder n => d.variant.hasDecoders && d.winderUp n.val
  | .portSram p => d.portUp p.val
  | .egressFrame u _ => d.variant.hasLane u.val
  | _ => true

/-- MEM_UNCORRECTABLE with the row of Table 15-2. -/
def Dev.uncorrectable (d : Dev) (loc : Dword) (row : Nat) : Dev := d.emitMem 0x8B01 loc (le 1 row)

/-- An uncorrectable on-chip word (Table 15-2). -/
def Dev.chipBad (d : Dev) (loc : Dword) : OnChip → Dev
  | .winder w data => d.winderFault w.val (if data then 2 else 1)
  | .decoder n => d.decoderFault n.val 3
  | .portSram p => (d.uncorrectable loc 3).portFault p.val
  | .flowFrame h i => (d.modFlowQ h.toNat fun x => { x with q := modAt (fun f => { f with bad := true }) x.q i }).uncorrectable loc 4
  | .egressFrame u i =>
    (d.modUplink u.val fun x => { x with q := modAt (fun f => { f with bad := true }) x.q i }).uncorrectable loc 4
  | .tableEntry t slot =>
    (d.setTable t { d.table t with slots := sdel (d.table t).slots slot }).uncorrectable loc 5
  | .rule upstream store r =>
    (d.modSet (b2n upstream) fun x => x.modStore (b2n store) fun st => { st with rules := sdel st.rules r.val }).uncorrectable loc 5
  | .macCache => d.uncorrectable loc 6
  | .hub bothLost => if bothLost then (d.uncorrectable loc 7).hubDieFault else d.uncorrectable loc 7
  | .driftBuffer => d.uncorrectable loc 8

/-- A read of an on-chip word (R425, R427, R428). -/
def Dev.chipRead (d : Dev) (loc : Dword) (mem : OnChip) (raw : BitVec 39) : Dev :=
  if !d.hasMem mem then d
  else match secded chipCols raw.toNat with
    | .good => d
    | .fixed i =>
      ((d.count 0x80040).modDdr fun x => { x with cnt := { x.cnt with ceChip := x.cnt.ceChip + 1 } }).corrected loc (bitsOf loc.toNat 15 8) i
    | .bad =>
      ((d.count 0x80044).modDdr fun x => { x with cnt := { x.cnt with ueChip := x.cnt.ueChip + 1 } }).chipBad loc mem

/-! ### Freeze (R437 to R439) -/

/-- A subchannel register. -/
def Dev.countSub (d : Dev) (s ofs : Nat) (n : Nat := 1) : Dev := d.count (0x80100 + 0x40 * s + ofs) n

/-- The capture block (Table 15-5). -/
def Dev.captureOf (d : Dev) (s cause synd raw : Nat) (fexp : Bool) (cmdNow : Half) (loc : Dword) : Bytes :=
  padTo 64 (le 1 cause ++ le 1 synd ++ le 2 0 ++ le 5 raw ++ le 1 (b2n fexp) ++ le 2 cmdNow.toNat ++ le 8 loc.toNat ++
    le 8 d.stamp.toNat ++ le 1 (d.sub s).mr4.toNat ++ le 1 (d.sub s).debt ++ le 2 0 ++ le 4 (d.sub s).ce)

/-- A running thaw of a subchannel fails (R440). -/
def Dev.failThaw (d : Dev) (s code : Nat) : Dev :=
  match (d.sub s).thaw with
  | none => d
  | some c => (d.modSub s fun x => { x with st := 1, thaw := none }).complete c stFailed (le 1 code)

/-- A subchannel freezes (R437, R438, R440). -/
def Dev.freeze (d : Dev) (s cause : Nat) (capture : Bytes) (loc : Dword) : Dev :=
  if (d.sub s).st = 1 || (d.sub s).st = 3 then d
  else
    let d1 := (d.failThaw s 2).modSub s fun x => { x with st := 1, capture := some capture }
    let d2 := (d1.record loc 5).emit 0x8B02 (srcOf 8 s) (le 8 loc.toNat ++ le 1 cause)
    let q := s ^^^ 4
    if (d2.sub q).st = 0 then d2
    else (d2.failThaw q 2).emit 0x8B07 (srcOf 8 s) (le 1 s ++ le 1 q)

/-- A command error of a subchannel at a location (R426): the bits read and their syndrome are not stated. -/
def Dev.commandError (d : Dev) (s : Nat) (cmdNow : Half) (loc : Dword) : Dev :=
  if (d.sub s).st = 1 || (d.sub s).st = 3 then d
  else
    let (raw, d1) := (d.countSub s 0x10).pick 40
    let (synd, d2) := d1.pick 7
    let (f, d3) := d2.pick 1
    d3.freeze s 3 (d3.captureOf s 3 synd raw (f == 1) cmdNow loc) loc

/-- A read of a DRAM word (R425, R427, R437). -/
def Dev.dramRead (d : Dev) (s : Nat) (loc : Dword) (addr : Nat) (raw : BitVec 40) (cmdNow : Half) : Dev :=
  if (d.sub s).st = 1 || (d.sub s).st = 3 then d
  else
    let x := secded dramCols raw.toNat
    let fexp := foldBit s addr
    let synd := syndrome dramCols raw.toNat + 64 * b2n (parityOf 40 raw.toNat)
    let stop (cause : Nat) (d : Dev) : Dev :=
      ((d.countSub s 0x08).modDdr fun y => { y with cnt := { y.cnt with ueDram := y.cnt.ueDram + 1 } }).freeze s cause
        (d.captureOf s cause synd raw.toNat fexp cmdNow loc) loc
    if x = .bad then stop 1 d
    else if bitOf (x.apply raw.toNat) 32 != fexp then stop 2 (d.countSub s 0x0C)
    else match x with
      | .fixed i =>
        ((((d.countSub s 0x04).modSub s fun y => { y with ce := y.ce + 1 }).modDdr fun y =>
          { y with cnt := { y.cnt with ceDram := y.cnt.ceDram + 1 } }).send (.dramWrite loc.toNat (x.apply raw.toNat))).corrected loc addr i
      | _ => d

/-- DRAM_FREEZE (R437). -/
def Dev.dramError (d : Dev) (s : Nat) (e : DramError) : Dev :=
  match e with
  | .word loc addr raw cmdNow => d.dramRead s loc addr raw cmdNow
  | .command loc cmdNow => d.commandError s cmdNow loc

/-- A location of a subchannel of which nothing more is known. -/
def Dev.someLoc (d : Dev) (s : Nat) : Dword × Dev :=
  let (x, d1) := d.pick 48
  (BitVec.ofNat 64 (3 + 256 * s + 65536 * x), d1)

/-- DDR_ALERT (R480): the subchannels of the line that report an error, or all of them in service. -/
def Dev.ddrAlert (d : Dev) (line : Bool) (parity : Byte) (cmdNow : Half) : Dev :=
  let mine := (List.range 4).map (4 * b2n line + ·)
  let hit := mine.filter fun s => parity.getLsbD s
  (if hit = [] then mine.filter fun s => (d.sub s).st == 0 else hit).foldl
    (fun d s => let (loc, d1) := d.someLoc s; d1.commandError s cmdNow loc) d

/-- SCRUB_PASS (R429). -/
def Dev.scrub (d : Dev) (loc : Dword) : ScrubWord → Dev
  | .chip mem raw => d.chipRead loc mem raw
  | .dram addr raw => if locSub loc < 8 then d.dramRead (locSub loc) loc addr raw 0 else d

/-! ### Refresh and real-time bursts (R433 to R436) -/

/-- REFRESH_TICK (R433): forced refreshes down to a debt of 3, then as many due ones as were issued before the next tick. -/
def Dev.refreshTick (d : Dev) (s : Nat) : Dev :=
  if !d.ddr.ctrl.getLsbD 0 then d
  else
    let n := min 3 ((d.sub s).debt + 1)
    let (k, d1) := d.pick 2
    d1.modSub s fun x => { x with debt := n - k % (n + 1) }

/-- MR4_POLL (R435). -/
def Dev.mr4Poll (d : Dev) (s : Nat) (mr4 : Byte) (hot : Bool) : Dev :=
  if !d.ddr.ctrl.getLsbD 0 then d
  else
    let x := d.sub s
    let d1 := d.modSub s fun x => { x with mr4 := mr4, hot := hot }
    if hot && !x.hot then
      (((d1.countSub s 0x20).emit 0x0B06 (srcOf 8 s) (le 1 (2 * x.debt) ++ le 1 mr4.toNat))).modSub s fun x => { x with debt := min 3 (2 * x.debt) }
    else if !hot && x.hot then d1.modSub s fun x => { x with debt := ceilDiv x.debt 2 }
    else d1

/-- REAL_TIME_BURST (R434, R436): ticks that force a refresh split the burst at a 64-byte boundary; each activate may bring an RFM. -/
def Dev.realTimeBurst (d : Dev) (s granules activates ticks tookNs : Nat) : Dev :=
  if (d.sub s).st != 0 then d
  else
    let forced := (d.sub s).debt + ticks - 3
    let d1 := if forced = 0 then d else (d.countSub s 0x14 (min forced (granules - 1))).modSub s fun x => { x with debt := 3 }
    let d2 := if forced = 0 then d1.modSub s fun x => { x with debt := x.debt + ticks } else d1
    let d3 := if 2000 < tookNs then d2.countSub s 0x18 else d2
    (List.range activates).foldl (fun d _ =>
      let (b, d1) := d.pick (bitsOf d.ddr.ctrl.toNat 12 8)
      if b = 0 then d1.countSub s 0x1C else d1) d3

/-! ### Thaw and retire (R440 to R442) -/

/-- Repairs a row at once, as part of a thaw; false when it has no spare. -/
def Dev.thawRow (d : Dev) (loc : Dword) : Bool × Dev :=
  if d.sparesLeft loc = 0 then (false, d.sparesGone loc 1) else (true, (d.spendSpare loc).rowRepaired loc)

/-- Repairs rows in turn; false when one of them has no spare. -/
def Dev.thawRows (d : Dev) : List Dword → Bool × Dev
  | [] => (true, d)
  | loc :: ls =>
    let r := d.thawRow loc
    let rest := r.2.thawRows ls
    (r.1 && rest.1, rest.2)

/-- Two locations of one DRAM bank at most 8 rows apart. -/
def nearRow (a b : Dword) : Bool := arrayKey a == arrayKey b && decide (locRow a ≤ locRow b + 8 ∧ locRow b ≤ locRow a + 8)

/-- Gathered counters of tree-port flows whose backing lies on subchannel `s`, for so many flows (Table 16-1, log entry 44). -/
def flowCtrsOn (flows s : Nat) : Nat := flows / 4 * (if s % 2 = 0 then 4 else 2)

/-- MEM_THAW (R440, R442). -/
def cmdMemThaw (c : Tag) (obj : Word) (_ : Dev) : HostCmd :=
  let n := objIndex obj
  { opc := 0x0B01
    good := objIs obj 5 80 || objIs obj 6 80 || objIs obj 0x0C 8
    body := fun d =>
      let bad : Dev := d.complete c stFailed [0x03#8]
      let march (u : RepairUnit) : Dev := d.modDdr fun x => { x with march := x.march ++ [(c, u)] }
      if h : objClass obj = 5 ∧ n < 80 then
        if (d.winder n).st = 2 && !(d.winder n).selfTest then march (.winder ⟨n, h.2⟩) else bad
      else if h : objClass obj = 6 ∧ n < 80 then
        if (d.dec n).st = 2 && !(d.dec n).selfTest then march (.decoder ⟨n, h.2⟩) else bad
      else if (d.sub n).st = 1 then d.modSub n fun x => { x with st := 2, thaw := some c }
      else bad }

/-- Retires a winder or decoder (R442): it takes no further part. -/
def Dev.retireUnit (d : Dev) (dec : Bool) (n : Nat) : Dev :=
  let d1 := if dec then d.modDec n fun x => { x with st := 3 } else d.modWinder n fun x => { x with st := 3 }
  d1.modNv fun x => if dec then { x with decs := x.decs ++ [n] } else { x with winders := x.winders ++ [n] }

/-- The record of a retired winder or decoder: the manual does not say what location it holds. -/
def Dev.recordUnit (d : Dev) : Dev :=
  let (x, d1) := d.pick 64
  d1.record (BitVec.ofNat 64 x) 3

/-- MEM_RETIRE (R441, R442). -/
def cmdMemRetire (c : Tag) (obj : Word) (_ : Dev) : HostCmd :=
  let n := objIndex obj
  { opc := 0x0B02
    good := objIs obj 5 80 || objIs obj 6 80 || objIs obj 0x0C 8
    body := fun d =>
      let bad : Dev := d.complete c stFailed [0x03#8]
      if objClass obj = 5 then
        if (d.winder n).st = 2 && !(d.winder n).selfTest then ((d.retireUnit false n).recordUnit).complete c stOk else bad
      else if objClass obj = 6 then
        if (d.dec n).st = 2 && !(d.dec n).selfTest then ((d.retireUnit true n).recordUnit).complete c stOk else bad
      else if (d.sub n).st = 1 then
        let (loc, d1) := d.someLoc n
        (((d1.modSub n fun x => { x with st := 3, capture := none }).modNv fun x => { x with subs := x.subs ++ [n] }).record loc 4).complete c stOk
      else bad }

/-- MARCH_TEST_DONE (R442): the rows that failed are repaired; a unit that passes is its cluster's spare. -/
def Dev.marchDone (d : Dev) (o : RepairUnit) (bad : List Dword) (pass : Bool) : Dev :=
  match d.ddr.march.find? fun e => e.2 == o with
  | none => d
  | some (c, _) =>
    let r := (d.modDdr fun x => { x with march := x.march.filter fun e => e.2 != o }).thawRows bad
    if !pass || !r.1 then r.2.complete c stFailed [0x01#8]
    else
      (match o with
        | .winder w => r.2.setWinder w.val {}
        | .decoder n => r.2.modDec n.val fun _ => {}).complete c stOk

/-- MEM_ROW_REPAIR (R447). -/
def cmdMemRowRepair (c : Tag) (obj : Word) (loc : Dword) (d0 : Dev) : HostCmd :=
  { opc := 0x0B03
    good := objIs obj 0 1 && d0.locGood loc
    reach := reachIf (objIs obj 0 1) .spares
    body := fun d =>
      if d.repairing loc then
        d.modDdr fun x => { x with repairs := modWhere (fun r => !r.array && rowKey r.loc == rowKey loc) (fun r => { r with tag := some c }) x.repairs }
      else if d.sparesLeft loc = 0 then d.complete c stFailed [0x01#8]
      else (d.spendSpare loc).modDdr fun x => { x with repairs := x.repairs ++ [{ array := false, loc := loc, tag := some c }] } }

/-- MEM_SCRUB_SET (R447). -/
def cmdMemScrubSet (c : Tag) (obj : Word) (sramS : Half) (dramH : Byte) (_ : Dev) : HostCmd :=
  { opc := 0x0B04
    good := objIs obj 0 1 && decide (sramS.toNat ≤ 3600 ∧ dramH.toNat ≤ 168)
    reach := reachIf (objIs obj 0 1) .scrub
    body := fun d => (d.modDdr fun x => { x with
      sramS := if sramS = 0 then x.sramS else sramS.toNat
      dramH := if dramH = 0 then x.dramH else dramH.toNat }).complete c stOk }

/-! ### DRAM_READY, registers (R469, Tables 15-12 to 15-15) -/

/-- A write of MEM_CTRL. -/
def Dev.memCtrl (d : Dev) (v : Word) : Dev := d.modDdr fun x => { x with ctrl := v &&& 0x000F1F07#32 }

/-- MEM_STATUS. -/
def Dev.memStatus (d : Dev) : Nat :=
  let mask (st : Nat) : Nat := maskOf ((List.range 8).filter fun s => (d.sub s).st == st)
  b2n d.ddr.ready + 2 * b2n d.ddr.nvmOk + 4 * b2n (decide (4096 ≤ d.ddr.nv.recs.length)) + 8 * b2n d.ddr.sparesOut + 16 * mask 1 + 4096 * mask 3

/-- MEM_SUB_STATUS[s]. -/
def Dev.subStatus (d : Dev) (s : Nat) : Nat :=
  let x := d.sub s
  x.st + 4 * b2n x.hot + 16 * x.debt + 256 * d.fewestSpares 64 fun k => k % 65536 == 3 + 256 * s

end Sys2Proof.Machine
end

