-- ==== Sys2Proof/Machine/Counters.lean ====
section
/-! DEFINITION. The tally reader (chapter 16): counter indices, gathering, snapshots, backing store faults, profiler commands; and the
end of a thaw, which restarts counters (R440, R456). -/
namespace Sys2Proof.Machine
open Sys2Proof

/-! ### Counter registers (R450, Tables 2-13 to 15-11) -/

/-- A run of counter registers: instances at `base + stride * i`, offsets `lo` to `hi`, and which instances the variant carries. -/
structure CtrBlock where
  base : Nat
  stride : Nat
  n : Nat
  lo : Nat
  hi : Nat
  has : Variant → Nat → Bool

def anyVar (_ : Variant) (_ : Nat) : Bool := true

/-- The counter registers of the hub die (Table 19-2). -/
def hubCtrs : List CtrBlock := [
  ⟨0x10400, 0x20, 16, 0x18, 0x18, anyVar⟩,
  ⟨0x20000, 0x40, 2, 0x10, 0x30, anyVar⟩,
  ⟨0x30000, 0x100, 1, 0x40, 0x64, anyVar⟩,
  ⟨0x40000, 0x100, 1, 0x80, 0xA0, anyVar⟩,
  ⟨0x50000, 0x200, 32, 0x40, 0x50, Variant.hasLane⟩,
  ⟨0x54000, 0x400, 32, 0x100, 0x184, Variant.hasLane⟩,
  ⟨0x54000, 0x400, 32, 0x200, 0x274, Variant.hasLane⟩,
  ⟨0x60000, 0x100, 1, 0x40, 0x4C, fun v _ => v.hasProt⟩,
  ⟨0x60100, 0x10, 64, 0x08, 0x08, fun v p => v.hasProt && v.hasPort p⟩,
  ⟨0x70000, 0x100, 1, 0x40, 0x48, anyVar⟩,
  ⟨0x70100, 0x10, 8, 0x04, 0x04, anyVar⟩,
  ⟨0x80000, 0x100, 1, 0x40, 0x4C, anyVar⟩,
  ⟨0x80100, 0x40, 8, 0x04, 0x20, anyVar⟩]

/-- The counter registers of port die `x` (Table 19-3). -/
def dieCtrs (x : Nat) : List CtrBlock :=
  let base := 0x1000000 * (x + 1)
  let has (v : Variant) (_ : Nat) : Bool := v.hasDie x
  [⟨base, 0x40000, 32, 0x40, 0x54, has⟩, ⟨base, 0x40000, 32, 0x140, 0x150, has⟩, ⟨base, 0x40000, 32, 0x240, 0x254, has⟩,
    ⟨base, 0x40000, 32, 0x340, 0x368, has⟩, ⟨base + 0x840000, 0x100, 40, 0x04, 0x04, fun v _ => v.hasDecoders && v.hasDie x⟩]

def ctrBlocks : List CtrBlock := hubCtrs ++ dieCtrs 0 ++ dieCtrs 1

/-- A counter register of a block that the variant carries lies at BAR0 offset `off`. -/
def CtrBlock.holds (b : CtrBlock) (v : Variant) (off : Nat) : Bool :=
  let i := (off - b.base) / b.stride
  let o := (off - b.base) % b.stride
  decide (b.base ≤ off ∧ i < b.n ∧ b.lo ≤ o ∧ o ≤ b.hi ∧ off % 4 = 0) && b.has v i

/-- A counter register lies at BAR0 offset `off`. -/
def isCtrReg (v : Variant) (off : Nat) : Bool := ctrBlocks.any fun b => b.holds v off

/-- The index names a gathered counter of a unit the variant carries (Table 16-1). -/
def isGathered (v : Variant) (i : Nat) : Bool :=
  if i < 8388608 then decide (i % 8 < 6) && v.hasPort (i / 131072) else decide (16777216 ≤ i) && isCtrReg v (4 * (i - 16777216))

/-- How many counter registers of a block have their backing on subchannel `s`. -/
def CtrBlock.on (b : CtrBlock) (v : Variant) (s : Nat) : Nat :=
  (List.range b.n).foldl (fun n i => if !b.has v i then n else
    n + ((List.range ((b.hi - b.lo) / 4 + 1)).filter fun k => subOfCtr (ctrIdx (b.base + b.stride * i + b.lo + 4 * k)) == s).length) 0

/-- How many gathered counters have their backing on subchannel `s`. -/
def countersOn (v : Variant) (s : Nat) : Nat :=
  flowCtrsOn (if v.hasDie 1 then 1048576 else 524288) s + ctrBlocks.foldl (fun n b => n + b.on v s) 0

/-! ### Gathering (R451 to R453, R456) -/

def Dev.back (d : Dev) (i : Nat) : Backing := sget (fun _ => {}) d.tally.back i
def Dev.modTally (d : Dev) (f : Tally → Tally) : Dev := { d with tally := f d.tally }
def Dev.setBack (d : Dev) (i : Nat) (x : Backing) : Dev := d.modTally fun t => { t with back := sset (fun _ => {}) t.back i x }

/-- The subchannel of a backing counter is in service. -/
def Dev.backOk (d : Dev) (i : Nat) : Bool := (d.sub (subOfCtr i)).st == 0

/-- Gathers a counter (R451). -/
def Dev.gather (d : Dev) (i : Nat) : Dev :=
  if !d.backOk i then d
  else
    let c := d.ctr i
    let x := d.back i
    ((d.setBack i { b := x.b + c.wide - x.r, r := c.val.setWidth 64, at0 := some d.now }).setCtr i { c with cp := false }).modTally fun t =>
      { t with gatherMax := max t.gatherMax ((x.at0.map fun a => (d.now - a) / 1000).getD 0) }

/-- COUNTER_GATHER (R451, R452, R469). -/
def Dev.counterGather (d : Dev) (i : Nat) : Dev := if d.ddr.ready && isGathered d.variant i then d.gather i else d

/-- A write of a local counter (R453): R moves by the same amount. -/
def Dev.writeCtr (d : Dev) (i : Nat) (v : Word) : Dev :=
  let c := d.ctr i
  let x := d.back i
  ((d.setCtr i { c with val := v }).setBack i { x with r := x.r + v.setWidth 64 - c.val.setWidth 64 }).halfRange i c.val v

/-- The counters of subchannel `s` restart from their values at the freeze (R456). -/
def Dev.restartCtrs (d : Dev) (s : Nat) : Dev :=
  let keys := ((d.ctrs.map (·.1) ++ d.tally.back.map (·.1)).filter fun i => subOfCtr i == s).eraseDups
  (keys.foldl (fun d i => (d.setBack i { d.back i with r := (d.ctr i).val.setWidth 64 }).setCtr i { d.ctr i with cp := false }) d).emit 0x8C04
    (srcOf 0xF 0) (le 1 s ++ le 3 0 ++ le 4 (countersOn d.variant s))

/-- THAW_COPY_DONE (R440): rows near the captured location that failed the test, or whose count has reached ROW_TH, are repaired; the
subchannel returns to service. -/
def Dev.thawDone (d : Dev) (s : Nat) (bad : List Dword) : Dev :=
  match (d.sub s).thaw with
  | none => d
  | some c =>
    let loc : Dword := BitVec.ofNat 64 (fld ((d.sub s).capture.getD []) 12 8)
    let near := bad.filter fun l => nearRow loc l
    let (th, d1) := d.reached 0
    let due (n : Nat) : Bool := if d.ddr.rowTh = 0 then th else decide (d.ddr.rowTh ≤ n)
    let worn := ((d.ddr.rows.filter fun e => due e.2.n).map fun e => BitVec.ofNat 64 e.1).filter fun l =>
      nearRow loc l && !near.any fun b => rowKey b == rowKey l
    let r := d1.thawRows near
    let d2 := (r.2.thawRows worn).2
    if !r.1 then (d2.modSub s fun x => { x with st := 1, thaw := none }).complete c stFailed [0x01#8]
    else ((d2.modSub s fun x => { x with st := 0, thaw := none, capture := none, ce := 0 }).restartCtrs s).complete c stOk

/-! ### Snapshots (R455, R456) -/

/-- TAL_SNAPSHOT (R455). -/
def cmdTalSnapshot (c : Tag) (obj : Word) (a : SnapArgs) (_ : Dev) : HostCmd :=
  let withAt := a.sflags.getLsbD 0
  let nsOk := !withAt || decide (a.ns.toNat % 2 ^ 30 < 1000000000)
  { opc := 0x0C01
    good := objIs obj 0 1 && decide (a.first.toNat < 2 ^ 25 ∧ a.first.toNat + a.count.toNat ≤ 2 ^ 25 ∧ a.addr.toNat % 64 = 0) && nsOk
    reach := reachIf (objIs obj 0 1 && nsOk) .host
    body := fun d =>
      let soon := d.devNs + (if d.time.frac = 0 then 2000 else 2001)
      let t := if withAt then max soon (a.sec.toNat * 1000000000 + a.ns.toNat % 2 ^ 30) else soon
      let r : SnapReq := { tag := c, at0 := t, first := a.first.toNat, count := a.count.toNat, addr := a.addr.toNat }
      d.modTally fun x => { x with snap := some r } }

/-- SNAPSHOT_INSTANT (R455): every counter is gathered and copied; counters not named by a key hold zero and stay zero. -/
def Dev.snapInstant (d : Dev) : Dev :=
  match d.tally.snap with
  | none => d
  | some r =>
    if r.taken || !d.ddr.ready then d
    else
      let keys := ((d.ctrs.map (·.1) ++ d.tally.back.map (·.1)).filter (isGathered d.variant)).eraseDups
      let d1 := keys.foldl (fun d i => d.gather i) d
      let dead := (List.range 8).filter fun s => (d.sub s).st != 0
      d1.modTally fun t => { t with
        copy := keys.foldl (fun m i => sset (fun _ => 0#64) m i (d1.back i).b) []
        snap := some { r with taken := true, dead := dead }
        lastAt := r.at0
        invalid := dead.foldl (fun n s => n + countersOn d.variant s) 0 }

/-- What the snapshot region holds for a counter (R456). -/
def Dev.snapValue (d : Dev) (r : SnapReq) (i : Nat) : Nat :=
  if !isGathered d.variant i then 0
  else if r.dead.contains (subOfCtr i) then 2 ^ 64 - 1
  else (sget (fun _ => 0#64) d.tally.copy i).toNat

/-- SNAPSHOT_COPY_DONE (R455). -/
def Dev.snapDone (d : Dev) : Dev :=
  match d.tally.snap with
  | none => d
  | some r =>
    if !r.taken then d
    else
      let d1 := if r.count = 0 then d else d.write r.addr ((List.range r.count).flatMap fun i => le 8 (d.snapValue r (r.first + i)))
      (d1.modTally fun t => { t with snap := none }).complete r.tag stOk
        (le 8 (packTime (r.at0 / 1000000000) (r.at0 % 1000000000)).toNat)

/-! ### Profiler commands (R459, R461) -/

/-- TAL_PROFILE_START. -/
def cmdTalProfileStart (c : Tag) (obj : Word) (a : ProfArgs) (_ : Dev) : HostCmd :=
  let s : ProfSet :=
    { port := a.port.toNat, mode := a.mode.toNat, ring := a.pflags.getLsbD 0, lo := a.pcLo.toNat % 4096, hi := a.pcHi.toNat % 4096
      every := a.every.toNat, startSfc := a.startSfc.toNat % 2 ^ 51, frames := a.frames.toNat }
  { opc := 0x0C03
    good := objIs obj 7 16 && decide (s.port < 4 ∧ s.mode < 3 ∧ s.lo ≤ s.hi ∧ (s.mode = 2 → 2 ≤ s.every))
    reach := reachIf (objIs obj 7 16) (.profiler (objIndex obj))
    body := fun d =>
      let x := objIndex obj
      (d.profStop x 3).modCluster x fun y => { y with prof := { y.prof with recs := [], wrapped := false, opn := 0, pend := some (c, s) } } }

/-- TAL_PROFILE_STOP. -/
def cmdTalProfileStop (c : Tag) (obj : Word) (_ : Dev) : HostCmd :=
  { opc := 0x0C04
    good := objIs obj 7 16
    body := fun d =>
      let x := objIndex obj
      (d.profStop x 3).complete c stOk (le 2 (d.cluster x).prof.recs.length) }

/-! ### Registers (Tables 16-7 to 16-9) -/

/-- TAL_STATUS. -/
def Dev.talStatus (d : Dev) : Nat := b2n d.tally.snap.isSome + 2 * b2n ((List.range 8).any fun s => (d.sub s).st != 0)

/-- A window register of port `x` (R458): the latched results, SEQ as it stands. -/
def Dev.winReg (d : Dev) (x ofs : Nat) : Nat :=
  let w := d.win x
  match ofs with
  | 0x00 => b2n w.en + 2 * b2n w.evt + 2 ^ 16 * w.ms
  | 0x04 => w.seq.toNat
  | 0x08 => w.latched.outB % 2 ^ 32
  | 0x0C => w.latched.outB / 2 ^ 32 % 2 ^ 32
  | 0x10 => w.latched.inB % 2 ^ 32
  | 0x14 => w.latched.inB / 2 ^ 32 % 2 ^ 32
  | 0x18 => w.latched.outF % 2 ^ 32
  | 0x1C => w.latched.inF % 2 ^ 32
  | _ => 0

end Sys2Proof.Machine
end

