-- ==== Sys2Proof/Machine/TreePort.lean ====
section
/-! DEFINITION. Tree ports (chapter 03): commands, the frame start, downstream framing, key slots, profiles, PLOAM, TXDIS, drain,
module management; and the winder commands of chapter 05. -/
namespace Sys2Proof.Machine
open Sys2Proof

/-! ### TXDIS (R115) -/

/-- The level driven on a lane's TXDIS ball: asserted unless the lane is lit and nothing holds it (R23, R32, R115, R380). -/
def Dev.txdis (d : Dev) (p : Nat) (l : Lane) : Bool :=
  let q := d.port p
  let x := q.lane l
  d.board.fenceIn || d.dieLost (dieOfPort p) || !(x.st == .lit || x.st == .draining) || q.hold != 0 ||
    (d.tree p).lightF || !decide ((d.tree p).role ≤ 1)

/-! ### Generations, enable, disable (R88 to R91, R117 to R123) -/

/-- A generation that Table 3-1 allows on the lane. -/
def genAllowed : Lane → Nat → Bool
  | .main, g => decide (g ≤ 3)
  | .comp, g => g == 0 || g == 2 || g == 3 || g == 4
/-- A pair of Table 3-2. -/
def genPair (m c : Nat) : Bool :=
  match m with
  | 1 => genAllowed .comp c
  | 2 => c == 0 || c == 4
  | 3 => c == 0 || c == 4
  | 0 => genAllowed .comp c
  | _ => false

/-- TREE_LANE_SET (R90, R91). -/
def cmdTreeLaneSet (c : Tag) (obj : Word) (mainGen compGen gflags : Byte) (d0 : Dev) : HostCmd :=
  { opc := 0x0103
    good := objIs obj 1 64 && (mainGen == 0xFF#8 || genAllowed .main mainGen.toNat) && (compGen == 0xFF#8 || genAllowed .comp compGen.toNat)
    reach := reachIf (objIs obj 1 64) (.tree (objIndex obj))
    absent := d0.variant == .skx6410 && mainGen == 0x01#8
    body := fun d => (d.modPort (objIndex obj) fun q =>
      let q1 := if mainGen = 0xFF#8 then q else q.modLane .main fun x => { x with pend := mainGen.toNat }
      if compGen = 0xFF#8 then q1
      else { (q1.modLane .comp fun x => { x with pend := compGen.toNat }) with gponFecPend := gflags.getLsbD 0 }).complete c stOk }

/-- A lane starts (R91, R117): it takes its pending values; without a generation it stays off. -/
def Port.startLane (q : Port) (l : Lane) : Port :=
  if (q.lane l).running then q
  else
    let q1 := q.modLane l fun x => { x with gen := x.pend, st := if x.pend = 0 then .off else .dark, darkSent := false }
    let q2 := match l with | .main => q1 | .comp => { q1 with gponFec := q1.gponFecPend }
    if (q2.lane l).gen = 0 || q2.counting then q2 else { q2 with counting := true, fresh := true, sfc := 0 }

/-- A tree that R32 fenced without a release is active again once its fault's scope has been reset and the host enables it (R32, log entry 49). -/
def Dev.rejoin (d : Dev) (p : Nat) : Dev :=
  if (d.tree p).role == 4 && (d.tree p).fenceBy == 0 && (d.port p).hold == 0 then d.modTree p fun x => { x with role := 1 } else d

/-- TREE_ENABLE (R94, R117, R123; MIN_RATE_CUT by R332). -/
def cmdTreeEnable (c : Tag) (obj : Word) (lanes : Byte) (d0 : Dev) : HostCmd :=
  let p := objIndex obj
  let go (b : Nat) (l : Lane) (q : Port) : Port := if lanes.getLsbD b then q.startLane l else q
  let after := go 1 .comp (go 0 .main (d0.port p))
  { opc := 0x0101
    good := objIs obj 1 64 && genPair after.main.gen after.comp.gen
    reach := reachIf (objIs obj 1 64) (.tree p)
    body := fun d =>
      let d0 := (d.rejoin p).modPort p fun q => go 1 .comp (go 0 .main q)
      let ev (l : Lane) (x : Dev) : Dev := if ((d.port p).lane l).gen = ((d0.port p).lane l).gen then x else x.genChanged p l
      let d1 := ev .comp (ev .main d0)
      let w (b : Nat) (l : Lane) : Bool := lanes.getLsbD b && ((d1.port p).lane l).st == .dark
      if w 0 .main || w 1 .comp then d1.modPort p fun q => { q with enableWait := q.enableWait ++ [(c, w 0 .main, w 1 .comp)] }
      else d1.complete c stOk }

/-- Ends the commands that wait for a lane: pairs of flags main and companion; done when none is left. -/
def doneWaits (l : Lane) (ws : List (Tag × Bool × Bool)) : List (Tag × Bool × Bool) × List Tag :=
  let off (w : Tag × Bool × Bool) : Tag × Bool × Bool := match l with
    | .main => (w.1, false, w.2.2)
    | .comp => (w.1, w.2.1, false)
  let ws1 := ws.map off
  (ws1.filter fun w => w.2.1 || w.2.2, (ws1.filter fun w => !(w.2.1 || w.2.2)).map (·.1))

/-- Tags of the PLOAM sends queued or waiting on a lane. -/
def LaneS.ploamTags (x : LaneS) : List Tag := (x.hostQ ++ x.hostWait).map (·.tag)

/-- A running lane begins its drain (R108, R119). -/
def Dev.startDrain (d : Dev) (p : Nat) (l : Lane) : Dev :=
  let tags := ((d.port p).lane l).ploamTags
  ((d.modPort p fun q => q.modLane l fun x => { x with st := .draining, hostQ := [], hostWait := [] }).abandonTags tags)

/-- TREE_DISABLE (R119). -/
def cmdTreeDisable (c : Tag) (obj : Word) (lanes : Byte) (_ : Dev) : HostCmd :=
  let p := objIndex obj
  { opc := 0x0102
    good := objIs obj 1 64
    body := fun d =>
      let w (b : Nat) (l : Lane) : Bool := lanes.getLsbD b && ((d.port p).lane l).live
      let d1 := if w 0 .main then d.startDrain p .main else d
      let d2 := if w 1 .comp then d1.startDrain p .comp else d1
      if w 0 .main || w 1 .comp then d2.modPort p fun q => { q with drainWait := q.drainWait ++ [(c, w 0 .main, w 1 .comp)] }
      else d2.complete c stOk }

/-- A command on a terminal or allocation of a lane (R122): a terminal that is not ranged has the lane of its ranging attempt, if any. The
sends of PLOAM messages are known by their queues. -/
def onLane (q : Port) (l : Lane) (a : Active) : Bool :=
  match objClass a.obj with
  | 2 =>
    let t := q.term (objTerm a.obj).2
    a.opc != 0x0108 && match q.attempts.find? fun b => b.tag == a.tag with
      | some b => b.lane == l
      | none => t.state != 0 && t.lane == l
  | 3 => laneOf (q.wnd.rLane (objAlloc a.obj).2) == l
  | _ => false

/-- LANE_DRAIN_END (R120 to R122, R333). DESIGN CHOICE (log entry 46): the lane's discovery programme stays and goes on once the lane is
enabled again. -/
def Dev.drainEnd (d : Dev) (p : Nat) (l : Lane) : Dev :=
  let q := d.port p
  let x := q.lane l
  if x.st != .draining then d
  else
    let n := x.buf.length
    let d1 := if n = 0 then d else (d.countPort p 0x50 n).emitPort p 0x0106 (le 4 l.code ++ le 4 n)
    let d2 := d1.missAll p 5 fun s => s.g.lane == l
    let terms := (q.terms.filter fun e => e.2.lane == l && e.2.state != 0).map (·.1)
    let d3 := d2.modPort p fun q =>
      let q1 := terms.foldl (fun q t => (q.modTerm t fun x => { x with state := 0, eqdPend := 0 }).markRanged t false) q
      { (q1.modLane l fun x => { x with st := .off, buf := [], map := { tail := 0 }, sealed := none, prevFixed := [], tail := 0, winsOut := [], rngQ := [], los := x.los }) with
        rngReqs := q1.rngReqs.filter fun r => !(r.lane == l && r.ranging) }
    let d4 := (d3.abandonPort p fun a => onLane q l a).abandonTags x.ploamTags
    let (ws, tags) := doneWaits l (d4.port p).drainWait
    let d5 := ((d4.modPort p fun q => { q with drainWait := ws }).discardLane p l).injEndAll stAbandoned (x.buf.map (·.inj))
    tags.foldl (fun d c => d.complete c stOk) d5

/-! ### Profiles and keys (R98 to R104) -/

/-- TREE_PROFILE_SET (R103, R104): at the first seal point. -/
def cmdTreeProfileSet (c : Tag) (obj : Word) (a : ProfileArgs) (d0 : Dev) : HostCmd :=
  let gen := ((d0.port (objIndex obj)).lane (laneOf a.lane.toNat)).gen
  let x : Profile :=
    { valid := a.pflags.getLsbD 0, fec := a.pflags.getLsbD 1, lane := laneOf a.lane.toNat, rate := a.rate.toNat
      preLen := a.preLen.toNat, patLen := a.patLen.toNat, delLen := a.delLen.toNat, pattern := a.pattern, delim := a.delim
      guardBits := a.guardBits.toNat }
  { opc := 0x0104
    good := objIs obj 1 64 && decide (a.index.toNat ≤ 3 ∧ a.lane.toNat ≤ 1 ∧ a.rate.toNat ≤ 2 ∧ (1 < gen → a.rate.toNat = 0) ∧
      4 ≤ a.preLen.toNat ∧ a.preLen.toNat ≤ 1024 ∧ 1 ≤ a.patLen.toNat ∧ a.patLen.toNat ≤ 8 ∧
      (a.delLen.toNat = 4 ∨ a.delLen.toNat = 8) ∧ 32 ≤ a.guardBits.toNat ∧ a.guardBits.toNat ≤ 1024)
    reach := reachIf (objIs obj 1 64 && decide (a.index.toNat ≤ 3 ∧ a.lane.toNat ≤ 1)) (.tree (objIndex obj))
    body := fun d => d.modPort (objIndex obj) fun q => { q with profPend := q.profPend ++ [(c, a.index.toNat, x)] } }

/-- Writes a unicast key slot. -/
def KeySlots.put (k : KeySlots) (slot1 : Bool) (key : BitVec 128) : KeySlots :=
  if slot1 then { k with k1 := key } else { k with k0 := key }

/-- TREE_KEY_LOAD (R98, R99). -/
def cmdTreeKeyLoad (c : Tag) (obj : Word) (slot : Byte) (key : BitVec 128) (_ : Dev) : HostCmd :=
  let p := (objTerm obj).1
  let t := (objTerm obj).2
  let s1 := slot == 0x01#8
  { opc := 0x0105
    good := objIs obj 2 65536 && decide (t ≤ 1019 ∧ slot.toNat ≤ 1)
    body := fun d => d.activeOnly p c fun d =>
      if ((d.port p).keySlots t).use1 == s1 then
        d.modPort p fun q => { q with keyPend := q.keyPend ++ [.load c t s1 key] }
      else (d.modPort p fun q => q.modKeys t fun k => k.put s1 key).complete c stOk }

/-- TREE_KEY_SWITCH (R101). -/
def cmdTreeKeySwitch (c : Tag) (obj : Word) (slot : Byte) (sfc : Dword) (_ : Dev) : HostCmd :=
  let p := (objTerm obj).1
  let t := (objTerm obj).2
  { opc := 0x0106
    good := objIs obj 2 65536 && decide (t ≤ 1019 ∧ slot.toNat ≤ 1)
    body := fun d => d.activeOnly p c fun d =>
      d.modPort p fun q => { q with keyPend := q.keyPend ++ [.switch c t (slot == 0x01#8) (sfc.toNat % 2 ^ 51)] } }

/-- TREE_BCAST_KEY_LOAD (R102); a KEYIDX outside 1 and 2 goes on the wire as given (Table 3-19). -/
def cmdTreeBcastKeyLoad (c : Tag) (obj : Word) (slot keyIdx : Byte) (key : BitVec 128) (_ : Dev) : HostCmd :=
  { opc := 0x0107
    good := objIs obj 1 64 && decide (slot.toNat ≤ 7)
    body := fun d => d.activeOnly (objIndex obj) c fun d =>
      d.modPort (objIndex obj) fun q => { q with keyPend := q.keyPend ++ [.bcast c slot.toNat keyIdx.toNat key] } }

/-- One pending key command at a frame start (R99, R101, R102): kept, or done. -/
def Dev.keyAtFrame (d : Dev) (p : Nat) (k : KeyPend) : Dev :=
  match k with
  | .load c t s1 key => (d.modPort p fun q => q.modKeys t fun k => k.put s1 key).complete c stOk
  | .bcast c slot idx key =>
    (d.modPort p fun q => { q with bcast := sset (fun _ => {}) q.bcast slot { key := key, idx := idx } }).complete c stOk
  | .switch c t s1 sfc =>
    let now := (d.port p).sfc
    if now < sfc then d.modPort p fun q => { q with keyPend := q.keyPend ++ [k] }
    else ((d.modPort p fun q => q.modKeys t fun k => { k with use1 := s1 }).complete c stOk (sfc8 now)).emitPort p 0x0105
      (le 2 t ++ le 2 (b2n s1) ++ sfc8 now)

/-! ### PLOAM (R105 to R109) -/

/-- TREE_PLOAM_SEND (R106 to R108, R123); its contents are the terminal's to judge (Table 3-19). -/
def cmdTreePloamSend (c : Tag) (obj : Word) (msg : Bytes) (_ : Dev) : HostCmd :=
  let p := (objTerm obj).1
  let t := (objTerm obj).2
  let pick (q : Port) : Lane :=
    if t = 1023 || (q.term t).state = 0 then laneOf (b2n (c.flags.getLsbD 8)) else (q.term t).lane
  { opc := 0x0108
    good := objIs obj 2 65536 && (decide (t ≤ 1019) || t == 1023)
    body := fun d => d.activeOnly p c fun d =>
      let l := pick (d.port p)
      let x := (d.port p).lane l
      if !x.live then d.complete c stAbandoned
      else
        let m : HostPloam := { tag := c, term := t, msg := padTo (if x.gen = 4 then 13 else 48) msg }
        d.modPort p fun q => q.modLane l fun x =>
          if x.hostQ.length < 64 then { x with hostQ := x.hostQ ++ [m] } else { x with hostWait := x.hostWait ++ [m] } }

/-- VALID profiles of a lane, in order. -/
def Port.validProfs (q : Port) (l : Lane) : List Nat := (List.range 4).filter fun i => (q.prof i).valid && (q.prof i).lane == l

/-- The messages of one frame in the order of R109, the host messages among them, and the lane after. -/
def Port.pickPloam (q : Port) (l : Lane) (quiet : Bool) : List Ploam × List Tag × LaneS :=
  let x := q.lane l
  if quiet then ([], [], x)
  else
    let room := if x.gen = 4 then 1 else 8
    let r := x.rngQ.take room
    let vs := q.validProfs l
    let ann := vs.getD (x.annNext % max 1 vs.length) 0
    let prio := decide (0 < x.annPrio) && decide (0 < vs.length) && decide (r.length < room)
    let n1 := r.length + b2n prio
    let h := x.hostQ.take (room - n1)
    let n2 := n1 + h.length
    let stand := !decide (0 < x.annPrio) && decide (0 < vs.length) && decide (n2 < room)
    let prio0 := min x.annPrio vs.length
    let left := x.hostQ.drop h.length ++ x.hostWait
    (r ++ (if prio then [.announce ann] else []) ++ h.map (fun m => .host m.term m.msg) ++ (if stand then [.announce ann] else []),
     h.map (·.tag),
     { x with
       rngQ := x.rngQ.drop r.length
       annNext := if prio || stand then (x.annNext + 1) % max 1 vs.length else x.annNext
       annPrio := if prio then prio0 - 1 else prio0
       hostQ := left.take 64
       hostWait := left.drop 64 })

/-! ### The downstream frame (R94 to R96, R100) -/

/-- Frames of a buffer that fit a payload of `room` bytes (R95 step 3, R96): pieces as flow, bytes, last byte sent; the rest.
A GPON frame is not fragmented. -/
def fillPayload (frag : Bool) : Nat → List DsFrame → List (Nat × Bytes × Bool) × List DsFrame
  | _, [] => ([], [])
  | room, f :: fs =>
    if f.data.length ≤ room then
      let r := fillPayload frag (room - f.data.length) fs
      ((f.flow, f.data, true) :: r.1, r.2)
    else if frag && decide (0 < room) then ([(f.flow, f.data.take room, false)], { f with data := f.data.drop room, begun := true } :: fs)
    else ([], f :: fs)

/-- Key index and key of a downstream frame (R100), none for a flow in the clear. A broadcast slot that was never loaded has no key index:
it takes `kx`, a free value (log entry 5), and its key of zeros. -/
def Port.dsKey (q : Port) (kx flow : Nat) : Option (Nat × BitVec 128) :=
  let x := q.dsFlow (flow % 2 ^ 14)
  if !x.flags.getLsbD 1 then none
  else if x.flags.getLsbD 2 then
    let b := q.bcastKey x.slot.toNat
    some (if b.idx = 0 then kx else b.idx, b.key)
  else
    let k := q.keySlots x.term
    some (if k.use1 then (2, k.k1) else (1, k.k0))

/-- Encrypts the pieces of a frame's payload, each at its position in the frame (R95 step 4, R100): flow, key index, bytes. -/
def Port.encrypt (q : Port) (gen kx : Nat) : Nat → List (Nat × Bytes × Bool) → List (Nat × Nat × Bytes)
  | _, [] => []
  | pos, f :: fs =>
    (match q.dsKey kx f.1 with
      | none => (f.1, 0, f.2.1)
      | some (idx, key) => (f.1, idx, Config.aesCtr key false gen q.sfc pos f.2.1)) :: q.encrypt gen kx (pos + f.2.1.length) fs

/-- A grant in the form of the lane's TC layer: a GPON map gives start and stop (R175). -/
def Grant.wire (gen : Nat) (g : Grant) : WireGrant :=
  { allocId := g.allocId, start := g.start, ext := if gen = 4 then g.start + g.size - 1 else g.size, prof := g.profIx
    ploamUp := g.ploamUp, rptReq := g.rptReq, wake := g.wake }

/-- The map on the wire (R175): grants by start, those of one terminal together, in the order of their first. -/
def wireMap (gen : Nat) (gs : List Grant) : List (List WireGrant) :=
  let terms := (gs.map (·.term)).foldl (fun l t => if l.contains t then l else l ++ [t]) []
  terms.map fun t => (gs.filter fun g => g.term == t).map (Grant.wire gen)

/-- The superframe counter as a lane carries it: a GPON lane the low 30 bits (R94). -/
def sfcWire (gen sfc : Nat) : Nat := if gen = 4 then sfc % 2 ^ 30 else sfc % 2 ^ 51

/-- Builds and sends the downstream frame of a running lane (R95), and opens what its map grants; a discovery window goes out with its EqD_pre
(R135). -/
def Dev.buildFrame (d0 : Dev) (p : Nat) (l : Lane) : Dev :=
  let q := d0.port p
  let (kx, d) := d0.pick 2
  if !(q.lane l).running then d0
  else
    let standby := decide (2 ≤ (d.tree p).role)
    let m := ((q.lane l).sealed).getD {}
    let gen := (q.lane l).gen
    let wins := m.wins.map fun w => { w with pre := eqdPre q gen w }
    let disc := (wins.filter fun w => !w.req.ranging).map fun w => Ploam.snGrant w.pre
    let q1 := q.modLane l fun x => { x with rngQ := disc ++ x.rngQ, sealed := none }
    let (msgs, tags, x1) := q1.pickPloam l standby
    let room := Config.dsRoom gen q.gponFec m.grants.length m.wins.length msgs.length
    let (pieces, rest) := fillPayload (gen != 4) room x1.buf
    let q2 := q1.modLane l fun _ => { x1 with buf := rest, winsOut := if standby then x1.winsOut else x1.winsOut ++ wins.map fun w => (q.sfc, w) }
    let q3 := if standby then q2 else q2.openSlots l m.grants
    let nDone := (pieces.filter fun f => f.2.2).length
    let d1 := (d.setPort p q3).send
      (.dsFrame p l (sfcWire gen q.sfc) (wireMap gen m.grants) wins msgs (q.encrypt gen kx 0 pieces))
    let d2 := if msgs.isEmpty then d1 else d1.countPort p 0x48 msgs.length
    let d3 := if nDone = 0 then d2 else d2.countPort p (match l with | .main => 0x40 | .comp => 0x44) nDone
    let d4 := pieces.foldl (fun d f =>
      let d5 := d.countFlow (p * 2 ^ 14 + f.1 % 2 ^ 14) 4 f.2.1.length
      if f.2.2 then d5.countFlow (p * 2 ^ 14 + f.1 % 2 ^ 14) 3 else d5) d3
    let first := (x1.buf.take pieces.length).filter fun f => !f.begun
    let d4 := first.foldl (fun d f => d.winCount p true f.data.length d.devNs) d4
    let sentInj := ((x1.buf.take (x1.buf.length - rest.length)).map (·.inj))
    tags.foldl (fun d c => d.complete c stOk) ((d4.injEndAll stOk sentInj).calendarPort p)

/-- A dark lane at a frame start (Table 3-8 steps 4 and 5): its dark frame, then light, and TREE_ENABLE completes. -/
def Dev.lightLane (d : Dev) (p : Nat) (l : Lane) : Dev :=
  let x := (d.port p).lane l
  if x.st != .dark then d
  else if !x.darkSent then d.modPort p fun q => q.modLane l fun x => { x with darkSent := true }
  else
    let (ws, tags) := doneWaits l (d.port p).enableWait
    let d1 := d.modPort p fun q => { (q.modLane l fun x => { x with st := .lit }) with enableWait := ws }
    tags.foldl (fun d c => d.complete c stOk) d1

/-- Counters of frame starts that ranging, discovery and reassembly keep. -/
def Port.frameCounters (q : Port) : Port :=
  let lane (x : LaneS) : LaneS := { x with disc := { x.disc with wait := x.disc.wait - 1 } }
  { q with
    main := lane q.main
    comp := lane q.comp
    watch := q.watch.map fun w => { w with left := w.left - 1 }
    framesSinceRole := min 8 (q.framesSinceRole + 1)
    wnd := { q.wnd with cutDone := false, past := false }
    ups := { q.ups with
      reasm := q.ups.reasm.map fun e => (e.1, e.2.map fun r => { r with idle := r.idle + 1 })
      dsFlows := q.ups.dsPend.foldl (fun m e => sset (fun _ => {}) m e.1 e.2) q.ups.dsFlows
      dsPend := [] } }

/-- Trunk commands at a frame start (R153). -/
def Dev.trunksAtFrame (d : Dev) (p : Nat) : Dev :=
  let l := (d.port p).trunkPend
  let d1 := d.modPort p fun q => l.foldl (fun q x => q.modTrunk x.trunk x.apply) { q with trunkPend := [] }
  (l.foldl (fun d x => d.complete x.tag stOk) d1).redoAllDs p

/-- TOD_DEG of a lane (R156). -/
def Dev.todDeg (d : Dev) (p : Nat) (l : Lane) : Bool :=
  let t := (d.port p).trunk (d.liveTrunk p)
  match l with
  | .main => !t.knownM || t.rerouteM
  | .comp => !t.knownC || t.rerouteC

/-- TOD_ANCHOR (R417, R418). -/
def Dev.anchor (d : Dev) (p : Nat) : Dev :=
  let q := d.port p
  if d.time.ctrl.getLsbD 12 && q.sfc % 8000 = 0 && (q.main.running || q.comp.running) && decide ((d.tree p).role ≤ 1) then
    let ns := d.time.ns + b2n (decide (2 ^ 31 < d.time.frac))
    let tm := if ns < 1000000000 then packTime d.time.sec ns else packTime (d.time.sec + 1) 0
    d.emitPort p 0x0A05 (le 1 (b2n (d.todDeg p .main) + 2 * b2n (d.todDeg p .comp) + 4 * b2n d.time.locked) ++
      le 7 (q.sfc % 2 ^ 51) ++ le 8 tm.toNat)
  else d

/-- What the protection unit does to a tree at its frame start: a planned release (R389), a tree leaving dark hold lights (R400), the standby's checks (R398). -/
def Dev.protAtFrame (d : Dev) (p : Nat) : Dev :=
  let x := d.tree p
  if x.plan = .release then d.fenceTree p 4
  else if x.plan = .light then
    let tags := (d.cmds.filter fun a => a.opc == 0x0903 && objIndex a.obj == p && a.phase == .running).map (·.tag)
    tags.foldl (fun d c => d.complete c stOk) (d.modTree p fun x => { x.fresh 1 with plan := .none })
  else (d.modTree p fun x => { x with lightF := false }).deputyAtFrame p

def Dev.regionTick (d : Dev) (g : Nat) : Tick := sget (fun _ => {}) d.ticks g

/-- OFS x u in units of 2^-32 ns: u is 625 / 31,104 ns (R93). -/
def ofsFine (ofs : Word) : Nat := ofs.toNat * 625 * 2 ^ 32 / 31104

/-- OFS lies in its range (R93). -/
def ofsOk (ofs : Word) : Bool := decide (ofs.toNat < 6220800)

/-- The frame start of tree port `p` against its region's tick (R93). A port that has followed the last tick sees the next one: F_N is now,
so that T_N lies OFS x u before it, and the written OFS of every tree port of the region takes effect. A port whose OFS is out of range
tells nothing of the tick, and starts at a free time (Table 3-19). -/
def Dev.tickPort (d : Dev) (p : Nat) : Dev :=
  let g := p / 16
  let x := d.regionTick g
  let q := d.port p
  let d1 := if q.tickN != x.n then d else
    let t := if ofsOk q.ofsInForce then d.devFine - ofsFine q.ofsInForce else x.at0 + 125000 * 2 ^ 32
    (List.range 16).foldl (fun d k => d.modPort (16 * g + k) fun q => { q with ofsInForce := q.ofs })
      { d with ticks := sset (fun _ => {}) d.ticks g { at0 := t, n := x.n + 1 } }
  let y := d1.regionTick g
  let (r, d2) := if ofsOk (d1.port p).ofsInForce then (y.at0 + ofsFine (d1.port p).ofsInForce, d1) else
    (let (r, d2) := d1.pick 64; (r, d2))
  d2.modPort p fun q => { q with tickN := y.n, fnAt := r }

/-- FRAME_START (R92 to R96, R99 to R102, R105, R108, R109, R117, R149, R153, R389, R400, R417). A tree port without its first TREE_ENABLE
has frame starts too, on which key and trunk commands act, but no counter and no frame (R94). -/
def Dev.frameStart (d : Dev) (p : Nat) : Dev :=
  if !d.portUp p then d
  else
    let d1 := (d.tickPort p).modPort p fun q =>
      if !q.counting then q else { q with sfc := if q.fresh then q.sfc else (q.sfc + 1) % 2 ^ 51, fresh := false }
    let ks := (d1.port p).keyPend
    let d2 := ks.foldl (fun d k => d.keyAtFrame p k) (d1.modPort p fun q => { q with keyPend := [] })
    let d3 := (d2.trunksAtFrame p).modPort p Port.frameCounters
    let d4 := (((d3.protAtFrame p).lightLane p .main).lightLane p .comp)
    let d5 := (d4.buildFrame p .main).buildFrame p .comp
    (d5.modPort p Port.postAttempts).anchor p

/-- DS_FRAME_RECEIVE (R95): the oldest frame on the drift for tree port `p` reaches the lane's downstream buffer, its FCS at its end
(R85, R86, R277). -/
def Dev.dsReceive (d : Dev) (p : Nat) : Dev :=
  match d.dtm.onDrift.find? fun e => e.1 == p with
  | none => d
  | some (_, l, f) =>
    let d1 := { d with dtm := { d.dtm with onDrift := dropFirst (fun e => e.1 == p) d.dtm.onDrift } }
    if d.portUp p && ((d.port p).lane l).running then d1.modPort p fun q => q.modLane l fun x => { x with buf := x.buf ++ [{ f with data := f.data ++ fcs f.data }] }
    else d1.injEnd f.inj stAbandoned

/-! ### Module management (R28, R124) -/

/-- TREE_MODULE_I2C (R124). -/
def cmdTreeModuleI2c (c : Tag) (obj : Word) (op addr ofs len : Byte) (data : Bytes) (_ : Dev) : HostCmd :=
  let p := objIndex obj
  { opc := 0x0109
    good := objIs obj 1 64 && decide (op.toNat ≤ 1 ∧ addr.toNat < 128 ∧ 1 ≤ len.toNat ∧ len.toNat ≤ (if op.toNat = 0 then 8 else 32))
    reach := reachIf (objIs obj 1 64 && decide (op.toNat ≤ 1)) (.i2c p)
    body := fun d =>
      if (d.cluster (p / 4)).i2cFailed then d.complete c stFailed
      else d.modCluster (p / 4) fun x => { x with i2cQ := x.i2cQ ++
        [{ tag := c, port := p, op := op.toNat, addr := addr.toNat, ofs := ofs.toNat, len := len.toNat, data := padTo len.toNat data }] } }

/-- MODULE_I2C_DONE (R124): the oldest transfer of a cluster's master ends; after a TIMEOUT the master issues a stop condition. -/
def Dev.i2cDone (d : Dev) (c : Nat) (o : I2cOutcome) : Dev :=
  match (d.cluster c).i2cQ with
  | [] => d
  | j :: js =>
    let d1 := (d.modCluster c fun x => { x with i2cQ := js }).send
      (.i2c j.port j.op j.addr j.ofs j.len (if j.op = 0 then [] else j.data))
    match o with
    | .noAnswer => (d1.send (.i2cStop j.port)).complete j.tag stTimeout
    | .ok bs => d1.complete j.tag stOk (if j.op = 0 then padTo j.len bs else [])

/-- I2C_MASTER_FAULT (R28): module management of the cluster is lost until a cluster reset. -/
def Dev.i2cFault (d : Dev) (c : Nat) : Dev :=
  let js := (d.cluster c).i2cQ
  js.foldl (fun d j => d.complete j.tag stFailed) (d.modCluster c fun x => { x with i2cFailed := true, i2cQ := [] })

/-! ### Winder commands (R166 to R168, R182, R187, R188) -/

/-- An image in host memory (Table 7-6) as the device copies it: it fills the half of 4,096 words and the memory of 64 KiB at most. Nothing is
checked (R187); `bad` says that it breaks Table 5-12. -/
def readImage (bs : Bytes) : Image :=
  let ic := fld bs 6 2
  let ds := fld bs 8 4
  let en := fld bs 4 2
  { bad := !decide (fld bs 0 2 = 0x4F4C ∧ 1 ≤ ic ∧ ic ≤ 4096 ∧ ds ≤ 65536 ∧ ds % 4 = 0 ∧ en < ic ∧ bs.length = 32 + 4 * ic + ds ∧
      (crc32 (bs.drop 32)).toNat = fld bs 12 4)
    code := (List.range (min ic 4096)).map fun i => BitVec.ofNat 32 (fld bs (32 + 4 * i) 4)
    data := bslice bs (32 + 4 * min ic 4096) (min ds 65536), version := fld bs 2 2, entry := en % 4096 }

/-- WND_IMAGE_LOAD (R187). With a LEN outside Table 5-6 grants may be wrong in size or class (Table 5-12): `odd`. -/
def cmdWndImageLoad (c : Tag) (obj : Word) (addr : Dword) (len : Word) (e : Env) (_ : Dev) : HostCmd :=
  let p := objIndex obj
  let lenOk : Bool := decide (32 ≤ len.toNat ∧ len.toNat ≤ 81952)
  let i := readImage (memRead e.mem addr.toNat (min len.toNat 81952))
  { opc := 0x0301
    good := objIs obj 1 64 && addr.toNat % 64 == 0
    body := fun d =>
      let half := !(d.port p).wnd.half
      ((d.modPort p fun q =>
        let w := if half then { q.wnd with img1 := i } else { q.wnd with img0 := i }
        { q with wnd := { w with odd := w.odd || !lenOk } }).modWinder
        (d.port p).wnd.winder fun x => { x with imem := loadHalf x.imem half i.code }).complete c stOk }

/-- WND_SWAP (R188); a slot that was never loaded is `bad` (Table 5-12). -/
def cmdWndSwap (c : Tag) (obj : Word) (sflags : Byte) (sfc : Dword) (_ : Dev) : HostCmd :=
  let p := objIndex obj
  { opc := 0x0302
    good := objIs obj 1 64
    body := fun d => d.modPort p fun q => { q with wnd := { q.wnd with
      swap := some { tag := c, initData := sflags.getLsbD 0, clearSched := sflags.getLsbD 1, sfc := sfc.toNat % 2 ^ 51 } } } }

/-- The values Table 5-2 allows in the host bytes of a record; SI counts for fixed and assured ones. -/
def recordGood (bs : Bytes) : Bool :=
  decide (fld bs 4 1 ≤ 1 ∧ fld bs 5 1 ≤ 3 ∧ fld bs 6 1 ≤ 3) && (!bitOf (fld bs 7 1) 0 ||
    decide (1 ≤ fld bs 10 2 ∧ fld bs 2 2 % 1024 ≤ 1019 ∧ (fld bs 5 1 ≤ 1 → 1 ≤ fld bs 24 4 ∧ fld bs 24 4 ≤ 64)))

/-- The host bytes of a record with their RSV bits ignored (R50). -/
def recordMask (bs : Bytes) : Bytes :=
  le 2 (fld bs 0 2 % 2 ^ 14) ++ le 2 (fld bs 2 2 % 2 ^ 10) ++ bslice bs 4 3 ++ le 1 (fld bs 7 1 % 2) ++ bslice bs 8 24

/-- A record write or removal waits for an instant without a run (R166). -/
def Dev.pendAlloc (d : Dev) (p : Nat) (c : Tag) (ri : Nat) (r : Option Bytes) : Dev :=
  let d1 := d.modPort p fun q => { q with wnd := { q.wnd with allocPend := q.wnd.allocPend ++ [(c, ri, r)] } }
  if (d.port p).wnd.run == .running then d1 else d1.applyAllocs p

/-- WND_ALLOC_WRITE (R166, R167). Values outside Table 5-2 are stored as written; grants may then be wrong in size or class (Table 5-12):
`odd`. -/
def cmdWndAllocWrite (c : Tag) (obj : Word) (rec : Bytes) (_ : Dev) : HostCmd :=
  let p := (objAlloc obj).1
  let ri := (objAlloc obj).2
  { opc := 0x0303
    good := objIs obj 3 (2 ^ 18)
    body := fun d => (d.modPort p fun q => { q with wnd := { q.wnd with odd := q.wnd.odd || !recordGood rec } }).pendAlloc p c ri
      (some (recordMask rec)) }

/-- WND_ALLOC_REMOVE (R166, R168). -/
def cmdWndAllocRemove (c : Tag) (obj : Word) (_ : Dev) : HostCmd :=
  { opc := 0x0304
    good := objIs obj 3 (2 ^ 18)
    body := fun d => d.pendAlloc (objAlloc obj).1 c (objAlloc obj).2 none }

/-- WND_WITNESS_SET (R182): at the next seal point. -/
def cmdWndWitnessSet (c : Tag) (obj : Word) (en gap profile : Byte) (_ : Dev) : HostCmd :=
  let g := if gap.toNat = 0 then 10 else gap.toNat
  { opc := 0x0305
    good := objIs obj 1 64 && decide (en.toNat ≤ 1 ∧ 2 ≤ g ∧ g ≤ 10 ∧ profile.toNat ≤ 3)
    body := fun d => d.modPort (objIndex obj) fun q => { q with wnd := { q.wnd with
      witPend := some (c, en == 0x01#8, g, profile.toNat) } } }

end Sys2Proof.Machine
end

