-- ==== Sys2Proof/Machine/Protect.lean ====
section
/-! DEFINITION. The protection pair (chapter 13): joining, roles, lamp checks, takeover, fence, the standby's side of the mirror. -/
namespace Sys2Proof.Machine
open Sys2Proof

/-- A mask with bit p set for every tree for which `f` holds. -/
def Dev.treeMask (d : Dev) (f : Nat → Bool) : Nat := (d.portsHere.filter f).foldl (fun n p => n + 2 ^ p) 0
/-- Both paths to the mate are lost (R392). -/
def Prot.bothLost (x : Prot) : Bool := x.dmp.lost && x.hb.lost

/-! ### Joining and roles (R379 to R382, R389, R390, R400) -/

/-- A tree leaves the pair (R380): an active or unpaired tree keeps its laser, any other stays dark under R32. The "Active only" commands of
a tree that was active end ABANDONED (R382). -/
def Dev.unpair (d : Dev) (p : Nat) : Dev :=
  let d1 :=
    if (d.tree p).role = 0 then d
    else if (d.tree p).role = 1 then d.abandonPort p fun a => activeOnlyOpc a.opc
    else (d.leaveStandby p 0).modPort p fun q => { q with hold := max q.hold 1 }
  (d1.endRole p stAbandoned).modTree p fun _ => {}

/-- The role a tree takes as its package joins (R380). -/
def Dev.pairTree (d : Dev) (active : Dword) (p : Nat) : Dev :=
  let d1 := d.endRole p stAbandoned
  if active.getLsbD p then
    if (d.tree p).role ≤ 1 then d1.modTree p fun x => (x.fresh 1) else (d1.leaveStandby p 1).redoAllDs p
  else d1.becomeStandby p

/-- Both paths count as lost and FENCE_OUT falls as MAT_PAIR_JOIN takes effect (R385, R394). -/
def Prot.restart (x : Prot) : Prot :=
  let z (y : PathS) : PathS := { y with lost := true, good := 0 }
  { x with dmp := z x.dmp, hb := z x.hb, fenceOut := false, isolated := false, mateActive := 0, mateArmed := 0, mateStandby := 0 }

/-- MAT_PAIR_JOIN (R379, R380). -/
def cmdMatPairJoin (c : Tag) (obj : Word) (pkg mflags : Byte) (active : Dword) (limit : Half) (d0 : Dev) : HostCmd :=
  { opc := 0x0901
    good := objClass obj == 0x12 && decide (pkg.toNat ≤ 1 ∧ limit.toNat ≤ 60000)
    absent := !d0.variant.hasProt
    body := fun d =>
      let d1 := d.modProt Prot.restart
      if mflags.getLsbD 0 then
        (d1.portsHere.foldl (fun d p => d.unpair p) (d1.modProt fun x => { x with joined := false })).complete c stOk
      else
        d1.portsHere.foldl (fun d p => d.pairTree active p)
          (d1.modProt fun x => { x with joined := true, pkg := pkg.toNat, join := some (c, active) }) }

/-- PAIR_JOIN_LIMIT (R379): the package stays a member. -/
def Dev.joinLimit (d : Dev) : Dev :=
  match d.prot.join with
  | none => d
  | some (c, _) => (d.modProt fun x => { x with join := none }).complete c stTimeout

/-- MAT_ROLE_SET (R389, R390). -/
def cmdMatRoleSet (c : Tag) (obj : Word) (role : Byte) (d0 : Dev) : HostCmd :=
  let p := objIndex obj
  { opc := 0x0902
    good := objIs obj 1 64 && decide (role.toNat ≤ 1)
    absent := !d0.variant.hasProt
    body := fun d =>
      let r := (d.tree p).role
      let fail (n : Byte) : Dev := d.complete c stFailed [n]
      if !d.prot.joined || r == 0 then fail 0x04#8
      else if 4 ≤ r then fail 0x05#8
      else if role = 0 then
        if r = 1 then d.complete c stOk
        else if r = 2 then fail 0x03#8
        else d.modTree p fun x => { x with plan := .asked }
      else if r ≠ 1 then d.complete c stOk
      else if d.mateArmed p then d.modTree p fun x => { x with plan := .release }
      else fail 0x01#8 }

/-- PLANNED_SWITCH_TIMEOUT (R389). -/
def Dev.plannedTimeout (d : Dev) (p : Nat) : Dev :=
  if (d.tree p).plan = .asked || (d.tree p).plan = .released then
    (d.modTree p fun x => { x with plan := .none }).endRole p stTimeout
  else d

/-- The tree port is in reset for R400: a failed winder that serves it is held. A die held by R23 or R467 fails the command too. -/
def Dev.inReset (d : Dev) (p : Nat) : Bool := (d.winder (d.port p).wnd.winder).st == 2 && (d.port p).wnd.takeover.isNone

/-- MAT_DARK_RELEASE (R400): active and lit from the next frame start. -/
def cmdMatDarkRelease (c : Tag) (obj : Word) (d0 : Dev) : HostCmd :=
  let p := objIndex obj
  { opc := 0x0903
    good := objIs obj 1 64
    absent := !d0.variant.hasProt
    lost := [0x01#8]
    body := fun d =>
      if (d.tree p).role ≠ 5 then d.complete c stFailed [0x02#8]
      else if d.inReset p then d.complete c stFailed [0x01#8]
      else d.modTree p fun x => { x with plan := .light } }

/-! ### Lamp checks (R385 to R387, R389, R394 to R396) -/

/-- A lamp check (Table 13-5), without its CRC. -/
def Dev.lampBody (d : Dev) (x : PathS) : Bytes :=
  let bit (f : TreeProt → Bool) : Bytes := be 8 (d.treeMask fun p => f (d.tree p))
  be 4 x.txSeq.toNat ++ be 4 x.rxSeq.toNat ++ be 1 d.prot.pkg ++ be 1 (b2n d.prot.joined + 2 * b2n d.prot.fenceOut) ++ be 6 0 ++
    bit (fun t => t.role == 1) ++ bit (fun t => t.role == 3) ++
    be 8 (d.treeMask fun p => (d.tree p).role == 4 && (d.tree p).fenceBy != 0 && d.mateArmed p) ++ bit (fun t => t.plan == .asked) ++ be 8 d.stamp.toNat ++ be 6 0

/-- Changes the state of a path. -/
def Dev.modPath (d : Dev) (p : Path) (f : PathS → PathS) : Dev :=
  match p with
  | .dmp => d.modProt fun z => { z with dmp := f z.dmp }
  | .hb => d.modProt fun z => { z with hb := f z.hb }
def Dev.pathOf (d : Dev) (p : Path) : PathS := match p with
  | .dmp => d.prot.dmp
  | .hb => d.prot.hb

/-- LAMP_CHECK_SEND (R385). -/
def Dev.lampSend (d : Dev) (path : Path) : Dev :=
  if !d.variant.hasProt then d
  else
    let b := d.lampBody (d.pathOf path)
    (d.modPath path fun x => { x with txSeq := x.txSeq + 1 }).send (.lamp path.code (b ++ be 2 (crc16 b).toNat))

/-- The path after a valid lamp check (R385): an acknowledged one counts towards restoration, which comes at the 16th in a row. -/
def Dev.lampPath (d : Dev) (path : Path) (seq ack : Nat) : Dev :=
  let x := d.pathOf path
  let acked := (x.txSeq - 1 - BitVec.ofNat 32 ack).toNat < 8
  let n := if acked then x.good + 1 else 0
  let d1 := d.modPath path fun y => { y with rxSeq := BitVec.ofNat 32 seq }
  if !x.lost then d1
  else if n < 16 then d1.modPath path fun y => { y with good := n }
  else ((d1.modPath path fun y => { y with lost := false, good := 0 }).modProt fun z => { z with isolated := false }).emit 0x0902
    (srcOf 0xD 0) (le 1 path.code)

/-- What a lamp check means for one tree: ACTIVE, RELEASE and REQUEST bits; `snap`: the mate may lack its snapshot. -/
def Dev.lampTree (d : Dev) (active release request snap : Bool) (p : Nat) : Dev :=
  let x := d.tree p
  match x.role with
  | 1 =>
    if request && d.mateArmed p && x.plan == .none then d.modTree p fun x => { x with plan := .release }
    else if snap then d.snapshot p else d
  | 2 => if active then d.modTree p fun x => { x with kind4 := false, shownAt := some d.now } else d
  | 3 =>
    if release then d.promote p (if x.plan = .asked then 3 else 1)
    else if active then d.modTree p fun x => { x with shownAt := some d.now }
    else d
  | 4 =>
    let d1 := if active && x.plan == .released then (d.modTree p fun x => { x with plan := .none }).endRole p stOk else d
    if d.board.fenceIn then d1
    else if active then d1.becomeStandby p
    else if x.fenceBy = 2 then d1.darkHold p 2
    else d1
  | _ => d

/-- A valid lamp check of a joined package is acted on. -/
def Dev.lampAct (d : Dev) (path : Path) (msg : Bytes) (wasLost : Bool) : Dev :=
  let act := nfld msg 16 8
  let rel := nfld msg 32 8
  let req := nfld msg 40 8
  let before := d.prot.mateStandby
  let standby : Dword := if bitOf (nfld msg 9 1) 0 then ~~~(BitVec.ofNat 64 act) else 0
  let d1 := d.modProt fun z => { z with
    mateActive := BitVec.ofNat 64 act, mateArmed := BitVec.ofNat 64 (nfld msg 24 8), mateStandby := standby
    fenceOut := z.fenceOut && act != 0 }
  let back := wasLost && path == .dmp && !d.prot.dmp.lost
  if !d.prot.joined then d1
  else d1.portsHere.foldl (fun d p =>
    d.lampTree (bitOf act p) (bitOf rel p) (bitOf req p) (standby.getLsbD p && (back && (d.tree p).owes || !before.getLsbD p)) p) d1

/-- LAMP_CHECK_RECEIVE (R385 to R387): an invalid one is counted. MAT_TIME_OFS follows STAMP on DMP, corrected by the path's delay,
which is a free value (log entry 5). -/
def Dev.lampReceive (d : Dev) (path : Path) (msg : Bytes) : Dev :=
  if !d.variant.hasProt then d
  else if msg.length != 64 || nfld msg 62 2 != (crc16 (msg.take 62)).toNat then
    (d.modPath path fun x => { x with good := 0 }).count (0x60040 + 4 * path.code)
  else
    let d1 := d.lampPath path (nfld msg 0 4) (nfld msg 4 4)
    let (dly, d2) := d1.pick 16
    let d3 := match path with
      | .dmp => d2.modProt fun z => { z with timeOfs := ((stampNs (BitVec.ofNat 64 (nfld msg 48 8)) + dly : Nat) : Int) - d.devNs }
      | .hb => d2
    (d3.lampAct path msg (d.pathOf path).lost).checkJoin

/-- PATH_LOSS (R385): 4 us without a valid lamp check, or without a valid one that acknowledges. -/
def Dev.pathLoss (d : Dev) (path : Path) (valid : Bool) : Dev := d.losePath (path == .hb) (if valid then 2 else 1)

/-- MATE_ISOLATED (R392): both paths lost for 12 us; the trees kept standby because bursts were heard. -/
def Dev.mateIsolated (d : Dev) : Dev :=
  if !d.prot.joined || !d.prot.bothLost || d.prot.isolated then d
  else (d.modProt fun z => { z with isolated := true }).emit 0x8903 (srcOf 0xD 0)
    (le 8 (d.treeMask fun p => d.deputy p && (d.tree p).heardAt.any fun t => decide (d.now < t + 12000)))

/-! ### Takeover (R388, R391, R399) -/

/-- PROMOTE_BY_SILENCE (R388): a burst heard or a lamp check with the ACTIVE bit in the same cycle wins (R69). -/
def Dev.promoteBySilence (d : Dev) (p : Nat) : Dev :=
  let x := d.tree p
  let ended := x.heardAt == some d.now || x.shownAt == some d.now
  if !d.prot.joined || !d.portUp p || ended then d
  else if x.role = 3 then d.promote p 2
  else if x.role = 2 && !x.kind4 then
    (d.modTree p fun x => { x with kind4 := true }).emitPort p 0x8904
      (le 1 4 ++ le 1 (b2n d.prot.fenceOut) ++ le 2 0 ++ le 4 (d.health p) ++ sfc8 (d.port p).sfc)
  else d

/-- FAILOVER_END (R399): 50 us after the reference instant. -/
def Dev.failoverEnd (d : Dev) (p : Nat) : Dev := d.modTree p fun x => { x with failover := false }

/-! ### Fence (R115, R116, R395, R396, R492) -/

/-- FENCE_IN_ASSERT (R115, R116). -/
def Dev.fenceInAssert (d : Dev) : Dev :=
  let d1 := d.portsHere.foldl (fun d p => d.modPort p fun q => { q with fence := true, fenceAt := some d.now }) { d with board := { d.board with fenceIn := true } }
  if d.board.fenceIn then d else d1.emitPort 0 0x8103 (le 1 1)

/-- FENCE_IN_DEASSERT (R116). -/
def Dev.fenceInDeassert (d : Dev) : Dev := { d with board := { d.board with fenceIn := false } }

/-- FENCE_IN_QUALIFIED (R395, R492): high for 40 ns. -/
def Dev.fenceInQualified (d : Dev) : Dev :=
  if !d.variant.hasProt || !d.board.fenceIn then d
  else (d.portsHere.filter fun p => (d.tree p).role == 1).foldl (fun d p => d.fenceTree p 3) d

/-- FENCE_IN_RELEASED (R395, R492): low for 40 ns. -/
def Dev.fenceInReleased (d : Dev) : Dev :=
  if d.board.fenceIn then d
  else (d.portsHere.filter fun p => (d.tree p).role == 4).foldl (fun d p =>
    if d.prot.mateActive.getLsbD p then (d.endRole p stOk).becomeStandby p else d.darkHold p 2) d

/-- NOBURST_WATCHDOG (R396). -/
def Dev.noburst (d : Dev) (p : Nat) : Dev :=
  let q := d.port p
  if d.prot.ctrl.getLsbD 0 && (d.tree p).role == 1 && q.wnd.witEn && (q.terms.any fun e => e.2.ranged) && d.prot.bothLost then
    (d.fenceTree p 2).emitPort p 0x8908 (le 8 0 ++ sfc8 q.sfc)
  else d

/-! ### The standby's side of the mirror (R381, R384, R386, R398) -/

/-- STANDBY_PHASE_ADJUST (R386): OFS moves to the target, in whole units of 16 f, a tie going to the earlier frame start. -/
def Dev.phaseAdjust (d : Dev) (p fn : Nat) : Dev :=
  let q := d.port p
  let own := (q.trunk q.ownTrunk).dly
  let mate := (q.trunk (1 - q.ownTrunk)).dly
  let one : Int := 2 ^ 32
  let late := (q.fnAt - ((fn : Int) - d.prot.timeOfs * one)) * 7962624 + (own - mate) * 10000 * one
  let frame : Int := (frameF : Int) * 10000 * one
  let c := (late + frame / 2) % frame - frame / 2
  let ofs := (((q.ofs.toNat : Int) + roundTieDown (-c) (160000 * 2 ^ 32)) % 6220800).toNat
  (d.modPort p fun q => { q with ofs := BitVec.ofNat 32 ofs }).modTree p fun x =>
    { x with phase := decide (c.natAbs ≤ 2 * 7962624 * 2 ^ 32) }

/-- The checkpoint check (Table 13-8). -/
def Dev.checkCkpt (d : Dev) (p : Nat) (digest : Option Word) : Dev :=
  let w := (d.port p).wnd
  match digest, w.ckptPend.or w.ckpts.head? with
  | some g, some c =>
    if (d.tree p).role ≠ 3 then d
    else if Config.ckptDigest c = g then d.modTree p fun x => { x with ckptOk := true }
    else ((d.modTree p fun x => { x with ckptOk := false }).mismatch p 2 0 0).send (.mirror p .askCkpt)
  | _, _ => d

/-- The frame record: the superframe counter (log entry 43), phase, start values of the deputy run, the checkpoint check. -/
def Dev.mirFrame (d : Dev) (p sfc fn cyc rem : Nat) (digest : Option Word) : Dev :=
  let own : Int := (fn : Int) - d.prot.timeOfs * 2 ^ 32
  let d1 := (d.modPort p fun q => if q.counting then { q with sfc := sfc % 2 ^ 51, fresh := false } else q).modTree p fun x =>
    { (x.dueAt sfc (own + frameFine)).got sfc d.devFine (fun g => { g with frame := true }) with start := some (sfc, cyc, rem) }
  (d1.phaseAdjust p fn).checkCkpt p digest

/-- The report set: the deputy run starts on it (R398), from the active's checkpoint when one has been resent. -/
def Dev.mirReports (d : Dev) (p sfc : Nat) (l : List (Nat × Nat)) : Dev :=
  let d1 := d.modTree p fun x => x.got sfc d.devFine fun g => { g with reports := true }
  let x := d1.tree p
  match x.start with
  | none => d1
  | some (n, cyc, rem) =>
    if x.role ≠ 3 || n ≠ sfc then d1
    else
      let d2 := d1.modPort p fun q =>
        let w := l.foldl (fun w e => (w.setAw e.1 8 e.2).setAw e.1 9 (sfc % 2 ^ 32)) q.wnd
        { q with wnd := { w with rptQ := [], rptFetched := [], rptSet := l.map fun e => ⟨e.1, e.2, sfc⟩ } }
      let d3 := match x.ckptNew with
        | none => d2
        | some c => (d2.modTree p fun x => { x with ckptNew := none }).applyCkpt p (d2.port p).wnd.winder c
      d3.programStart p cyc rem

/-- A grant of a mirrored map, under the standby's own profile. -/
def Port.ofMirror (q : Port) (l : Lane) (g : MirGrant) : Grant :=
  { ri := g.ri, allocId := g.allocId, term := g.term, lane := l, cls := g.cls, start := g.start, size := g.size, profIx := g.profIx
    prof := q.prof g.profIx, ploamUp := g.ploamUp, rptReq := g.rptReq, wake := g.wake, witness := g.witness }

/-- The sealed maps: their bursts are acquired (Table 13-8), the map check waits for the frame start. -/
def Dev.mirMaps (d : Dev) (p sfc : Nat) (m c : List MirGrant) : Dev :=
  (d.modPort p fun q =>
    let q1 := ({ q with sfc := sfc % 2 ^ 51 }).openSlots .main (m.map (q.ofMirror .main))
    { (q1.openSlots .comp (c.map (q.ofMirror .comp))) with sfc := q.sfc }).modTree p fun x =>
    { x.got sfc d.devFine (fun g => { g with maps := true, mapM := m != [], mapC := c != [] }) with maps := some (sfc, m, c) }

/-- Burst results: compared, and kept for the judgement of the mirror unless they come too late (R384). -/
def Dev.mirBursts (d : Dev) (p sfc : Nat) (l : Lane) (rs : List (Bool × Word)) : Dev :=
  let late := (d.tree p).tooLate (sfc + d.burstLag p) d.devFine
  (d.modTree p fun x => { x with
    actRes := keepRes sfc x.actRes ++ [(sfc, l, rs)], brs := if late then x.brs else x.brs ++ [(sfc, l)] }).compareBursts p sfc l

/-- The end of a snapshot (R381): an unarmed tree applies the checkpoint it carried; an armed one does at its next deputy run. Frames of which
records came before it do not arm the tree. -/
def Dev.mirSnapshot (d : Dev) (p : Nat) : Dev :=
  let d1 := d.modTree p fun x => { x with snapshot := true, mir := x.mir.map fun g => { g with pre := true } }
  match (d.tree p).role, (d.tree p).ckptNew with
  | 2, some c => (d1.modTree p fun x => { x with ckptNew := none }).applyCkpt p (d1.port p).wnd.winder c
  | _, _ => d1

/-- The ranging state of a terminal (R154): its own RTD once it has heard it, else the mirrored one and twice the trunk difference. -/
def Dev.mirTerm (d : Dev) (p t : Nat) (x : Option MirTerm) : Dev :=
  match x with
  | none => d.modPort p fun q => (q.modTerm t fun _ => {}).markRanged t false
  | some m =>
    (d.modPort p fun q =>
      let own := (q.trunk q.ownTrunk).dly
      let mate := (q.trunk (1 - q.ownTrunk)).dly
      let keep := (q.term t).heard && (q.term t).ranged && (q.term t).serial == m.serial
      (q.modTerm t fun y => { y with
        state := if m.eqdPend.isSome then 4 else 3, lane := m.lane, serial := m.serial, eqd := m.eqd, eqdBase := m.eqdBase
        eqdPend := m.eqdPend.getD 0, tresp := m.tresp, heard := keep
        rtd := if keep then y.rtd else m.rtd + 2 * (own - mate) }).markRanged t true).redoDs p t

/-- MIRROR_RECORD_RECEIVE (R381, R384, R398): records reach a standby tree; what the standby asks for reaches the active. -/
def Dev.mirrorReceive (d : Dev) (p : Nat) (r : MirrorRecord) : Dev :=
  if !d.portUp p || !d.prot.joined then d
  else match r with
    | .askSnapshot => d.snapshot p
    | .askCkpt => match (d.port p).wnd.ckpts.head? with
      | none => d
      | some c => d.mirror p (.ckpt c)
    | r =>
      if !d.deputy p then d
      else match r with
        | .frame sfc fn cyc rem g => d.mirFrame p sfc fn cyc rem g
        | .reports sfc l => d.mirReports p sfc l
        | .maps sfc m c => d.mirMaps p sfc m c
        | .bursts sfc l rs => d.mirBursts p sfc l rs
        | .term t x => d.mirTerm p t x
        | .trunk n dly am ac km kc => d.modPort p fun q => q.modTrunk n fun x =>
          { x with dly := dly, asymM := am, asymC := ac, knownM := km, knownC := kc }
        | .teqdAdj v => d.modTree p fun x => { x with mateAdj := v }
        | .keys t k0 k1 u _ => d.modPort p fun q => q.modKeys t fun _ => { k0 := k0, k1 := k1, use1 := u }
        | .bcast n ix k => d.modPort p fun q => { q with bcast := sset (fun _ => {}) q.bcast n { key := k, idx := ix } }
        | .ckpt c => (if (d.tree p).snapshot then d.count 0x6004C else d).modTree p fun x => { x with ckptNew := some c }
        | .snapshotEnd => d.mirSnapshot p
        | _ => d

/-! ### The rows of a frame on an active or a standby tree -/

/-- PROGRAM_START (R162, R384, R398): the frame record leaves; a standby tree's run waits for the report set. -/
def Dev.programStartRow (d : Dev) (p cyc rem : Nat) : Dev :=
  if d.deputy p || !d.portUp p || !(d.port p).counting then d else (d.programStart p cyc rem).mirrorFrame p cyc rem

/-- REPORT_CUTOFF (R171, R384): the report set forms and goes to the mate; a standby tree takes the active's. -/
def Dev.reportCutoff (d : Dev) (p : Nat) : Dev :=
  if d.deputy p || !d.portUp p || (d.port p).wnd.cutDone then d
  else (d.modPort p fun q => { q with wnd := q.wnd.cutoff }).mirrorReports p

/-! ### Registers (Tables 13-13, 13-14) -/

/-- MAT_STATUS. -/
def Dev.matStatus (d : Dev) : Nat :=
  let z := d.prot
  b2n z.joined + 2 * z.pkg + 4 * b2n z.dmp.up + 8 * b2n z.hb.up +
    16 * b2n (z.joined && z.bothLost) + 32 * b2n z.fenceOut + 64 * b2n d.board.fenceIn + 128 * z.dmpRate

/-- MAT_ROLE[p]. -/
def TreeProt.roleReg (x : TreeProt) : Nat := x.role + 8 * b2n (x.plan == .asked) + 16 * b2n x.failover

end Sys2Proof.Machine
end

