-- ==== Sys2Proof/Machine/Faults.lean ====
section
/-! DEFINITION. Drifts, faults by level and RESET_SCOPE (chapter 01, R63). -/
namespace Sys2Proof.Machine
open Sys2Proof

/-! ### Drifts (R19 to R23) -/

/-- The spare lanes of a drift that can still take traffic. -/
def Drift.spares (x : Drift) : List Nat := [16, 17].filter fun k => !x.failed.contains k && !x.steered.any fun e => e.2 == k
/-- A lane carries traffic: lanes 0 to 15, and a spare in use (R20). -/
def Drift.carries (x : Drift) (lane : Nat) : Bool := decide (lane < 16) || x.steered.any fun e => e.2 == lane

/-- A drift with the lanes that the ledger records as replaced (Table 15-8, R465). -/
def Drift.ofLedger (nv : Ledger) (x : Nat) : Drift :=
  let l := ((nv.drift.filter fun e => e.1 == x).map (·.2)).take 2
  { failed := l, steered := l.zip [16, 17] }

/-- The tree ports of a port die. -/
def diePorts (x : Nat) : List Nat := (List.range 32).map (32 * x + ·)

/-- Reset of a port die with its end of the drift; spares already used and units retired stay so. -/
def Dev.resetDieAll (d : Dev) (x : Nat) (own : Option Tag) : Dev :=
  (((d.resetDie x own).modDrift x fun y => { (Drift.ofLedger d.ddr.nv x) with held := y.held })).retireAgain

/-- A fault of a port die (Table 1-3). -/
def Dev.dieFault (d : Dev) (x : Nat) : Dev := d.containScope (diePorts x) 4 fun d => d.resetDieAll x none

/-- A spare takes over a lane (R21): every block that was unacknowledged on it is sent again there, in its original order. -/
def Drift.steer (y : Drift) (lane sp : Nat) : Drift :=
  { y with
    failed := y.failed ++ [lane], steered := y.steered ++ [(lane, sp)]
    unacked := y.unacked.map fun e => if e.1 == lane then (sp, e.2) else e }

/-- DRIFT_LANE_FAULT (R21, R22): a spare takes the traffic; without a spare the fault is one of the port die. -/
def Dev.driftLaneFault (d : Dev) (x lane : Nat) : Dev :=
  let y := d.drift x
  if !d.variant.hasDie x || d.dieLost x || y.failed.contains lane then d
  else if !y.carries lane then d.modDrift x fun y => { y with failed := y.failed ++ [lane] }
  else match y.spares with
    | [] => d.dieFault x
    | sp :: _ =>
      ((d.modDrift x fun y => y.steer lane sp).modNv fun nv => { nv with drift := nv.drift ++ [(x, lane)] }).send
        (.resend x sp ((y.unacked.filter fun e => e.1 == lane).map (·.2)))

/-- A block that passes its check is acknowledged (R20): the oldest one held for its lane, or else a new one. -/
def Drift.blockGood (y : Drift) (lane : Nat) : Drift :=
  if y.unacked.any fun e => e.1 == lane then { y with unacked := dropFirst (fun e => e.1 == lane) y.unacked }
  else { y with next := y.next + 1 }

/-- A block that fails its check (R20): the sender holds it on, and sends it again. -/
def Drift.blockBad (y : Drift) (lane now : Nat) : Drift :=
  { y with
    crcFails := (y.crcFails.filter fun e => e.1 != lane || decide (now ≤ e.2 + 1000)) ++ [(lane, now)]
    next := if y.unacked.any (fun e => e.1 == lane) then y.next else y.next + 1
    unacked := if y.unacked.any (fun e => e.1 == lane) then y.unacked else y.unacked ++ [(lane, y.next)] }

/-- DRIFT_BLOCK_RECEIVE (R20, R21): a block whose CRC-32 fails is sent again; four failures within 1 us are a lane fault. -/
def Dev.driftBlock (d : Dev) (x lane : Nat) (crcGood : Bool) : Dev :=
  if !d.variant.hasDie x || d.dieLost x then d
  else if crcGood then d.modDrift x fun y => y.blockGood lane
  else
    let y := (d.drift x).blockBad lane d.now
    let l := y.crcFails
    let d1 := (d.modDrift x fun _ => y).send (.resend x lane ((y.unacked.filter fun e => e.1 == lane).map (·.2)))
    if 4 ≤ (l.filter fun e => e.1 == lane).length then
      (d1.modDrift x fun y => { y with crcFails := y.crcFails.filter fun e => e.1 != lane }).driftLaneFault x lane
    else d1

/-- DRIFT_SILENCE (R23): commands on the die's units end ABANDONED, its winders stop, bursts granted there are missed with cause 6, and
its trees move to the mate or stay dark until a reset of the die. -/
def Dev.driftSilence (d : Dev) (x : Nat) : Dev :=
  if !d.variant.hasDie x || d.dieLost x then d
  else
    let d0 := d.modDrift x fun y => { y with silent := true }
    let d1 := (diePorts x).foldl (fun d p => (d.abandonPort p fun _ => true).missAll p 6 fun _ => true) d0
    let d2 := d1.abandon fun a => objDie a.obj == some x && objClass a.obj != 9
    let d3 := (List.range 40).foldl (fun d k => d.modWinder (40 * x + k) fun w => { w with running := false }) d2
    (diePorts x).foldl (fun d p => d.containTree p 4 false) d3

/-! ### Contained faults (R26 to R32, R387) -/

/-- The tree ports that a fault of a level strikes. -/
def faultPorts : FaultLevel → List Nat
  | .port p => [p.val]
  | .cluster c => (List.range 4).map (4 * c.val + ·)
  | .region g => (List.range 16).map (16 * g.val + ·)
  | .die x => diePorts x.val

/-- A contained fault that strikes no tree of a running fail-over waits for the fail-overs (R399). -/
def Dev.blocked (d : Dev) : Instr → Bool
  | .containedFault level => (d.portsHere.any fun p => (d.tree p).failover) && !((faultPorts level).any fun p => (d.tree p).failover)
  | _ => false

/-- Containment of a fault in the logic of a tree port, a cluster, a region or a port die. -/
def Dev.containLevel (d : Dev) (level : FaultLevel) : Dev :=
  let go (x : Nat) (lvl : Nat) (reset : Dev → Dev) : Dev :=
    if !d.variant.hasDie x || d.dieLost x then d else d.containScope (faultPorts level) lvl reset
  match level with
  | .port p => go (p.val / 32) 1 fun d => d.resetPort p.val none false
  | .cluster c => go (c.val / 8) 2 fun d => (d.resetCluster c.val none false).retireAgain
  | .region g => go (g.val / 2) 3 fun d => (d.resetRegion g.val none false).retireAgain
  | .die x => go x.val 4 fun d => d.resetDieAll x.val none

/-- CONTAINED_FAULT: contained by Table 1-3, at once or after the fail-overs elsewhere (R399). -/
def Dev.containedFault (d : Dev) (level : FaultLevel) : Dev :=
  if d.blocked (.containedFault level) then { d with late := d.late ++ [.containedFault level] } else d.containLevel level

/-- UPLINK_LANE_FAULT (R30, R360). -/
def Dev.uplinkLaneFault (d : Dev) (u : Nat) : Dev := if d.variant.hasLane u then d.resetLane u none else d

/-! ### RESET_SCOPE (R35 to R37, R63, R509) -/

/-- Reset of an LDPC decoder: the codeword it holds is lost; a failed or retired decoder stays held in reset (R36). -/
def Dev.resetDec (d0 : Dev) (n : Nat) (own : Option Tag) : Dev :=
  let d := if (d0.dec n).st ≤ 1 then d0.abandonObj own (objRange 6 n (n + 1)) else d0
  match (d.dec n).held with
  | none => d
  | some w => (d.modDec n fun x => { x with held := none }).modSlot w fun s => s.lose w.idx

/-- Reset of a forwarding pipeline: the frames in it are dropped; a failed one returns to service. -/
def Dev.resetPipe (d0 : Dev) (f : Nat) (own : Option Tag) : Dev :=
  let d := d0.abandonObj own (objRange 0x0D f (f + 1))
  { d with cls := { d.cls with
    pipeDown := d.cls.pipeDown.filter fun g => g != f
    inQ := d.cls.inQ.filter fun fr => fr.pipe != f
    recQ := d.cls.recQ.filter fun r => r.fr.pipe != f } }

/-- Reset of a DRAM subchannel: the commands on it end ABANDONED, a thaw among them, and its state is cleared; one that is frozen stays held
until it is thawed or retired (R35 to R37, log entry 49). -/
def Dev.resetSub (d : Dev) (s : Nat) (own : Option Tag) : Dev :=
  (d.abandonObj own (objRange 0x0C s (s + 1))).modSub s fun x =>
    if x.st = 0 then {} else if x.st = 2 then { x with st := 1, thaw := none } else x

/-- RESET_SCOPE. -/
def cmdResetScope (c : Tag) (obj : Word) (_ : Dev) : HostCmd :=
  let i := objIndex obj
  { opc := 0x0007
    good := objIs obj 1 64 || objIs obj 5 80 || objIs obj 6 80 || objIs obj 7 16 || objIs obj 8 4 || objIs obj 9 2 || objIs obj 0x0A 32 ||
      objIs obj 0x0C 8 || objIs obj 0x0D 4
    body := fun d =>
      (match objClass obj with
        | 0x01 => d.resetPort i (some c) false
        | 0x05 => d.resetWinder i (some c)
        | 0x06 => d.resetDec i (some c)
        | 0x07 => (d.resetCluster i (some c) false).retireAgain
        | 0x08 => (d.resetRegion i (some c) false).retireAgain
        | 0x09 => d.resetDieAll i (some c)
        | 0x0A => d.resetLane i (some c)
        | 0x0C => d.resetSub i (some c)
        | _ => d.resetPipe i (some c)).complete c stOk }

end Sys2Proof.Machine
end

