-- ==== Sys2Proof/Machine/Start.lean ====
section
/-! DEFINITION. Start-up, reset, power, temperature, boundary scan (chapters 17 and 18). -/
namespace Sys2Proof.Machine
open Sys2Proof

def Dev.modBoard (d : Dev) (f : Board → Board) : Dev := { d with board := f d.board }

/-! ### RESET_N and the internal start-up (R465, R485, R486, R488) -/

/-- RESET_N_ASSERT (R486). -/
def Dev.resetAssert (d : Dev) : Dev := d.packageReset.modBoard fun b => { b with resetN := true }

/-- Up step of a rail (Table 18-3). -/
def railStep : Rail → Nat
  | .hub | .pa | .pb => 1
  | .sram => 2
  | .pon085 | .eth085 => 3
  | .pon12 | .eth12 | .ddr => 4
  | .io => 5

def allRails : List Rail := [.hub, .pa, .pb, .sram, .pon085, .eth085, .pon12, .eth12, .ddr, .io]

/-- Every rail that takes part up to a step is up; VDD_PB need not be wired on an SKX3250 (R484). -/
def Dev.railsTo (d : Dev) (step : Nat) : Bool :=
  allRails.all fun r => decide (step < railStep r) || (r == .pb && d.variant == .skx3250) || d.board.rails.contains r

/-- RESET_N_DEASSERT (R465, R485, R488): the straps are sampled and the start-up begins; a mistake of Table 18-17 without the rails or
with TEST high. -/
def Dev.resetDeassert (d : Dev) (straps : BitVec 3) : Option Dev :=
  if !d.board.resetN then some d
  else if !d.railsTo 5 || straps.getLsbD 2 then none
  else some (d.modBoard fun b => { b with resetN := false, since := d.now, straps := straps })

/-- The repairs and retirements of the ledger apply (R446, R465). -/
def Dev.applyLedger (d : Dev) : Dev :=
  let d1 := (d.ddr.nv.subs.foldl (fun d s => d.modSub s fun x => { x with st := 3 }) d).retireAgain
  ((List.range 2).foldl (fun d x => d.modDrift x fun _ => Drift.ofLedger d.ddr.nv x) d1).modDdr fun x => { x with nvmOk := true }

/-- A fitted port die has its drift trained or has failed to (R467). -/
def Dev.driftSettled (d : Dev) (x : Nat) : Bool :=
  !d.variant.hasDie x || (d.drift x).held || (if x = 0 then d.board.driftA else d.board.driftB)

/-- BOOT_STEP_COMPLETE (Table 17-1): step 1 comes first, BOOT_DONE after steps 1 to 3. -/
def Dev.bootStep (d : Dev) (st : BootStep) : Dev :=
  if d.board.resetN || d.board.bootDone then d
  else match st with
    | .ledger => if d.ddr.nvmOk then d else d.applyLedger
    | .memInit => if d.ddr.nvmOk then d.modBoard fun b => { b with memInit := true } else d
    | .drift x trained =>
      if !d.ddr.nvmOk || !d.variant.hasDie x.val || d.driftSettled x.val then d
      else if trained then d.modBoard fun b => if x.val = 0 then { b with driftA := true } else { b with driftB := true }
      else d.modDrift x.val fun y => { y with held := true }
    | .pcie => d.modBoard fun b => { b with pcieUp := true }
    | .done =>
      if d.ddr.nvmOk && d.board.memInit && d.driftSettled 0 && d.driftSettled 1 then d.modBoard fun b => { b with bootDone := true } else d

/-- POWER_RAIL_CHANGE (R484): a rail that rises before the steps below it are up is a mistake of Table 18-17; a rail that falls takes the
package's state with it, all but the ledger. -/
def Dev.railChange (d : Dev) (r : Rail) (up : Bool) : Option Dev :=
  if up then
    if d.board.rails.contains r then some d
    else if !d.railsTo (railStep r - 1) || !d.board.resetN then none
    else some (d.modBoard fun b => { b with rails := b.rails ++ [r] })
  else if !d.board.rails.contains r then some d
  else some (d.packageReset.modBoard fun b => { b with rails := b.rails.filter fun x => x != r, tap := {} })

/-- PCIE_RESET (R38, R475). -/
def Dev.pcieReset (d : Dev) (_ : PcieReset) : Dev :=
  if d.board.resetN then d
  else { (d.modBoard fun b => { b with hostReset := true, hostResetAt := some d.now }) with outbox := d.outbox ++ [.pcieReset] }

/-! ### DRAM initialisation (R469) -/

/-- DRAM_READY: a subchannel that fails is frozen with CAUSE 3. -/
def Dev.dramReady (d : Dev) (failed : Byte) : Dev :=
  if d.board.resetN || !d.ddr.ctrl.getLsbD 0 || d.ddr.ready then d
  else
    (((List.range 8).filter fun s => failed.getLsbD s && (d.sub s).st == 0).foldl (fun d s =>
      let (loc, d1) := d.someLoc s
      let (raw, d2) := d1.pick 40
      let (synd, d3) := d2.pick 7
      let (f, d4) := d3.pick 1
      let (cmdNow, d5) := d4.pick 16
      d5.freeze s 3 (d5.captureOf s 3 synd raw (f == 1) (BitVec.ofNat 16 cmdNow) loc) loc) d).modDdr fun x => { x with ready := true }

/-! ### Temperature (R496, R497) -/

/-- OT_TH and OT_EN of PAD_CTRL. -/
def Board.otTh (b : Board) : Nat := b.padCtrl.toNat % 256
def Board.otEn (b : Board) : Bool := b.padCtrl.getLsbD 8

/-- A reading as PAD_TEMP shows it: 10 bits, two's complement. -/
def temp10 (t : Int) : Nat := (BitVec.ofInt 10 t).toNat

/-- TEMP_SENSOR_READ: nine readings; PAD_OVERTEMP when the highest reaches OT_TH. A threshold outside 80 to 125 leaves it open whether
the event is raised (Table 18-17). -/
def Dev.tempRead (d : Dev) (t : List (BitVec 10)) : Dev :=
  if d.board.resetN then d
  else
    let new := (List.range 9).foldl (fun m k => sset (fun _ => (0 : Int)) m k
      (if k < 6 || d.variant.hasDie 1 then ((t[k]?).map (·.toInt)).getD 0 else 0)) []
    let d1 := d.modBoard fun b => { b with temps := new }
    let (k, hot) := d1.hottest
    let th : Int := 4 * (d.board.otTh : Int)
    let inRange : Bool := decide (80 ≤ d.board.otTh ∧ d.board.otTh ≤ 125)
    let (bit, d2) := if inRange then (0, d1) else d1.pick 1
    let fire : Bool := d.board.otEn && (if inRange then decide (th ≤ hot) && d.board.otArmed else bit == 1)
    let d3 := d2.modBoard fun b => { b with otArmed := if hot < th - 20 then true else b.otArmed && !fire }
    if fire then d3.emit 0x8D01 0 (le 1 k ++ le 1 0 ++ le 2 (temp10 hot)) else d3

/-- PAD_TEMP_MAX (Table 18-16). -/
def Dev.tempMax (d : Dev) : Nat := temp10 d.hottest.2 + 4096 * d.hottest.1

/-! ### Boundary scan (R495, IEEE 1149.1) -/

/-- The state after a rising edge of TCK. -/
def TapState.next (s : TapState) (tms : Bool) : TapState :=
  match s, tms with
  | .reset, true => .reset
  | .reset, false => .idle
  | .idle, false => .idle
  | .idle, true => .selDr
  | .selDr, false => .capDr
  | .selDr, true => .selIr
  | .capDr, false => .shiftDr
  | .capDr, true => .exit1Dr
  | .shiftDr, false => .shiftDr
  | .shiftDr, true => .exit1Dr
  | .exit1Dr, false => .pauseDr
  | .exit1Dr, true => .updDr
  | .pauseDr, false => .pauseDr
  | .pauseDr, true => .exit2Dr
  | .exit2Dr, false => .shiftDr
  | .exit2Dr, true => .updDr
  | .updDr, false => .idle
  | .updDr, true => .selDr
  | .selIr, false => .capIr
  | .selIr, true => .reset
  | .capIr, false => .shiftIr
  | .capIr, true => .exit1Ir
  | .shiftIr, false => .shiftIr
  | .shiftIr, true => .exit1Ir
  | .exit1Ir, false => .pauseIr
  | .exit1Ir, true => .updIr
  | .pauseIr, false => .pauseIr
  | .pauseIr, true => .exit2Ir
  | .exit2Ir, false => .shiftIr
  | .exit2Ir, true => .updIr
  | .updIr, false => .idle
  | .updIr, true => .selDr

/-- IDCODE by variant (Table 18-10). -/
def Variant.idcode : Variant → Word
  | .skx6450 => 0x06450967#32
  | .skx6410 => 0x06410967#32
  | .skx3250 => 0x03250967#32
  | .skx6450n => 0x06451967#32

/-- TCK_EDGE: TMS and TDI at a rising edge, and what TDO shows after the falling edge. While the instruction in force is IDCODE the data
register is the 32 bits of IDCODE; the codes and registers of other instructions are not in the manual, so their TDO bits are free. -/
def Dev.tckEdge (d : Dev) (tms tdi : Bool) : Dev :=
  let t := d.board.tap
  let nx := t.st.next tms
  let put (t : Tap) (bit : Option Bool) : Dev :=
    let d1 := d.modBoard fun b => { b with tap := { t with st := nx } }
    match bit with
    | some b => d1.send (.tdo b)
    | none => let (v, d2) := d1.pick 1; d2.send (.tdo (v == 1))
  let quiet (t : Tap) : Dev := d.modBoard fun b => { b with tap := { t with st := nx } }
  if nx = .reset then quiet { t with idcode := true, dr := none, irBits := 0 }
  else
    let t1 : Tap :=
      match t.st with
      | .capDr => { t with dr := if t.idcode then some ((List.range 32).map fun i => d.variant.idcode.getLsbD i) else none }
      | .shiftDr => { t with dr := t.dr.map fun l => l.drop 1 ++ [tdi] }
      | .capIr => { t with irBits := 0 }
      | .shiftIr => { t with irBits := t.irBits + 1 }
      | .updIr => { t with idcode := false }
      | _ => t
    match nx with
    | .shiftDr => put t1 (t1.dr.bind fun l => l[0]?)
    | .shiftIr => put t1 (if t1.irBits = 0 then some true else if t1.irBits = 1 then some false else none)
    | _ => quiet t1

end Sys2Proof.Machine
end

