-- ==== Sys2Proof/Machine/Regs.lean ====
section
/-! DEFINITION. The register address map (chapter 19): what a read of a BAR0 offset returns and does, what a write does, the diagnosis
window, the service port. -/
namespace Sys2Proof.Machine
open Sys2Proof

/-! ### Hub-die registers (Table 19-2) -/

/-- HUB_BOOT_STATUS (Table 17-5). -/
def Dev.bootStatus (d : Dev) : Nat :=
  let b := d.board
  b2n b.bootDone + 2 * b2n b.memInit + 4 * b2n b.driftA + 8 * b2n b.driftB + 16 * b2n (d.drift 0).held + 32 * b2n (d.drift 1).held +
    64 * b2n b.hostReset

/-- PART of HUB_ID (Table 19-6). -/
def Variant.part : Variant → Nat
  | .skx6450 => 0x6450
  | .skx6410 => 0x6410
  | .skx3250 => 0x3250
  | .skx6450n => 0x6451

/-- HUB registers (Table 19-4). -/
def Dev.hubReg (d : Dev) (o : Nat) : Nat :=
  match o with
  | 0x00 => d.variant.part + 2 ^ 16 * Config.stepping.toNat
  | 0x04 => d.variant.unitPresent.toNat
  | 0x08 => d.bootStatus
  | 0x0C => d.board.scratch.toNat
  | 0x10 => d.board.diagSel.toNat
  | 0x14 => b2n d.board.ueSeen + 16 * d.board.ueOfs
  | _ => 0

/-- CMD_RING_STATUS[r] (Table 2-15): FULL at 256 accepted commands (R58), STALLED while the reserved part of the backlog is full (R73). -/
def Dev.ringStatus (d : Dev) (b : Bank) (r : Fin 8) : Nat :=
  let x := d.cmdRing r
  let full := decide (256 ≤ d.active b r)
  b2n (x.en && !x.paused && !x.halted && !full) + 2 * b2n x.paused + 4 * b2n x.halted + 8 * b2n b.stalled + 16 * b2n full

/-- Registers of a command ring (Table 2-13). -/
def Dev.cmdReg (d : Dev) (b : Bank) (r : Fin 8) (o : Nat) : Nat :=
  let x := d.cmdRing r
  match o with
  | 0x00 => x.baseLo.toNat
  | 0x04 => x.baseHi.toNat
  | 0x08 => x.size
  | 0x0C => b2n x.en + 2 * b2n x.pause
  | 0x10 => d.ringStatus b r
  | 0x14 => x.rptr
  | 0x18 => x.wptr
  | 0x1C => x.expSeq.toNat
  | 0x20 => x.gapSeq.toNat
  | 0x24 => d.active b r
  | _ => 0

/-- Registers of the event ring (Table 2-13). -/
def Bank.reg (b : Bank) (o : Nat) : Nat :=
  match o with
  | 0x00 => b.baseLo.toNat
  | 0x04 => b.baseHi.toNat
  | 0x08 => b.size
  | 0x0C => b2n b.en
  | 0x10 => b.wptr
  | 0x14 => b.rptr
  | 0x18 => b.rseq.toNat
  | 0x1C => b.modr.toNat
  | 0x20 => b.backlog.length
  | 0x24 => b.lostCnt.toNat
  | _ => 0

/-- Registers of a punt or inject ring (Table 2-13). -/
def PktRing.reg (x : PktRing) (o : Nat) : Nat :=
  match o with
  | 0x00 => x.baseLo.toNat
  | 0x04 => x.baseHi.toNat
  | 0x08 => x.size
  | 0x0C => x.ctrl.toNat
  | 0x10 => x.rptr
  | 0x14 => x.wptr
  | _ => 0

/-- Classifier registers (Table 9-14). -/
def Dev.clsReg (d : Dev) (o : Nat) : Nat :=
  if o < 0x80 then
    let s := d.ruleSet (o / 0x40)
    match o % 0x40 with
    | 0x00 => s.parse.toNat
    | 0x04 => s.stpid.toNat
    | 0x08 => s.genReg.toNat
    | _ => 0
  else if 0x100 ≤ o ∧ o < 0x300 then
    if o % 8 = 0 then (d.hashSelOf ((o - 0x100) / 8)).toNat else (d.hashSeedOf ((o - 0x100) / 8)).toNat
  else if o = 0x400 then d.cls.live.toNat
  else 0

/-- VALID entries of a table (Table 10-11). -/
def Dev.tableCount (d : Dev) (t : TableId) : Nat := ((d.table t).entries.filter (entryValid t)).length

/-- Service table registers (Table 10-11). -/
def Dev.tblReg (d : Dev) (o : Nat) : Nat :=
  match o with
  | 0x00 => d.tbl.ctrl.toNat
  | 0x10 => d.tableCount .svc
  | 0x14 => d.tbl.svc.sump.length
  | 0x18 => d.tableCount .mac
  | 0x1C => d.tbl.mac.sump.length
  | 0x20 => d.tableCount .val
  | 0x24 => d.tbl.val.sump.length
  | _ => 0

/-- Traffic manager registers (Table 11-9). -/
def Dev.dtmReg (d : Dev) (o : Nat) : Nat :=
  if o = 0 then d.dtm.ctrl.toNat
  else if 0x10 ≤ o ∧ o < 0x40 then
    let x := d.dtm.part ((o - 0x10) / 0x10)
    match o % 0x10 with
    | 0x0 => x.res
    | 0x4 => x.max
    | 0x8 => x.used
    | _ => 0
  else if o = 0x40 then d.dtm.shared
  else if o = 0x44 then d.dtm.sweepUs
  else 0

/-- Registers of uplink lane `u` (Table 12-8). -/
def Dev.laneReg (d : Dev) (u o : Nat) : Nat :=
  match o with
  | 0x00 => (d.slane u).ctrl.toNat
  | 0x04 => (d.laneStatus u).toNat
  | 0x08 => (d.slane u).ptp.toNat
  | _ => 0

/-- Registers of the uplink port whose lowest lane is `u` (Table 12-8). -/
def Dev.ulkReg (d : Dev) (u o : Nat) : Nat :=
  match o with
  | 0x00 => (d.portStatus u).toNat
  | 0x04 => (d.uplink u).pauseStatus.toNat
  | 0x08 => (d.uplink u).gateStatus.toNat
  | 0x0C => d.rxFifo u
  | _ => 0

/-- Protection registers (Table 13-11). -/
def Dev.matReg (d : Dev) (o : Nat) : Nat :=
  match o with
  | 0x00 => d.prot.ctrl.toNat
  | 0x04 => d.matStatus
  | 0x08 => uns32 d.prot.timeOfs
  | 0x10 => d.prot.mateArmed.toNat % 2 ^ 32
  | 0x14 => d.prot.mateArmed.toNat / 2 ^ 32
  | _ => 0

/-- Protection registers of tree port `p`. -/
def Dev.matTreeReg (d : Dev) (p o : Nat) : Nat :=
  if !d.variant.hasPort p then 0
  else match o with
  | 0x0 => (d.tree p).roleReg
  | 0x4 => d.health p
  | _ => 0

/-- Time registers (Table 14-5): TOD_PPS_NS and TOD_PPS_ERR hold the last accepted edge. -/
def Dev.todReg (d : Dev) (o : Nat) : Nat :=
  let x := d.time
  match o with
  | 0x00 => x.ctrl.toNat
  | 0x04 => d.todStatus
  | 0x08 => x.ns
  | 0x0C => x.latFrac
  | 0x10 => x.latSec % 2 ^ 32
  | 0x14 => x.latSec / 2 ^ 32 % 2 ^ 16
  | 0x18 => uns32 x.freq
  | 0x1C => x.adj.toNat
  | 0x20 => (x.last.map fun t => (t % 1000000000).toNat).getD 0
  | 0x24 => uns32 x.err
  | _ => 0

/-- Memory integrity registers (Table 15-11). -/
def Dev.memReg (d : Dev) (o : Nat) : Nat :=
  if 0x100 ≤ o ∧ o < 0x300 then (if o % 0x40 = 0 then d.subStatus ((o - 0x100) / 0x40) else 0)
  else if 0x10 ≤ o ∧ o < 0x20 then (sget (fun _ => 0#32) d.ddr.cfg ((o - 0x10) / 4)).toNat
  else match o with
  | 0x00 => d.ddr.ctrl.toNat
  | 0x04 => d.memStatus
  | 0x08 => d.ddr.sramS + 2 ^ 16 * d.ddr.dramH
  | _ => 0

/-- Tally registers (Table 16-7). -/
def Dev.talReg (d : Dev) (o : Nat) : Nat :=
  if 0x1000 ≤ o ∧ o < 0x1800 then
    if d.variant.hasPort ((o - 0x1000) / 0x20) then d.winReg ((o - 0x1000) / 0x20) (o % 0x20) else 0
  else if 0x1800 ≤ o ∧ o < 0x1C00 then
    if d.variant.hasLane ((o - 0x1800) / 0x20) then d.winReg (64 + (o - 0x1800) / 0x20) (o % 0x20) else 0
  else if 0x100 ≤ o ∧ o < 0x200 then
    let c := (o - 0x100) / 0x10
    if o % 0x10 = 0 && d.variant.hasDie (c / 8) && !d.dieLost (c / 8) then (d.cluster c).prof.status.toNat else 0
  else match o with
  | 0x00 => d.tally.ctrl.toNat
  | 0x04 => d.talStatus
  | 0x08 => d.tally.gatherMax
  | 0x0C => d.tally.invalid
  | 0x10 => d.tally.lastAt / 1000000000 % 2 ^ 32
  | 0x14 => d.tally.lastAt / 1000000000 / 2 ^ 32 % 2 ^ 16
  | 0x18 => d.tally.lastAt % 1000000000
  | _ => 0

/-- PAD registers (Table 18-13). -/
def Dev.padReg (d : Dev) (o : Nat) : Nat :=
  if 0x10 ≤ o ∧ o < 0x34 then temp10 (d.temp ((o - 0x10) / 4))
  else match o with
  | 0x00 => d.board.straps.toNat
  | 0x04 => d.board.padCtrl.toNat
  | 0x08 => d.tempMax
  | _ => 0

/-- A hub-die register at BAR0 offset `off` that is no counter. -/
def Dev.hubAt (d : Dev) (b : Bank) (off : Nat) : Nat :=
  let o := off % 0x10000
  match off / 0x10000 with
  | 0x0 => d.hubReg o
  | 0x1 =>
    if o < 0x200 then d.cmdReg b (Fin.ofNat 8 (o / 0x40)) (o % 0x40)
    else if o < 0x400 then b.reg (o - 0x200)
    else if o < 0x600 then (d.punt ((o - 0x400) / 0x20)).reg (o % 0x20)
    else if o < 0x800 then (d.injRing ((o - 0x600) / 0x20)).reg (o % 0x20)
    else 0
  | 0x2 => d.clsReg o
  | 0x3 => d.tblReg o
  | 0x4 => d.dtmReg o
  | 0x5 =>
    if o < 0x4000 then (if d.variant.hasLane (o / 0x200) then d.laneReg (o / 0x200) (o % 0x200) else 0)
    else if o < 0xC000 then (if d.variant.hasLane ((o - 0x4000) / 0x400) then d.ulkReg ((o - 0x4000) / 0x400) (o % 0x400) else 0)
    else 0
  | 0x6 =>
    if !d.variant.hasProt then 0
    else if o < 0x100 then d.matReg o
    else if o < 0x500 then d.matTreeReg ((o - 0x100) / 0x10) (o % 0x10)
    else 0
  | 0x7 => if 0x100 ≤ o ∧ o < 0x180 then (if o % 0x10 = 0 then d.trigStatus ((o - 0x100) / 0x10) else 0) else d.todReg o
  | 0x8 => d.memReg o
  | 0x9 => d.talReg o
  | 0xA => d.padReg o
  | _ => 0

/-! ### Port-die registers (Table 19-3) -/

def LaneState.code : LaneState → Nat
  | .off => 0
  | .dark => 1
  | .lit => 2
  | .draining => 3

/-- TREE_STATUS[p] (Table 3-14). -/
def Dev.treeStatus (d : Dev) (p : Nat) : Nat :=
  let q := d.port p
  q.main.st.code + 4 * q.comp.st.code + 16 * b2n q.fence + 32 * b2n d.board.fenceIn + 64 * b2n q.main.los + 128 * b2n q.comp.los +
    512 * b2n (d.txdis p .main) + 1024 * b2n (d.txdis p .comp)

/-- TREE_LANE[p] (Table 3-15). -/
def Port.laneReg (q : Port) : Nat :=
  q.main.gen + 16 * q.comp.gen + 128 * b2n q.gponFec + 256 * q.main.pend + 4096 * q.comp.pend + 32768 * b2n q.gponFecPend

/-- RNG_STATUS[p] (Table 4-10). -/
def Dev.rngStatus (d : Dev) (p : Nat) : Nat :=
  let q := d.port p
  let rer (t : Trunk) : Bool := t.rerouteM || t.rerouteC
  q.rangedCount + 2 ^ 10 * b2n q.watch.isSome + 2 ^ 11 * b2n (rer (q.trunk (d.liveTrunk p))) + 2 ^ 12 * b2n (d.todDeg p .main) +
    2 ^ 13 * b2n (d.todDeg p .comp) + 2 ^ 14 * d.liveTrunk p + 2 ^ 15 * b2n q.main.disc.running + 2 ^ 16 * b2n q.comp.disc.running

/-- RNG_TRUNK_FLAGS[p][t] (Table 4-11). -/
def Dev.trunkFlags (d : Dev) (p t : Nat) : Nat :=
  let x := (d.port p).trunk t
  b2n x.knownM + 2 * b2n x.knownC + 4 * b2n (d.liveTrunk p == t) + 8 * b2n (x.rerouteM || x.rerouteC)

/-- WND_STATUS[p] (Table 5-9). -/
def WndPort.status (x : WndPort) : Nat :=
  x.winder + 2 ^ 7 * b2n x.half + 2 ^ 8 * b2n x.image + 2 ^ 9 * b2n x.swap.isSome + 2 ^ 10 * b2n x.lastMissed + 2 ^ 11 * b2n x.noWitness +
    2 ^ 12 * b2n (x.ckpts != [])

/-- Registers of tree port `p` at offset `o` of its area (Tables 3-12, 4-8, 5-8, 8-6). -/
def Dev.portReg (d : Dev) (p o : Nat) : Nat :=
  let q := d.port p
  let w := q.wnd
  match o with
  | 0x000 => q.losFrames.toNat
  | 0x004 => d.treeStatus p
  | 0x008 => q.laneReg
  | 0x00C => q.ofs.toNat
  | 0x010 => q.brstM.toNat
  | 0x014 => q.brstC.toNat
  | 0x018 => q.rssiTerm + 2 ^ 12 * b2n q.rssiArm + 2 ^ 13 * b2n q.rssiDone
  | 0x01C => q.rssiTime.toNat
  | 0x020 => q.sfc % 2 ^ 32
  | 0x024 => q.sfc / 2 ^ 32 % 2 ^ 19
  | 0x100 => q.rngCtrl.toNat
  | 0x104 => q.teqd.toNat
  | 0x108 => uns32 q.teqdAdj
  | 0x10C => d.rngStatus p
  | 0x120 => uns32 q.trunk0.dly
  | 0x124 => uns32 q.trunk0.asymM
  | 0x128 => uns32 q.trunk0.asymC
  | 0x12C => d.trunkFlags p 0
  | 0x130 => uns32 q.trunk1.dly
  | 0x134 => uns32 q.trunk1.asymM
  | 0x138 => uns32 q.trunk1.asymC
  | 0x13C => d.trunkFlags p 1
  | 0x200 => w.status
  | 0x204 => b2n w.witEn + 2 ^ 8 * w.witGap + 2 ^ 12 * w.witProf
  | 0x208 => w.sealCyc
  | 0x20C => (w.ckpts.head?.map (·.sfc % 2 ^ 32)).getD 0
  | 0x210 => (w.img w.half).version + 2 ^ 16 * (w.img (!w.half)).version
  | 0x300 => q.ups.ctrl.toNat
  | 0x304 => q.ups.widx.toNat
  | _ => 0

/-- WND_PROG_BASE and WND_UNIT_STATUS of winder `w` (Table 5-8): the active half is that of the tree port it serves. -/
def Dev.winderReg (d : Dev) (w o : Nat) : Nat :=
  let x := d.winder w
  match o with
  | 0x00 => if x.serves.any fun p => (d.port p).wnd.half then 0x4000 else 0
  | 0x04 => x.st + 2 ^ 8 * x.port + 2 ^ 16 * x.cause
  | _ => 0

/-- UPS_DEC_STATUS (Table 8-8). -/
def Dev.decReg (d : Dev) (n o : Nat) : Nat :=
  if o = 0 && d.variant.hasDecoders then (d.dec n).st + 2 ^ 8 * (d.dec n).cause else 0

/-- Pool registers of cluster `c` (Tables 8-6, 8-9), before the codewords that come in this cycle (R504); without decoders there are none. -/
def Dev.poolReg (d : Dev) (c o : Nat) : Nat :=
  let x := (d.cluster c).takeIn (d.now - 1)
  let n := ((decsOf c).filter fun k => (d.dec k).st == 1).length
  if !d.variant.hasDecoders then 0
  else match o with
  | 0x0 => x.iterMax.toNat
  | 0x4 => x.queue.length + 2 ^ 8 * x.qMax + 2 ^ 16 * n + 2 ^ 19 * b2n (decide (32 < x.queue.length))
  | _ => 0

/-- What lies at an offset of a port die's area (Table 19-3). -/
inductive DieSite where
  | port (p o : Nat)
  | winder (w o : Nat)
  | dec (n o : Nat)
  | pool (c o : Nat)
  | none
  deriving DecidableEq, Repr

/-- Table 19-3 for port die `x`. -/
def dieSite (x o : Nat) : DieSite :=
  if o < 0x800000 then (if o % 0x40000 < 0x400 then .port (32 * x + o / 0x40000) (o % 0x40000) else .none)
  else if o < 0x800000 + 0x1000 * 40 then .winder (40 * x + (o - 0x800000) / 0x1000) (o % 0x1000)
  else if 0x840000 ≤ o ∧ o < 0x840000 + 0x100 * 40 then .dec (40 * x + (o - 0x840000) / 0x100) (o % 0x100)
  else if 0x844000 ≤ o ∧ o < 0x844000 + 0x100 * 8 then .pool (8 * x + (o - 0x844000) / 0x100) (o % 0x100)
  else .none

/-- A port-die register that is no counter. -/
def Dev.dieAt (d : Dev) (x o : Nat) : Nat :=
  match dieSite x o with
  | .port p o => d.portReg p o
  | .winder w o => d.winderReg w o
  | .dec n o => d.decReg n o
  | .pool c o => d.poolReg c o
  | .none => 0

/-! ### The diagnosis window (R505, R506) -/

/-- The word of the window at `off` (Table 19-5), and the port die it is read from. -/
def Dev.windowAt (d : Dev) (off : Nat) : Nat × Nat :=
  if off < 0x800000 then
    let x := b2n (d.board.diagSel.getLsbD 0)
    (x, (sget (fun _ => 0#32) (d.port (32 * x + off / 0x40000)).wnd.alloc (off % 0x40000 / 4)).toNat)
  else
    let x := b2n (d.board.diagSel.getLsbD 1)
    let i := (off - 0x800000) / 0x20000
    let o := off % 0x20000
    let w := d.winder (40 * x + i)
    (x, if 40 ≤ i then 0 else if o < 0x8000 then (w.iw (decide (0x4000 ≤ o)) (o % 0x4000 / 4)).toNat
      else if 0x10000 ≤ o then (w.lw ((o - 0x10000) / 4)).toNat else 0)

/-- The page that the window shows at `off` is of a die that answers (R502, R506). -/
def Dev.windowOpen (d : Dev) (off : Nat) : Bool := d.variant.hasDie (d.windowAt off).1 && !d.dieLost (d.windowAt off).1

/-- A window read: a page of an absent or lost die reads zero (R502, R506). -/
def Dev.windowRead (d : Dev) (off : Nat) : Nat := if d.windowOpen off then (d.windowAt off).2 else 0

/-! ### Reads (R500 to R502, R466) -/

/-- The register at BAR0 offset `off`, a multiple of 4, once BOOT_DONE is 1. -/
def Dev.regAt (d : Dev) (b : Bank) (off : Nat) : Nat :=
  let x := off / 0x1000000 - 1
  if off < 0x1000000 then (if isCtrReg d.variant off then (d.ctr (ctrIdx off)).val.toNat else d.hubAt b off)
  else if off < 0x3000000 then
    if !d.variant.hasDie x then 0
    else if d.dieLost x then
      match dieSite x (off % 0x1000000) with
      | .port _ 0x004 => 0x700
      | _ => 0
    else if isCtrReg d.variant off then (d.ctr (ctrIdx off)).val.toNat
    else d.dieAt x (off % 0x1000000)
  else if off < 0x4000000 then d.windowRead (off - 0x3000000)
  else 0

/-- A read of BAR0 (R466). -/
def Dev.regRead (d : Dev) (b : Bank) (off : Nat) : Nat :=
  if d.board.resetN then 0
  else if d.board.bootDone || off == 0 || off == 4 || off == 8 then d.regAt b off
  else 0

/-- What a read does beside returning a value: the latches of R416 and R458, the RC field of Table 8-9. -/
def Dev.readEffect (d : Dev) (off : Nat) : Dev :=
  if !d.board.bootDone then d
  else if off = 0x70008 then d.nowNsRead
  else if 0x91000 ≤ off ∧ off < 0x91C00 ∧ off % 0x20 = 4 then
    let x := (off - 0x91000) / 0x20
    if (if x < 64 then d.variant.hasPort x else d.variant.hasLane (x - 64)) then d.winSeqRead x else d
  else if 0x1000000 ≤ off ∧ off < 0x3000000 then
    let x := off / 0x1000000 - 1
    match dieSite x (off % 0x1000000) with
    | .pool c 0x4 => if d.variant.hasDecoders && d.variant.hasDie x && !d.dieLost x then d.modCluster c fun y => { y.takeIn (d.now - 1) with qMax := 0 } else d
    | _ => d
  else d

/-- A host read: its value and the device after it. -/
def Dev.hostRead (d : Dev) (b : Bank) (off : Nat) : Nat × Dev := (d.regRead b off, d.readEffect off)

/-! ### Writes (R13, R15, R49, R77, R501 to R503) -/

/-- CMD_RING_CTRL.EN: 0 to 1 sets both pointers to 0 (R49). -/
def CmdRing.setEn (x : CmdRing) (en : Bool) : CmdRing :=
  if en && !x.en then { x with en := true, rptr := 0, wptr := 0 } else { x with en := en }

/-- CMD_RING_CTRL.PAUSE (R77). -/
def CmdRing.setPause (x : CmdRing) (on : Bool) : CmdRing := { x with pause := on, paused := on }

/-- A write of a command-ring register. -/
def CmdRing.write (x : CmdRing) (o : Nat) (v : Word) : CmdRing :=
  match o with
  | 0x00 => if x.en then x else { x with baseLo := v &&& 0xFFFFF000#32 }
  | 0x04 => if x.en then x else { x with baseHi := v }
  | 0x08 => if x.en then x else { x with size := v.toNat % 32 }
  | 0x0C =>
    let z := (x.setEn (v.getLsbD 0)).setPause (v.getLsbD 1)
    if v.getLsbD 2 then { z with halted := false } else z
  | 0x1C => if !x.en || x.halted || x.paused then { x with expSeq := v } else x
  | _ => x

/-- CMD_PUNT_CTRL and CMD_INJ_CTRL (Table 2-17), with the rule of R49. -/
def PktRing.setCtrl (x : PktRing) (v : Word) : PktRing :=
  let w := v &&& 0x03FFFF01#32
  if v.getLsbD 0 && !x.en then { x with ctrl := w, rptr := 0, wptr := 0 } else { x with ctrl := w }

/-- A write of a punt- or inject-ring register. -/
def PktRing.write (x : PktRing) (o : Nat) (v : Word) : PktRing :=
  match o with
  | 0x00 => if x.en then x else { x with baseLo := v &&& 0xFFFFF000#32 }
  | 0x04 => if x.en then x else { x with baseHi := v }
  | 0x08 => if x.en then x else { x with size := v.toNat % 32 }
  | 0x0C => x.setCtrl v
  | _ => x

/-- Asks the banksman for something. -/
def Dev.ask (d : Dev) (op : BankOp) : Dev := { d with outbox := d.outbox ++ [op] }

/-- Writes of the command-stream block (Table 2-13). -/
def Dev.cmdWrite (d : Dev) (o : Nat) (v : Word) : Dev :=
  if o < 0x200 then d.modCmdRing (o / 0x40) fun x => x.write (o % 0x40) v
  else if o < 0x400 then
    if o = 0x20C then d.ask (.setEn (v.getLsbD 0) d.stamp)
    else if o = 0x200 || o = 0x204 || o = 0x208 || o = 0x21C then d.ask (.setReg o v.toNat) else d
  else if o < 0x600 then d.modPunt ((o - 0x400) / 0x20) fun x => x.write (o % 0x20) v
  else if o < 0x800 then d.modInj ((o - 0x600) / 0x20) fun x => x.write (o % 0x20) v
  else d

/-- HUB registers (Table 19-4). A W1C bit that the device set in the same cycle stays 1 (R504). -/
def Dev.hubWrite (d : Dev) (o : Nat) (v : Word) : Dev :=
  match o with
  | 0x08 => if v.getLsbD 6 && d.board.hostResetAt != some d.now then d.modBoard fun b => { b with hostReset := false } else d
  | 0x0C => d.modBoard fun b => { b with scratch := v }
  | 0x10 => d.modBoard fun b => { b with diagSel := v &&& 3#32 }
  | 0x14 => if v.getLsbD 0 && d.board.ueAt != some d.now then d.modBoard fun b => { b with ueSeen := false } else d
  | _ => d

/-- Classifier registers (Tables 9-12, 9-14, 9-15). -/
def Dev.clsWrite (d : Dev) (o : Nat) (v : Word) : Dev :=
  if o < 0x80 then
    let k := o / 0x40
    match o % 0x40 with
    | 0x00 => d.modSet k fun s => { s with parse := v &&& 0x001F03FF#32 }
    | 0x04 => d.modSet k fun s => { s with stpid := v &&& 0xFFFF#32 }
    | _ => d
  else if 0x100 ≤ o ∧ o < 0x300 then
    let t := (o - 0x100) / 8
    { d with cls :=
      if o % 8 = 0 then { d.cls with hashSel := sset (fun _ => 0x07C0#32) d.cls.hashSel t (v &&& 0xBFFF#32) }
      else { d.cls with hashSeed := sset (fun _ => 0xFFFFFFFF#32) d.cls.hashSeed t v } }
  else d

/-- TBL_CTRL (Table 10-12). -/
def Dev.tblWriteReg (d : Dev) (o : Nat) (v : Word) : Dev :=
  if o = 0 then { d with tbl := { d.tbl with ctrl := v &&& 0x1FFFF#32 } } else d

/-- Uplink lane registers (Table 12-8). -/
def Dev.ulkWrite (d : Dev) (o : Nat) (v : Word) : Dev :=
  let u := o / 0x200
  if 0x4000 ≤ o || !d.variant.hasLane u then d
  else match o % 0x200 with
  | 0x00 => d.setLaneCtrl u v
  | 0x08 => d.modSlane u fun x => { x with ptp := v &&& 0xFFFF#32 }
  | _ => d

/-- Memory registers (Tables 15-11, 15-14). -/
def Dev.memWriteReg (d : Dev) (o : Nat) (v : Word) : Dev :=
  if o = 0 then d.memCtrl v
  else if 0x10 ≤ o ∧ o < 0x20 ∧ o % 4 = 0 then
    if d.ddr.ctrl.getLsbD 0 then d
    else d.modDdr fun x => { x with cfg := sset (fun _ => 0#32) x.cfg ((o - 0x10) / 4) (v &&& 0xFF#32) }
  else d

/-- PAD_CTRL (Table 18-15). -/
def Dev.padWrite (d : Dev) (o : Nat) (v : Word) : Dev :=
  if o = 4 then d.modBoard fun b => { b with padCtrl := v &&& 0x1FF#32 } else d

/-- TOD_CTRL: a MODE, GP or GI outside its range may set device time to anything (Table 14-9). -/
def Dev.todWrite (d : Dev) (v : Word) : Dev :=
  let d1 := d.todCtrl v
  if todCtrlGood v then d1 else d1.spoil .time

/-- A hub-die register. -/
def Dev.hubSet (d : Dev) (off : Nat) (v : Word) : Dev :=
  let o := off % 0x10000
  match off / 0x10000 with
  | 0x0 => d.hubWrite o v
  | 0x1 => d.cmdWrite o v
  | 0x2 => d.clsWrite o v
  | 0x3 => d.tblWriteReg o v
  | 0x4 => if o = 0 then { d with dtm := { d.dtm with ctrl := v &&& 3#32 } } else d
  | 0x5 => d.ulkWrite o v
  | 0x6 => if o = 0 && d.variant.hasProt then d.modProt fun x => { x with ctrl := v &&& 1#32 } else d
  | 0x7 => if o = 0 then d.todWrite v else if o = 0x1C then d.modTime fun x => { x with adj := v } else d
  | 0x8 => d.memWriteReg o v
  | 0x9 => if o = 0 then d.modTally fun t => { t with ctrl := v &&& 1#32 } else d
  | 0xA => d.padWrite o v
  | _ => d

/-- Tree-port registers (Tables 3-12, 4-8, 8-6), kept as written: what a value outside its range does falls where it is used. -/
def Dev.portSet (d : Dev) (p o : Nat) (v : Word) : Dev :=
  match o with
  | 0x000 => d.modPort p fun q => { q with losFrames := v.setWidth 8 }
  | 0x004 => d.modPort p fun q => { q with fence := q.fence && (!v.getLsbD 4 || q.fenceAt == some d.now) }
  | 0x00C => d.modPort p fun q => { q with ofs := v &&& 0x7FFFFF#32 }
  | 0x010 => d.modPort p fun q => { q with brstM := v &&& 0x3FFF#32 }
  | 0x014 => d.modPort p fun q => { q with brstC := v &&& 0x3FFF#32 }
  | 0x018 => d.modPort p fun q => q.rssiWrite d.now (v.toNat % 2 ^ 10) (v.getLsbD 12) (v.getLsbD 13)
  | 0x01C => d.modPort p fun q => { q with rssiTime := v &&& 0x3FFF3FFF#32 }
  | 0x100 => (d.modPort p fun q => { q with rngCtrl := v &&& 7#32 }).redoAllDs p
  | 0x104 => if (d.port p).rangedCount = 0 then d.modPort p fun q => { q with teqd := v } else d
  | 0x300 => d.modPort p fun q => { q with ups := { q.ups with ctrl := v &&& 0x3FFF0FF7#32 } }
  | _ => d

/-- A port-die register. -/
def Dev.dieSet (d : Dev) (x o : Nat) (v : Word) : Dev :=
  match dieSite x o with
  | .port p o => d.portSet p o v
  | .pool c 0 => if !d.variant.hasDecoders then d else d.modCluster c fun y => { y with iterMax := BitVec.ofNat 8 (v.toNat % 32) }
  | _ => d

/-- A write of the register at BAR0 offset `off`, a multiple of 4. -/
def Dev.regSet (d : Dev) (off : Nat) (v : Word) : Dev :=
  let x := off / 0x1000000 - 1
  if off < 0x1000000 then (if isCtrReg d.variant off then d.writeCtr (ctrIdx off) v else d.hubSet off v)
  else if off < 0x3000000 then
    if !d.variant.hasDie x || d.dieLost x then d
    else if isCtrReg d.variant off then d.writeCtr (ctrIdx off) v
    else d.dieSet x (off % 0x1000000) v
  else d

/-- A host write of BAR0 (R466, R503). -/
def Dev.regWrite (d : Dev) (off : Nat) (v : Word) : Dev :=
  if d.board.resetN || !d.board.bootDone then d else d.regSet off v

/-- A write that is not aligned: each register of its 8-byte pair may be written, with any bytes (Table 19-10). -/
def Dev.looseWrite (d : Dev) (off : Nat) : Dev :=
  if d.board.resetN || !d.board.bootDone then d
  else
    [off / 8 * 8, off / 8 * 8 + 4].foldl (fun d a =>
      let (b, d1) := d.pick 1
      let (v, d2) := d1.pick 32
      if b = 1 then d2.regWrite a (BitVec.ofNat 32 v) else d2) d

/-- The W1C bits of the register at `off` (Table 0-7). -/
def w1cBits (off : Nat) : Word :=
  if off = 8 then 0x40#32
  else if off = 0x14 then 1#32
  else if off < 0x1000000 then 0#32
  else match dieSite (off / 0x1000000 - 1) (off % 0x1000000) with
    | .port _ 0x004 => 0x10#32
    | .port _ 0x018 => 0x2000#32
    | _ => 0#32

/-! ### Service port (R493, R494) -/

/-- The service port answers (R493). -/
def Dev.svcAnswers (d : Dev) : Bool := !d.board.resetN && decide (d.board.since + 2000000 ≤ d.now) && d.board.rails.contains .io

/-- SERVICE_PORT_SET_POINTER. -/
def Dev.svcPointer (d : Dev) (off : Word) : Dev :=
  if d.svcAnswers then d.modBoard fun b => { b with svcPtr := off &&& 0xFFFFFFFC#32 } else d

/-- SERVICE_PORT_READ: the word at the pointer, without side effect; the pointer moves on by 4. -/
def Dev.svcRead (d : Dev) (b : Bank) : Dev :=
  if !d.svcAnswers then d
  else
    let off := d.board.svcPtr.toNat
    let v := if decide (0xA0000 ≤ off ∧ off < 0xA0034) then d.regAt b off else d.regRead b off
    (d.modBoard fun b => { b with svcPtr := b.svcPtr + 4#32 }).send (.readData true (BitVec.ofNat 32 v))

/-- SERVICE_PORT_WRITE: only the PAD block, and nothing before BOOT_DONE (R466). -/
def Dev.svcWrite (d : Dev) (off v : Word) : Dev :=
  let o := off.toNat / 4 * 4
  if !d.svcAnswers then d
  else if d.board.bootDone && decide (0xA0000 ≤ o ∧ o < 0xA0034) then d.padWrite (o - 0xA0000) v
  else d

end Sys2Proof.Machine
end

