-- ==== Sys2Proof/Machine/Stream.lean ====
section
/-! DEFINITION. The stream-control commands (R63 to R65), state blocks (Table 2-19), the rings as the host and the device move them
(R46 to R49, R75 to R78). -/
namespace Sys2Proof.Machine
open Sys2Proof

/-! ### Stream-control commands (Table 2-8) -/

/-- NOP (R65). -/
def cmdNop (c : Tag) (obj : Word) (_ : Dev) : HostCmd :=
  { opc := 0x0001
    good := objIs obj 0 1
    body := fun d => d.complete c stOk }

/-- WAIT_TIME: at once if the time has passed, else WAIT_TIME_REACHED ends it. -/
def cmdWaitTime (c : Tag) (obj : Word) (sec : BitVec 48) (ns : Word) (_ : Dev) : HostCmd :=
  { opc := 0x0002
    good := objIs obj 0 1
    body := fun d => if sec.toNat * 1000000000 + ns.toNat % 2 ^ 30 ≤ d.devNs then d.complete c stOk else d }

/-- WAIT_EVENT: a limit of 0 times out at once, else the matching event or WAIT_EVENT_LIMIT ends it. -/
def cmdWaitEvent (c : Tag) (obj : Word) (limit : Word) (_ : Dev) : HostCmd :=
  { opc := 0x0003
    good := objIs obj 0 1
    body := fun d => if limit = 0 then d.complete c stTimeout else d }

/-- READ_REG: each word as a BAR0 read, with its side effects. -/
def cmdReadReg (c : Tag) (obj : Word) (off : Word) (count : Byte) (e : Env) (_ : Dev) : HostCmd :=
  { opc := 0x0004
    good := objIs obj 0 1 && decide (off.toNat % 4 = 0 ∧ 1 ≤ count.toNat ∧ count.toNat ≤ 2)
    body := fun d =>
      let (a, d1) := d.hostRead e.bank off.toNat
      if count = 1 then d1.complete c stOk (le 4 a)
      else
        let (b, d2) := d1.hostRead e.bank (off.toNat + 4)
        d2.complete c stOk (le 4 a ++ le 4 b) }

/-- The value WRITE_REG writes: the bits where the mask is 1, the others as they stand; a W1C bit outside the mask stays. -/
def Dev.masked (d : Dev) (b : Bank) (off : Nat) (value mask : Word) : Word :=
  (value &&& mask) ||| (BitVec.ofNat 32 (d.regRead b off) &&& ~~~(mask ||| w1cBits off))

/-- WRITE_REG. -/
def cmdWriteReg (c : Tag) (obj : Word) (off value mask : Word) (e : Env) (_ : Dev) : HostCmd :=
  { opc := 0x0005
    good := objIs obj 0 1 && decide (off.toNat % 4 = 0)
    body := fun d => (d.regWrite off.toNat (d.masked e.bank off.toNat value mask)).complete c stOk }

/-! ### State blocks (R64, Table 2-19) -/

/-- The missed-burst log, its first `n` bytes (R262, Table 8-4). -/
def Port.logState (q : Port) (n : Nat) : Bytes :=
  ((List.range (min 8192 (ceilDiv n 16))).flatMap fun k =>
    let e := sget (fun _ => ({} : MbEntry)) q.ups.mbLog k
    le 2 e.ri ++ le 2 e.allocId ++ le 1 e.lane ++ le 1 e.cause ++ le 1 (b2n e.isPartial) ++ le 1 0 ++ sfc8 e.sfc).take n

/-- The ranging state of a terminal (Table 4-7). -/
def Port.termState (q : Port) (t : Nat) : Bytes :=
  let x := q.term t
  padTo 64 (le 1 x.state ++ le 1 x.lane.code ++ le 2 (b2n x.limit + 2 * b2n x.trackFail + 4 * b2n x.silent + 8 * b2n x.risk) ++
    le 8 x.serial.toNat ++ le 4 (uns32 x.rtd) ++ le 4 (uns32 x.eqd) ++ le 4 (uns32 x.eqdBase) ++
    le 4 (if x.state = 4 then uns32 x.eqdPend else 0) ++ le 4 (if x.ranged then uns32 (q.offset x) else 0) ++ le 4 (uns32 x.lastD) ++
    le 4 x.tresp ++ le 4 (uns32 x.dsDelay) ++ sfc8 x.lastSfc)

/-- An allocation record (R169). -/
def WndPort.recState (x : WndPort) (r : Nat) : Bytes := (List.range 16).flatMap fun k => le 4 (x.aw r k)

/-- A flow record and its upstream policer (R259); a flow that was never written reads all zeros. -/
def Flow.state (x : Flow) (now : Nat) : Bytes :=
  padTo 32 (le 2 x.wireId ++ le 2 x.term ++ le 1 x.lane ++ le 1 x.flags.toNat ++ le 1 x.slot.toNat ++ le 1 0 ++ le 4 x.cir ++ le 4 x.cbs ++
    le 4 (x.tNow now / 1000000))

/-- The state block of an object, its first `n` bytes, and the device after the copy. -/
def Dev.stateBlock (d : Dev) (obj : Word) (n : Nat) : Bytes × Dev :=
  let i := objIndex obj
  match objClass obj with
  | 0x00 => (d.ledgerState, d)
  | 0x01 => ((d.port i).logState n, d)
  | 0x02 => ((d.port (objTerm obj).1).termState (objTerm obj).2, d)
  | 0x03 => ((d.port (objAlloc obj).1).wnd.recState (objAlloc obj).2, d)
  | 0x04 => (((d.port (objFlow obj).1).flow (objFlow obj).2).state d.now, d)
  | 0x07 => ((d.cluster i).prof.stateBytes, d)
  | 0x0A => d.eqState i
  | 0x0C => (padTo 64 ((d.sub i).capture.getD []), d)
  | 0x0E => (d.clsState obj n, d)
  | 0x0F => (d.tblState obj, d)
  | 0x10 => if dtmKind obj ≤ 1 || dtmKind obj = 4 then d.dtmState obj else ([], d)
  | _ => ([], d)

/-- The handle names an object of Table 2-4. -/
def anyObj (obj : Word) : Bool :=
  let i := objIndex obj
  match objClass obj with
  | 0x00 => i == 0
  | 0x01 => decide (i < 64)
  | 0x02 => decide (i < 65536)
  | 0x03 => decide (i < 2 ^ 18)
  | 0x04 => decide (i < 2 ^ 20)
  | 0x05 => decide (i < 80)
  | 0x06 => decide (i < 80)
  | 0x07 => decide (i < 16)
  | 0x08 => decide (i < 4)
  | 0x09 => decide (i < 2)
  | 0x0A => decide (i < 32)
  | 0x0B => decide (i < 32)
  | 0x0C => decide (i < 8)
  | 0x0D => decide (i < 4)
  | 0x0E => ruleObj obj || indirObj obj
  | 0x0F => tblGood obj
  | 0x10 => dtmGood obj
  | 0x11 => decide (i < 128)
  | 0x12 => i == 0
  | 0x13 => decide (i < 8)
  | _ => false

/-- READ_STATE (R63, R64). -/
def cmdReadState (c : Tag) (obj : Word) (addr : Dword) (len : Word) (_ : Dev) : HostCmd :=
  { opc := 0x0006
    good := anyObj obj && decide (addr.toNat % 64 = 0)
    reach := [.package, .host]
    body := fun d =>
      let (bs, d1) := d.stateBlock obj len.toNat
      let out := bs.take len.toNat
      (if out.isEmpty then d1 else d1.write addr.toNat out).complete c stOk (le 4 out.length) }

/-! ### Waits that end (R63, R69) -/

/-- The running command of ring `r` for which `p` holds ends. -/
def Dev.endWait (d : Dev) (r : Fin 8) (p : Active → Bool) (status : Nat) : Dev :=
  match d.cmds.find? fun a => a.tag.ring == r && a.phase == .running && p a with
  | some a => d.complete a.tag status
  | none => d

/-- WAIT_TIME_REACHED. -/
def Dev.waitReached (d : Dev) (r : Fin 8) : Dev := d.endWait r d.waitDue stOk

/-- WAIT_EVENT. -/
def isWaitEvent : Instr → Bool
  | .waitEvent .. => true
  | _ => false

/-- WAIT_EVENT_LIMIT. -/
def Dev.waitLimit (d : Dev) (r : Fin 8) : Dev := d.endWait r (fun a => isWaitEvent a.cmd) stTimeout

/-! ### Doorbells (R48) -/

/-- BAR2 is open: writes to it are ignored before BOOT_DONE (R466). -/
def Dev.open2 (d : Dev) : Bool := !d.board.resetN && d.board.bootDone

/-- CMD_DOORBELL; with a value at or beyond the ring size any entry may be executed, skipped or repeated (Table 2-18). -/
def Dev.cmdBell (d : Dev) (r : Fin 8) (v : Word) : Dev :=
  let n := v.toNat % 2 ^ 20
  let x := d.cmdRing r
  if !d.open2 then d
  else if x.en && decide (2 ^ x.size ≤ n) then
    let (a, d1) := d.pick 16
    let (b, d2) := d1.pick 16
    d2.modCmdRing r fun x => { x with rptr := a % 2 ^ x.size, wptr := b % 2 ^ x.size }
  else d.modCmdRing r fun x => { x with wptr := n % 2 ^ 16 }

/-- EVENT_DOORBELL; with a value at or beyond the ring size any entry may be skipped or repeated, and with one beyond the device's write
pointer events may be lost or read twice (Table 2-18). -/
def Dev.evtBell (d : Dev) (b : Bank) (v : Word) : Dev :=
  let n := v.toNat % 2 ^ 20
  if !d.open2 then d
  else if decide (b.entries ≤ n) then
    let (x, d1) := d.pick 32
    let (y, d2) := d1.pick 32
    d2.ask (.spoilRing x y)
  else if decide (b.used < (n + b.entries - b.rptr) % b.entries) then
    let (x, d1) := d.pick 32
    d1.ask (.spoilRing x b.wptr)
  else d.ask (.evtDoorbell n d.stamp)

/-- A punt or inject ring's doorbell: the ring, and the device. -/
def Dev.pktBell (d : Dev) (x : PktRing) (v : Word) : PktRing × Dev :=
  let n := v.toNat % 2 ^ 20
  if x.en && decide (x.entries ≤ n) then
    let (a, d1) := d.pick 16
    let (b, d2) := d1.pick 16
    ({ x with rptr := a % x.entries, wptr := b % x.entries }, d2)
  else ({ x with wptr := n % 2 ^ 16 }, d)

/-- PUNT_DOORBELL. -/
def Dev.puntBell (d : Dev) (r : Nat) (v : Word) : Dev :=
  if !d.open2 then d else let (x, d1) := d.pktBell (d.punt r) v; d1.modPunt r fun _ => x

/-- INJECT_DOORBELL. -/
def Dev.injBell (d : Dev) (r : Nat) (v : Word) : Dev :=
  if !d.open2 then d else let (x, d1) := d.pktBell (d.injRing r) v; d1.modInj r fun _ => x

/-! ### Ring registers with rows of their own (R49, R76, R77) -/

/-- RING_EN_WRITE. -/
def Dev.ringEn (d : Dev) (ring : Ring) (en : Bool) : Dev :=
  let go (x : PktRing) : PktRing := x.setCtrl ((x.ctrl &&& 0xFFFFFFFE#32) ||| BitVec.ofNat 32 (b2n en))
  if !d.open2 then d
  else match ring with
    | .cmd r => d.modCmdRing r fun x => x.setEn en
    | .evt => d.ask (.setEn en d.stamp)
    | .punt r => d.modPunt r go
    | .inj r => d.modInj r go

/-- EVENT_RING_WRITE (R66). With a size outside its range any entry of the ring may be skipped or repeated (Table 2-18). -/
def Dev.evtRingWrite (d : Dev) (b : Bank) : Dev :=
  if decide (10 ≤ b.size ∧ b.size ≤ 20) || !b.en then d.ask .ringWrite
  else
    let (x, d1) := d.pick 32
    let (y, d2) := d1.pick 32
    (d2.ask (.spoilRing x y)).ask .ringWrite

/-- MSIX_MODERATION_TIMER (R74): the TIME_US of the vector's ring as it stands. -/
def Dev.msixTimer (d : Dev) (vec : Nat) : Dev :=
  d.ask (.timer vec (if vec < 18 then (d.punt (vec - 2)).timeUs else (d.injRing (vec - 18)).timeUs))

/-- RING_PAUSE_WRITE. -/
def Dev.ringPause (d : Dev) (r : Fin 8) (on : Bool) : Dev := if !d.open2 then d else d.modCmdRing r fun x => x.setPause on

/-- RING_RESUME_WRITE. -/
def Dev.ringResume (d : Dev) (r : Fin 8) : Dev := if !d.open2 then d else d.modCmdRing r fun x => { x with halted := false }

/-- EXPSEQ_WRITE. -/
def Dev.expseq (d : Dev) (r : Fin 8) (v : Word) : Dev :=
  if !d.open2 then d else d.modCmdRing r fun x => if !x.en || x.halted || x.paused then { x with expSeq := v } else x

/-! ### Diagnosis window and reads with an effect (R13, R416, R458, R505) -/

/-- DIAG_WINDOW_READ: `bad` says that the word was uncorrectable. -/
def Dev.diagRead (d : Dev) (off : BitVec 24) (bad : Bool) : Dev :=
  if !d.open2 then d.send (.readData false 0)
  else
    let o := off.toNat / 4 * 4
    let d1 := if bad && d.windowOpen o then
        d.modBoard fun b => { b with ueSeen := true, ueAt := some d.now, ueOfs := if b.ueSeen then b.ueOfs else (0x3000000 + o) / 16 }
      else d
    d1.send (.readData false (BitVec.ofNat 32 (d.windowRead o)))

/-- A host read of one register: its data goes back to the host. -/
def Dev.readBack (d : Dev) (b : Bank) (off : Nat) : Dev :=
  let (v, d1) := d.hostRead b off
  d1.send (.readData false (BitVec.ofNat 32 v))

/-- The BAR0 offset of a register with a W1C field. -/
def w1cOff : W1cReg → Nat
  | .bootStatus => 8
  | .diagStatus => 0x14
  | .treeStatus p => portBase p.val + 0x004
  | .treeRssi p => portBase p.val + 0x018

/-- W1C_WRITE: a write of the whole register; a written 1 clears a W1C bit, a written 0 leaves it (Table 0-7). -/
def Dev.w1cWrite (d : Dev) (reg : W1cReg) (v : Word) : Dev := d.regWrite (w1cOff reg) v

/-- LOCAL_COUNTER_WRITE (R453). -/
def Dev.ctrWrite (d : Dev) (off : Nat) (v : Word) : Dev := if isCtrReg d.variant off then d.regWrite off v else d

/-- TREE_RSSI_ARM_WRITE (R114): TERM and ARM are written, DONE stays. -/
def Dev.rssiArmWrite (d : Dev) (p : Nat) (term : BitVec 10) (arm : Bool) : Dev :=
  d.regWrite (portBase p + 0x018) (BitVec.ofNat 32 (term.toNat + 2 ^ 12 * b2n arm))

end Sys2Proof.Machine
end

