-- ==== Sys2Proof/Machine/HostRun.lean ====
section
/-! DEFINITION. Host commands made ready: every opcode of Table 2-7 with its arguments read from a command entry, fetching and
accepting entries (R56, R75, R76), starting and beginning accepted commands (R57 to R60). -/
namespace Sys2Proof.Machine
open Sys2Proof

/-- A command whose effect on ranging state or keys reaches the mate as a mirror record (Table 13-4). -/
def mirrored (p : Nat) (h : HostCmd) : HostCmd := { h with body := fun d => (h.body d).mirrorSince d p }

/-- The command a host row stands for, made ready. -/
def hostCmd (i : Instr) (e : Env) (d : Dev) : Option (Tag × Word × HostCmd) :=
  match i with
  | .nop c obj => some (c, obj, cmdNop c obj d)
  | .waitTime c obj sec ns => some (c, obj, cmdWaitTime c obj sec ns d)
  | .waitEvent c obj _ _ _ limit => some (c, obj, cmdWaitEvent c obj limit d)
  | .readReg c obj off count => some (c, obj, cmdReadReg c obj off count e d)
  | .writeReg c obj off value mask => some (c, obj, cmdWriteReg c obj off value mask e d)
  | .readState c obj addr len => some (c, obj, cmdReadState c obj addr len d)
  | .resetScope c obj => some (c, obj, cmdResetScope c obj d)
  | .treeEnable c obj lanes => some (c, obj, cmdTreeEnable c obj lanes d)
  | .treeDisable c obj lanes => some (c, obj, cmdTreeDisable c obj lanes d)
  | .treeLaneSet c obj mainGen compGen gflags => some (c, obj, cmdTreeLaneSet c obj mainGen compGen gflags d)
  | .treeProfileSet c obj a => some (c, obj, cmdTreeProfileSet c obj a d)
  | .treeKeyLoad c obj slot key => some (c, obj, mirrored (objTerm obj).1 (cmdTreeKeyLoad c obj slot key d))
  | .treeKeySwitch c obj slot sfc => some (c, obj, cmdTreeKeySwitch c obj slot sfc d)
  | .treeBcastKeyLoad c obj slot keyIdx key => some (c, obj, cmdTreeBcastKeyLoad c obj slot keyIdx key d)
  | .treePloamSend c obj msg => some (c, obj, cmdTreePloamSend c obj msg d)
  | .treeModuleI2c c obj op addr ofs len data => some (c, obj, cmdTreeModuleI2c c obj op addr ofs len data d)
  | .rngDiscover c obj lane profile window far period count => some (c, obj, cmdRngDiscover c obj lane profile window far period count d)
  | .rngTerminalAdd c obj serial lane rflags profile hint tresp limit => some (c, obj, mirrored (objTerm obj).1 (cmdRngTerminalAdd c obj serial lane rflags profile hint tresp limit d))
  | .rngTerminalRemove c obj => some (c, obj, cmdRngTerminalRemove c obj d)
  | .rngTrunkSet c obj dly asymM asymC tflags => some (c, obj, cmdRngTrunkSet c obj dly asymM asymC tflags d)
  | .rngTrunkConfirm c obj => some (c, obj, cmdRngTrunkConfirm c obj d)
  | .wndImageLoad c obj addr len => some (c, obj, cmdWndImageLoad c obj addr len e d)
  | .wndSwap c obj sflags sfc => some (c, obj, cmdWndSwap c obj sflags sfc d)
  | .wndAllocWrite c obj rec => some (c, obj, cmdWndAllocWrite c obj rec d)
  | .wndAllocRemove c obj => some (c, obj, cmdWndAllocRemove c obj d)
  | .wndWitnessSet c obj en gap profile => some (c, obj, cmdWndWitnessSet c obj en gap profile d)
  | .upsFlowSet c obj wireId term lane fflags slot => some (c, obj, cmdUpsFlowSet c obj wireId term lane fflags slot d)
  | .upsPolicerSet c obj cir cbs pflags => some (c, obj, cmdUpsPolicerSet c obj cir cbs pflags d)
  | .clsRulesLoad c obj kind lflags addr first count => some (c, obj, cmdClsRulesLoad c obj kind lflags addr first count e d)
  | .clsRulesSwap c obj => some (c, obj, cmdClsRulesSwap c obj d)
  | .clsDefaultSet c obj action => some (c, obj, cmdClsDefaultSet c obj action d)
  | .clsIndirWrite c obj first count addr => some (c, obj, cmdClsIndirWrite c obj first count addr e d)
  | .tblWrite c obj addr count => some (c, obj, cmdTblWrite c obj addr count e d)
  | .tblDelete c obj addr count => some (c, obj, cmdTblDelete c obj addr count e d)
  | .tblDomainFlush c obj dflags src => some (c, obj, cmdTblDomainFlush c obj dflags src d)
  | .tblLpmLoad c obj addr count => some (c, obj, cmdTblLpmLoad c obj addr count e d)
  | .tblHolddownSet c obj hold => some (c, obj, cmdTblHolddownSet c obj hold d)
  | .dtmNodeSet c obj a => some (c, obj, cmdDtmNodeSet c obj a d)
  | .dtmShaperSet c obj bucket sflags rate burst => some (c, obj, cmdDtmShaperSet c obj bucket sflags rate burst d)
  | .dtmWatchSet c obj wflags node depthTh delayTh => some (c, obj, cmdDtmWatchSet c obj wflags node depthTh delayTh d)
  | .dtmPartitionSet c obj part res max => some (c, obj, cmdDtmPartitionSet c obj part res max d)
  | .ulkLaneEnable c obj limit => some (c, obj, cmdUlkLaneEnable c obj limit d)
  | .ulkLaneDisable c obj => some (c, obj, cmdUlkLaneDisable c obj d)
  | .ulkPortSet c obj a => some (c, obj, cmdUlkPortSet c obj a d)
  | .ulkBitslip c obj count => some (c, obj, cmdUlkBitslip c obj count d)
  | .ulkGateList c obj a => some (c, obj, cmdUlkGateList c obj a e d)
  | .ulkPauseSet c obj a => some (c, obj, cmdUlkPauseSet c obj a d)
  | .matPairJoin c obj pkg mflags active limit => some (c, obj, cmdMatPairJoin c obj pkg mflags active limit d)
  | .matRoleSet c obj role => some (c, obj, cmdMatRoleSet c obj role d)
  | .matDarkRelease c obj => some (c, obj, cmdMatDarkRelease c obj d)
  | .todStep c obj mode sec ns => some (c, obj, cmdTodStep c obj mode sec ns d)
  | .todSteer c obj freq sflags => some (c, obj, cmdTodSteer c obj freq sflags d)
  | .todTrigSet c obj tflags sec ns period width => some (c, obj, cmdTodTrigSet c obj tflags sec ns period width d)
  | .memThaw c obj => some (c, obj, cmdMemThaw c obj d)
  | .memRetire c obj => some (c, obj, cmdMemRetire c obj d)
  | .memRowRepair c obj loc => some (c, obj, cmdMemRowRepair c obj loc d)
  | .memScrubSet c obj sramS dramH => some (c, obj, cmdMemScrubSet c obj sramS dramH d)
  | .talSnapshot c obj a => some (c, obj, cmdTalSnapshot c obj a d)
  | .talWindowSet c obj wflags winMs => some (c, obj, cmdTalWindowSet c obj wflags winMs d)
  | .talProfileStart c obj a => some (c, obj, cmdTalProfileStart c obj a d)
  | .talProfileStop c obj => some (c, obj, cmdTalProfileStop c obj d)
  | _ => none

/-! ### Command entries (Table 2-3 and the argument tables) -/

/-- A field of one, two, four or eight bytes of an entry. -/
def eB (b : Bytes) (o : Nat) : Byte := byteAt b o
def eH (b : Bytes) (o : Nat) : Half := BitVec.ofNat 16 (fld b o 2)
def eW (b : Bytes) (o : Nat) : Word := BitVec.ofNat 32 (fld b o 4)
def eD (b : Bytes) (o : Nat) : Dword := BitVec.ofNat 64 (fld b o 8)
/-- Seconds in 48 bits. -/
def eS (b : Bytes) (o : Nat) : BitVec 48 := BitVec.ofNat 48 (fld b o 6)
/-- An AES-128 key. -/
def eK (b : Bytes) (o : Nat) : BitVec 128 := BitVec.ofNat 128 (fld b o 16)

/-- TREE_PROFILE_SET (Table 3-5). -/
def entryProfile (b : Bytes) : ProfileArgs :=
  { index := eB b 12, lane := eB b 13, rate := eB b 14, pflags := eB b 15, preLen := eH b 16, patLen := eB b 18, delLen := eB b 19
    pattern := eD b 20, delim := eD b 28, guardBits := eH b 36 }

/-- DTM_NODE_SET (Table 11-7), by the kind of node of the handle. -/
def entryNode (b : Bytes) (obj : Word) : NodeArgs :=
  match dtmKind obj with
  | 0 => .flow (eB b 12) (eH b 14) (eH b 16) (eW b 20) (eW b 24) (eW b 28)
  | 1 => .term (eB b 12) (eB b 13) (eH b 14) (eH b 16) (eH b 18)
  | 2 => .gen (eH b 16)
  | _ => .none

/-- ULK_PORT_SET (Table 12-6). -/
def entryPort (b : Bytes) : PortArgs :=
  { lanes := eB b 12, topRate := eB b 13, bringup := eB b 14, pflags := eB b 15, maxFrame := eH b 16, liveHold := eH b 18, qlim := eW b 20
    qweight := eD b 24, express := eB b 32 }

/-- ULK_GATE_LIST (Table 12-6). -/
def entryGates (b : Bytes) : GateArgs :=
  { gflags := eB b 12, count := eH b 14, addr := eD b 16, sec := eS b 24, ns := eW b 30, cycle := eW b 36 }

/-- ULK_PAUSE_SET (Table 12-6). -/
def entryPause (b : Bytes) : PauseArgs :=
  { mode := eB b 12, pflags := eB b 13, pfcMask := eB b 14, quanta := eH b 16, xoff := eW b 20, xon := eW b 24 }

/-- TAL_SNAPSHOT (Table 16-2). -/
def entrySnap (b : Bytes) : SnapArgs :=
  { sflags := eB b 12, sec := eS b 16, ns := eW b 24, first := eW b 28, count := eW b 32, addr := eD b 36 }

/-- TAL_PROFILE_START (Table 16-2). -/
def entryProf (b : Bytes) : ProfArgs :=
  { port := eB b 12, mode := eB b 13, pflags := eB b 14, pcLo := eH b 16, pcHi := eH b 18, every := eH b 20, startSfc := eD b 24
    frames := eW b 32 }

/-- The command of an entry with opcode `o` (Table 2-7); none for an opcode that the table does not list. -/
def entryInstr (c : Tag) (o : Nat) (obj : Word) (b : Bytes) : Option Instr :=
  match o with
  | 0x0001 => some (.nop c obj)
  | 0x0002 => some (.waitTime c obj (eS b 12) (eW b 18))
  | 0x0003 => some (.waitEvent c obj (eH b 12) (eH b 14) (eH b 16) (eW b 18))
  | 0x0004 => some (.readReg c obj (eW b 12) (eB b 16))
  | 0x0005 => some (.writeReg c obj (eW b 12) (eW b 16) (eW b 20))
  | 0x0006 => some (.readState c obj (eD b 12) (eW b 20))
  | 0x0007 => some (.resetScope c obj)
  | 0x0101 => some (.treeEnable c obj (eB b 12))
  | 0x0102 => some (.treeDisable c obj (eB b 12))
  | 0x0103 => some (.treeLaneSet c obj (eB b 12) (eB b 13) (eB b 14))
  | 0x0104 => some (.treeProfileSet c obj (entryProfile b))
  | 0x0105 => some (.treeKeyLoad c obj (eB b 12) (eK b 16))
  | 0x0106 => some (.treeKeySwitch c obj (eB b 12) (eD b 16))
  | 0x0107 => some (.treeBcastKeyLoad c obj (eB b 12) (eB b 13) (eK b 16))
  | 0x0108 => some (.treePloamSend c obj (bslice b 12 48))
  | 0x0109 => some (.treeModuleI2c c obj (eB b 12) (eB b 13) (eB b 14) (eB b 15) (bslice b 16 32))
  | 0x0201 => some (.rngDiscover c obj (eB b 12) (eB b 13) (eH b 14) (eH b 16) (eH b 18) (eW b 20))
  | 0x0202 => some (.rngTerminalAdd c obj (eD b 12) (eB b 20) (eB b 21) (eB b 22) (eW b 24) (eW b 28) (eH b 32))
  | 0x0203 => some (.rngTerminalRemove c obj)
  | 0x0204 => some (.rngTrunkSet c obj (eW b 12) (eW b 16) (eW b 20) (eB b 24))
  | 0x0205 => some (.rngTrunkConfirm c obj)
  | 0x0301 => some (.wndImageLoad c obj (eD b 12) (eW b 20))
  | 0x0302 => some (.wndSwap c obj (eB b 12) (eD b 16))
  | 0x0303 => some (.wndAllocWrite c obj (bslice b 12 32))
  | 0x0304 => some (.wndAllocRemove c obj)
  | 0x0305 => some (.wndWitnessSet c obj (eB b 12) (eB b 13) (eB b 14))
  | 0x0401 => some (.upsFlowSet c obj (eH b 12) (eH b 14) (eB b 16) (eB b 17) (eB b 18))
  | 0x0402 => some (.upsPolicerSet c obj (eW b 12) (eW b 16) (eB b 20))
  | 0x0501 => some (.clsRulesLoad c obj (eB b 12) (eB b 13) (eD b 16) (eW b 24) (eW b 28))
  | 0x0502 => some (.clsRulesSwap c obj)
  | 0x0503 => some (.clsDefaultSet c obj (bslice b 12 16))
  | 0x0504 => some (.clsIndirWrite c obj (eH b 12) (eH b 14) (eD b 16))
  | 0x0601 => some (.tblWrite c obj (eD b 16) (eW b 24))
  | 0x0602 => some (.tblDelete c obj (eD b 16) (eW b 24))
  | 0x0603 => some (.tblDomainFlush c obj (eB b 12) (eW b 16))
  | 0x0604 => some (.tblLpmLoad c obj (eD b 16) (eW b 24))
  | 0x0605 => some (.tblHolddownSet c obj (eW b 16))
  | 0x0701 => some (.dtmNodeSet c obj (entryNode b obj))
  | 0x0702 => some (.dtmShaperSet c obj (eB b 12) (eB b 13) (eW b 16) (eW b 20))
  | 0x0703 => some (.dtmWatchSet c obj (eB b 12) (eW b 16) (eW b 20) (eW b 24))
  | 0x0704 => some (.dtmPartitionSet c obj (eB b 12) (eW b 16) (eW b 20))
  | 0x0801 => some (.ulkLaneEnable c obj (eH b 12))
  | 0x0802 => some (.ulkLaneDisable c obj)
  | 0x0803 => some (.ulkPortSet c obj (entryPort b))
  | 0x0804 => some (.ulkBitslip c obj (eB b 12))
  | 0x0805 => some (.ulkGateList c obj (entryGates b))
  | 0x0806 => some (.ulkPauseSet c obj (entryPause b))
  | 0x0901 => some (.matPairJoin c obj (eB b 12) (eB b 13) (eD b 16) (eH b 24))
  | 0x0902 => some (.matRoleSet c obj (eB b 12))
  | 0x0903 => some (.matDarkRelease c obj)
  | 0x0A01 => some (.todStep c obj (eB b 12) (eS b 16) (eW b 24))
  | 0x0A02 => some (.todSteer c obj (eW b 12) (eB b 16))
  | 0x0A03 => some (.todTrigSet c obj (eB b 12) (eS b 16) (eW b 24) (eW b 28) (eW b 32))
  | 0x0B01 => some (.memThaw c obj)
  | 0x0B02 => some (.memRetire c obj)
  | 0x0B03 => some (.memRowRepair c obj (eD b 12))
  | 0x0B04 => some (.memScrubSet c obj (eH b 12) (eB b 14))
  | 0x0C01 => some (.talSnapshot c obj (entrySnap b))
  | 0x0C02 => some (.talWindowSet c obj (eB b 12) (eH b 16))
  | 0x0C03 => some (.talProfileStart c obj (entryProf b))
  | 0x0C04 => some (.talProfileStop c obj)
  | _ => none

/-! ### Fetch (R56, R58, R75, R76) -/

/-- The entry a command ring reads. With a size outside its range any entry may be skipped, repeated or misread (Table 2-18). -/
def Dev.readEntry (d : Dev) (m : Sparse Byte) (r : Fin 8) : Bytes × Dev :=
  let x := d.cmdRing r
  if decide (6 ≤ x.size ∧ x.size ≤ 16) then (memRead m (ringBase x.baseLo x.baseHi + x.rptr * 64) 64, d)
  else
    let (k, d1) := d.pick 32
    let (b, d2) := d1.pickBytes 64
    (padTo 64 b, d2.modCmdRing r fun x => { x with rptr := k % 2 ^ x.size })

/-- COMMAND_ENTRY_FETCH: the entry at RPTR is accepted when its SEQ matches; else a GAP completion, and the ring halts on it. At most 256
commands of a ring are accepted and not completed (R58). -/
def Dev.fetchEntry (d0 : Dev) (bk : Bank) (m : Sparse Byte) (r : Fin 8) : Dev :=
  let x := d0.cmdRing r
  if !d0.open2 || !x.en || x.halted || x.paused || decide (256 ≤ d0.active bk r) || x.rptr == x.wptr then d0
  else
    let (b, d) := d0.readEntry m r
    let seq := eW b 0
    let o := fld b 4 2
    if seq = x.expSeq then
      let c : Tag := { ring := r, seq := seq, flags := eH b 6 }
      let obj := eW b 8
      (d.modCmdRing r fun x => { x with rptr := (x.rptr + 1) % 2 ^ x.size, expSeq := x.expSeq + 1 }).accept
        ((entryInstr c o obj b).getD (.nop c obj)) c obj o .held
    else
      let done : Done :=
        { tag := { ring := r, seq := seq, flags := 0 }, opc := o, status := stGap, result := padTo 8 (le 4 x.expSeq.toNat), time := d.stamp }
      (d.modCmdRing r fun x => { x with halted := true, gapSeq := seq }).ask (.done done)

/-! ### Start and begin (R57 to R60, R65) -/

/-- A command that Table 2-7 does not list is kept as a NOP with the opcode found. -/
def Active.unknown (a : Active) : Bool :=
  match a.cmd with
  | .nop .. => a.opc != 0x0001
  | _ => false

/-- An earlier-started command on the same handle, or DRAM that is not ready, keeps a started command waiting (R59, R469). -/
def Dev.waitsFor (d : Dev) (before : List Active) (a : Active) : Bool :=
  (!isWait a.cmd && before.any fun x => x.phase != .held && x.obj == a.obj && !isWait x.cmd) || (!d.ddr.ready && needsDram a.cmd a.obj)

/-- The first command of ring `r` that has been started and can begin, with the commands before it already passed over. -/
def Dev.canBegin (d : Dev) (r : Fin 8) : List Active → List Active → Option Active
  | _, [] => none
  | before, a :: rest =>
    if a.tag.ring == r && a.phase == .started && !d.waitsFor before a then some a else d.canBegin r (before ++ [a]) rest

/-- A started command begins its effect. -/
def Dev.begin (d : Dev) (e : Env) (a : Active) : Dev :=
  let d1 : Dev := { d with cmds := modWhere (fun x => x.tag == a.tag && x.phase == .started) (fun x => { x with phase := .running }) d.cmds }
  if a.unknown then d1.complete a.tag stFailed
  else match hostCmd a.cmd e d with
    | some (c, obj, h) => d1.effect c obj h
    | none => d1

/-- COMMAND_START: a command of the ring that waited for its object begins; else, on the ring's turn, its oldest held-back command is
started, and begins unless its object is busy. Nothing is started while the backlog is full (R73). -/
def Dev.startNext (d : Dev) (e : Env) (r : Fin 8) : Dev :=
  match d.canBegin r [] d.cmds with
  | some a => d.begin e a
  | none =>
    match d.nextHeld r with
    | none => d
    | some a =>
      if e.bank.stalled || d.turn != some r then d
      else
        let b : Active := { a with phase := .started }
        let d1 : Dev := { d with cmds := dropFirst (fun x => x == a) d.cmds ++ [b], lastRing := r.val }
        if d1.waitsFor (d1.cmds.dropLast) b then d1 else d1.begin e b

end Sys2Proof.Machine
end

