-- ==== Sys2Proof/Machine/StreamRows.lean ====
section
/-! DEFINITION. How events and host accesses meet the package; the rows of the rings and of the registers (chapters 02 and 19). -/
namespace Sys2Proof.Machine
open Sys2Proof

/-- A write at any offset: one that is not aligned is a mistake of Table 19-10. -/
def Dev.anyWrite (d : Dev) (off : Nat) (v : Word) : Dev := if off % 4 = 0 then d.regWrite off v else d.looseWrite off

/-! ### How an event meets the package: RESET_N holds every unit (R486); an absent unit has no events (R472) -/

/-- An event of the package, with no effect while RESET_N is asserted. -/
def State.event (s : State) (f : Dev → Dev) : Host.Outcome State Fault Refusal := s.next (if s.dev.board.resetN then s.dev else f s.dev)

/-- An event that gives way: while a command of the same cycle for which `p` holds is waiting, it comes after the commands of the cycle (log
entry 33). -/
def State.yielding (s : State) (p : Instr → Bool) (i : Instr) (f : Dev → Dev) : Host.Outcome State Fault Refusal :=
  s.event fun d => if s.pending.any p then { d with late := d.late ++ [i] } else f d

/-- A timeout of the package: an arrival in the same cycle wins (R69). -/
def State.timeout (s : State) (i : Instr) (f : Dev → Dev) : Host.Outcome State Fault Refusal := s.yielding (fun _ => true) i f

/-- What bursts bring to tree port `p` in the cycle, its reports among them (R69, R171). -/
def bringsReport (p : Nat) : Instr → Bool
  | .burstDelineation q _ _ => q.val == p
  | _ => false

/-- A command that may write to a table for the host (R300). -/
def hostWrites : Instr → Bool
  | .tblWrite .. => true
  | .tblDelete .. => true
  | .commandStart _ => true
  | _ => false

/-- An event of the board, which may be a mistake of Table 18-17. -/
def State.boardEvent (s : State) (f : Dev → Option Dev) : Host.Outcome State Fault Refusal :=
  match f s.dev with
  | some d => s.next d
  | none => .fault .boardMistake

/-- An event of a tree port: its port die is fitted and reachable. -/
def State.atPort (s : State) (p : Nat) (f : Dev → Dev) : Host.Outcome State Fault Refusal := s.event fun d => if d.portUp p then f d else d

/-- An event of a winder. -/
def State.atWinder (s : State) (w : Nat) (f : Dev → Dev) : Host.Outcome State Fault Refusal := s.event fun d => if d.winderUp w then f d else d

/-- An event of a cluster. -/
def State.atCluster (s : State) (c : Nat) (f : Dev → Dev) : Host.Outcome State Fault Refusal :=
  s.event fun d => if d.portUp (4 * c) then f d else d

/-- An event of an LDPC decoder. -/
def State.atDecoder (s : State) (n : Nat) (f : Dev → Dev) : Host.Outcome State Fault Refusal :=
  s.event fun d => if d.variant.hasDecoders && d.winderUp n then f d else d

/-- An event of an uplink port. -/
def State.atUplink (s : State) (u : Nat) (f : Dev → Dev) : Host.Outcome State Fault Refusal :=
  s.event fun d => if d.variant.hasLane u then f d else d

/-- An event of a serial lane. -/
def State.atLane (s : State) (l : SerialLane) (f : Dev → Dev) : Host.Outcome State Fault Refusal :=
  s.event fun d => if d.variant.hasSLane (laneKey l) then f d else d

/-- An event of the protection unit. -/
def State.protEvent (s : State) (f : Dev → Dev) : Host.Outcome State Fault Refusal := s.event fun d => if d.variant.hasProt then f d else d

/-- An event of the protection unit on a tree. -/
def State.treeEvent (s : State) (p : Nat) (f : Dev → Dev) : Host.Outcome State Fault Refusal :=
  s.event fun d => if d.variant.hasProt && d.variant.hasPort p then f d else d

/-- An event of the bandwidth window of a port. -/
def State.atWindow (s : State) (x : Nat) (f : Dev → Dev) : Host.Outcome State Fault Refusal :=
  s.event fun d => if (if x < 64 then d.variant.hasPort x else d.variant.hasLane (x - 64)) then f d else d

/-- CMD_DOORBELL (R48). -/
def execCmdDoorbell (r : Fin 8) (v : Word) (s : State) : Host.Outcome State Fault Refusal :=
  s.event fun d => d.cmdBell r v

/-- EVENT_DOORBELL (R48). -/
def execEventDoorbell (v : Word) (s : State) : Host.Outcome State Fault Refusal :=
  s.event fun d => d.evtBell s.bank v

/-- PUNT_DOORBELL (R48). -/
def execPuntDoorbell (r : Fin 16) (v : Word) (s : State) : Host.Outcome State Fault Refusal :=
  s.event fun d => d.puntBell r.val v

/-- INJECT_DOORBELL (R48). -/
def execInjectDoorbell (r : Fin 16) (v : Word) (s : State) : Host.Outcome State Fault Refusal :=
  s.event fun d => d.injBell r.val v

/-- COMMAND_ENTRY_FETCH (R75). -/
def execCommandEntryFetch (r : Fin 8) (s : State) : Host.Outcome State Fault Refusal :=
  s.event fun d => d.fetchEntry s.bank s.mem r

/-- COMMAND_START (R57). -/
def execCommandStart (r : Fin 8) (s : State) : Host.Outcome State Fault Refusal :=
  s.event fun d => d.startNext s.env r

/-- RING_EN_WRITE (R49). -/
def execRingEnWrite (ring : Ring) (en : Bool) (s : State) : Host.Outcome State Fault Refusal :=
  s.event fun d => d.ringEn ring en

/-- RING_PAUSE_WRITE (R77). -/
def execRingPauseWrite (r : Fin 8) (b : Bool) (s : State) : Host.Outcome State Fault Refusal :=
  s.event fun d => d.ringPause r b

/-- RING_RESUME_WRITE (R76). -/
def execRingResumeWrite (r : Fin 8) (s : State) : Host.Outcome State Fault Refusal :=
  s.event fun d => d.ringResume r

/-- EXPSEQ_WRITE (R77). -/
def execExpseqWrite (r : Fin 8) (v : Word) (s : State) : Host.Outcome State Fault Refusal :=
  s.event fun d => d.expseq r v

/-- EVENT_RING_WRITE (R66). -/
def execEventRingWrite (s : State) : Host.Outcome State Fault Refusal :=
  s.event fun d => d.evtRingWrite s.bank

/-- CMD_EVT_LOST (R73). -/
def execCmdEvtLost (s : State) : Host.Outcome State Fault Refusal :=
  s.event fun d => d.ask (.lostFlush d.stamp)

/-- MSIX_MODERATION_TIMER (R74). -/
def execMsixModerationTimer (vec : Fin 34) (s : State) : Host.Outcome State Fault Refusal :=
  s.event fun d => d.msixTimer vec.val

/-- An enabled punt ring without a posted buffer. -/
def Dev.puntEmpty (d : Dev) (r : Nat) : Bool := (d.punt r).en && decide ((d.punt r).posted = 0)
/-- A frame for punt ring `r`. -/
def puntTo (r : Fin 16) : Instr → Bool
  | .puntFrame k .. => k == r
  | _ => false

/-- PUNT_FRAME (R81): a frame that finds its ring without a posted buffer, or behind such a frame, is looked at again after the commands of
the same cycle (R69). -/
def execPuntFrame (r : Fin 16) (reason : Half) (ingress : Word) (data : Bytes) (stamp : Dword) (s : State) : Host.Outcome State Fault Refusal :=
  s.event fun d =>
    if !s.pending.isEmpty && (d.puntEmpty r.val || d.late.any (puntTo r)) then { d with late := d.late ++ [.puntFrame r reason ingress data stamp] }
    else d.puntFrame s.mem r.val reason.toNat ingress.toNat data stamp

/-- INJECT_FRAME (R82). -/
def execInjectFrame (r : Fin 16) (s : State) : Host.Outcome State Fault Refusal :=
  s.event fun d => d.injectFrame s.mem r.val

/-- INJECT_PAUSE_TIMEOUT (R83). -/
def execInjectPauseTimeout (r : Fin 16) (s : State) : Host.Outcome State Fault Refusal :=
  s.timeout (.injectPauseTimeout r) fun d => d.injTimeout r.val

/-- WAIT_TIME_REACHED (R63). -/
def execWaitTimeReached (r : Fin 8) (s : State) : Host.Outcome State Fault Refusal :=
  s.event fun d => d.waitReached r

/-- WAIT_EVENT_LIMIT (R63). -/
def execWaitEventLimit (r : Fin 8) (s : State) : Host.Outcome State Fault Refusal :=
  s.timeout (.waitEventLimit r) fun d => d.waitLimit r

/-- TREE_FRAME_OFS_WRITE (R93). -/
def execTreeFrameOfsWrite (p : Fin 64) (v : Word) (s : State) : Host.Outcome State Fault Refusal :=
  s.event fun d => d.regWrite (portBase p.val + 0x00C) v

/-- TREE_RSSI_ARM_WRITE (R114). -/
def execTreeRssiArmWrite (p : Fin 64) (term : BitVec 10) (arm : Bool) (s : State) : Host.Outcome State Fault Refusal :=
  s.event fun d => d.rssiArmWrite p.val term arm

/-- RNG_TEQD_WRITE (R128). -/
def execRngTeqdWrite (p : Fin 64) (v : Word) (s : State) : Host.Outcome State Fault Refusal :=
  s.event fun d => d.regWrite (portBase p.val + 0x104) v

/-- TOD_CTRL_WRITE (R410). -/
def execTodCtrlWrite (v : Word) (s : State) : Host.Outcome State Fault Refusal :=
  s.event fun d => d.regWrite 0x70000 v

/-- TOD_NOW_NS_READ (R416). -/
def execTodNowNsRead (s : State) : Host.Outcome State Fault Refusal :=
  s.event fun d => d.readBack s.bank 0x70008

/-- TAL_WIN_SEQ_READ (R458). -/
def execTalWinSeqRead (x : Fin 96) (s : State) : Host.Outcome State Fault Refusal :=
  s.event fun d => d.readBack s.bank (0x91004 + 0x20 * x.val)

/-- W1C_WRITE (R13). -/
def execW1cWrite (reg : W1cReg) (v : Word) (s : State) : Host.Outcome State Fault Refusal :=
  s.event fun d => d.w1cWrite reg v

/-- RC_READ (R13). -/
def execRcRead (c : Fin 16) (s : State) : Host.Outcome State Fault Refusal :=
  s.event fun d => d.readBack s.bank (poolBase c.val + 0x4)

/-- LOCAL_COUNTER_WRITE (R453). -/
def execLocalCounterWrite (off : Word) (v : Word) (s : State) : Host.Outcome State Fault Refusal :=
  s.event fun d => d.ctrWrite off.toNat v

/-- HUB_DIAG_SEL_WRITE (R506). -/
def execHubDiagSelWrite (v : Word) (s : State) : Host.Outcome State Fault Refusal :=
  s.event fun d => d.regWrite 0x10 v

/-- DIAG_WINDOW_READ (R505). -/
def execDiagWindowRead (off : BitVec 24) (bad : Bool) (s : State) : Host.Outcome State Fault Refusal :=
  s.event fun d => d.diagRead off bad

/-- DRAM_EN_WRITE (R469). -/
def execDramEnWrite (v : Word) (s : State) : Host.Outcome State Fault Refusal :=
  s.event fun d => d.regWrite 0x80000 v

/-- REGISTER_WRITE (R503). -/
def execRegisterWrite (off : Word) (v : Word) (s : State) : Host.Outcome State Fault Refusal :=
  s.event fun d => d.anyWrite off.toNat v

/-- SERVICE_PORT_WRITE (R494). -/
def execServicePortWrite (off : Word) (v : Word) (s : State) : Host.Outcome State Fault Refusal :=
  s.event fun d => d.svcWrite off v

/-- SERVICE_PORT_SET_POINTER (R493). -/
def execServicePortSetPointer (off : Word) (s : State) : Host.Outcome State Fault Refusal :=
  s.event fun d => d.svcPointer off

/-- SERVICE_PORT_READ (R494). -/
def execServicePortRead (s : State) : Host.Outcome State Fault Refusal :=
  s.event fun d => d.svcRead s.bank

end Sys2Proof.Machine
end

