-- ==== Sys2Proof/Machine/BoardRows.lean ====
section
/-! DEFINITION. The event rows of faults, start-up, power, memory, counters (chapters 01, 15 to 18). -/
namespace Sys2Proof.Machine
open Sys2Proof

/-- RESET_N_ASSERT (R486). -/
def execResetNAssert (s : State) : Host.Outcome State Fault Refusal :=
  s.next ((fun d => d.resetAssert) s.dev)

/-- RESET_N_DEASSERT (R465). -/
def execResetNDeassert (straps : BitVec 3) (s : State) : Host.Outcome State Fault Refusal :=
  s.boardEvent fun d => d.resetDeassert straps

/-- BOOT_STEP_COMPLETE (R465). -/
def execBootStepComplete (st : BootStep) (s : State) : Host.Outcome State Fault Refusal :=
  s.event fun d => d.bootStep st

/-- DRAM_READY (R469). -/
def execDramReady (failed : Byte) (s : State) : Host.Outcome State Fault Refusal :=
  s.event fun d => d.dramReady failed

/-- POWER_RAIL_CHANGE (R484). -/
def execPowerRailChange (rail : Rail) (up : Bool) (s : State) : Host.Outcome State Fault Refusal :=
  s.boardEvent fun d => d.railChange rail up

/-- PCIE_RESET (R38). -/
def execPcieReset (kind : PcieReset) (s : State) : Host.Outcome State Fault Refusal :=
  s.event fun d => d.pcieReset kind

/-- DRIFT_LANE_FAULT (R21). -/
def execDriftLaneFault (die : Fin 2) (lane : Fin 18) (s : State) : Host.Outcome State Fault Refusal :=
  s.event fun d => d.driftLaneFault die.val lane.val

/-- DRIFT_SILENCE (R23). -/
def execDriftSilence (die : Fin 2) (s : State) : Host.Outcome State Fault Refusal :=
  s.event fun d => d.driftSilence die.val

/-- DRIFT_BLOCK_RECEIVE (R20). -/
def execDriftBlockReceive (die : Fin 2) (lane : Fin 18) (crcGood : Bool) (s : State) : Host.Outcome State Fault Refusal :=
  s.event fun d => d.driftBlock die.val lane.val crcGood

/-- HUB_DIE_FAULT (R36). -/
def execHubDieFault (s : State) : Host.Outcome State Fault Refusal :=
  s.event fun d => d.hubDieFault

/-- PIPELINE_FAULT (R29). -/
def execPipelineFault (f : Fin 4) (s : State) : Host.Outcome State Fault Refusal :=
  s.event fun d => d.pipelineFault f.val

/-- UPLINK_LANE_FAULT (R30). -/
def execUplinkLaneFault (u : Fin 32) (s : State) : Host.Outcome State Fault Refusal :=
  s.event fun d => d.uplinkLaneFault u.val

/-- CONTAINED_FAULT (R387). -/
def execContainedFault (level : FaultLevel) (s : State) : Host.Outcome State Fault Refusal :=
  s.event fun d => d.containedFault level

/-- TEMP_SENSOR_READ (R497). -/
def execTempSensorRead (t : List (BitVec 10)) (s : State) : Host.Outcome State Fault Refusal :=
  s.event fun d => d.tempRead t

/-- TCK_EDGE (R495). -/
def execTckEdge (tms tdi : Bool) (s : State) : Host.Outcome State Fault Refusal :=
  s.next ((fun d => d.tckEdge tms tdi) s.dev)

/-- SRAM_READ_ERROR (R428). -/
def execSramReadError (loc : Dword) (mem : OnChip) (raw : BitVec 39) (s : State) : Host.Outcome State Fault Refusal :=
  s.event fun d => d.chipRead loc mem raw

/-- DRAM_FREEZE (R437). -/
def execDramFreeze (s1 : Fin 8) (e : DramError) (s : State) : Host.Outcome State Fault Refusal :=
  s.event fun d => d.dramError s1.val e

/-- DDR_ALERT (R480). -/
def execDdrAlert (line : Bool) (parity : Byte) (cmdNow : Half) (s : State) : Host.Outcome State Fault Refusal :=
  s.event fun d => d.ddrAlert line parity cmdNow

/-- SCRUB_PASS (R429). -/
def execScrubPass (loc : Dword) (word : ScrubWord) (s : State) : Host.Outcome State Fault Refusal :=
  s.event fun d => d.scrub loc word

/-- REFRESH_TICK (R433). -/
def execRefreshTick (s1 : Fin 8) (s : State) : Host.Outcome State Fault Refusal :=
  s.event fun d => d.refreshTick s1.val

/-- MR4_POLL (R435). -/
def execMr4Poll (s1 : Fin 8) (mr4 : Byte) (hot : Bool) (s : State) : Host.Outcome State Fault Refusal :=
  s.event fun d => d.mr4Poll s1.val mr4 hot

/-- REAL_TIME_BURST (R434). -/
def execRealTimeBurst (s1 : Fin 8) (granules activates ticks tookNs : Nat) (s : State) : Host.Outcome State Fault Refusal :=
  s.event fun d => d.realTimeBurst s1.val granules activates ticks tookNs

/-- ROW_REPAIR_DONE (R444). -/
def execRowRepairDone (loc : Dword) (s : State) : Host.Outcome State Fault Refusal :=
  s.event fun d => d.rowRepairDone loc

/-- ARRAY_REPAIR_DONE (R445). -/
def execArrayRepairDone (loc : Dword) (s : State) : Host.Outcome State Fault Refusal :=
  s.event fun d => d.arrayRepairDone loc

/-- THAW_COPY_DONE (R440). -/
def execThawCopyDone (s1 : Fin 8) (bad : List Dword) (s : State) : Host.Outcome State Fault Refusal :=
  s.event fun d => d.thawDone s1.val bad

/-- LEDGER_WRITE (R446). -/
def execLedgerWrite (s : State) : Host.Outcome State Fault Refusal :=
  s.next ((fun d => d.ledgerWrite) s.dev)

/-- COUNTER_GATHER (R451). -/
def execCounterGather (idx : BitVec 25) (s : State) : Host.Outcome State Fault Refusal :=
  s.event fun d => d.counterGather idx.toNat

/-- SNAPSHOT_INSTANT (R455). -/
def execSnapshotInstant (s : State) : Host.Outcome State Fault Refusal :=
  s.event fun d => d.snapInstant

/-- SNAPSHOT_COPY_DONE (R455). -/
def execSnapshotCopyDone (s : State) : Host.Outcome State Fault Refusal :=
  s.event fun d => d.snapDone

/-- WINDOW_END (R457). -/
def execWindowEnd (x : Fin 96) (s : State) : Host.Outcome State Fault Refusal :=
  s.atWindow x.val fun d => d.windowEnd x.val

/-- MARCH_TEST_DONE (R442). -/
def execMarchTestDone (o : RepairUnit) (bad : List Dword) (pass : Bool) (s : State) : Host.Outcome State Fault Refusal :=
  s.event fun d => d.marchDone o bad pass

end Sys2Proof.Machine
end

