-- ==== Sys2Proof/Machine/Branch.lean ====
section
/-! DEFINITION. Oliol branches, jumps and loops (R208 to R210, Table 6-10). -/
namespace Sys2Proof.Machine
open Sys2Proof

/-- Instructions of the active image of the winder's tree port. -/
def Dev.icount (d : Dev) (p : Nat) : Nat := ((d.port p).wnd.img (d.port p).wnd.half).code.length

/-- The instruction at PC is the last of the innermost loop body, where no branch may stand (Table 6-21). -/
def Winder.atBodyEnd (x : Winder) : Bool := x.loops.any fun e => e.stop == x.pc.toNat

/-- A branch target (R208). -/
def brTarget (pc : Nat) (off : Half) : Nat := (((pc : Int) + 1 + off.toInt) % 4096).toNat

/-- A taken branch pops the first entry, outermost first, that its target leaves, and every entry pushed after it (R210). -/
def popLoops (target : Nat) (l : List LoopEnt) : List LoopEnt :=
  (l.reverse.takeWhile fun e => decide (e.start ≤ target ∧ target ≤ e.stop)).reverse

/-- A conditional branch (R208). -/
def Dev.branch (d : Dev) (w : Fin 80) (rs rt : BitVec 5) (off : Half) (c : Word → Word → Bool) : Option Dev :=
  d.issue w.val (kG rs ++ kG rt) noWait fun t x d1 =>
    let tgt := brTarget x.pc.toNat off
    if x.atBodyEnd || decide (d1.icount x.port ≤ tgt) then none
    else if c (x.rg rs) (x.rg rt) then
      some (d1.setWinder w.val (({ x with loops := popLoops tgt x.loops }).jump t 3 tgt))
    else some (d1.setWinder w.val (x.retire t 1))

/-- BEQ (R208). -/
def execBeq (w : Fin 80) (rs rt : BitVec 5) (off : Half) (s : State) : Host.Outcome State Fault Refusal :=
  s.oliol w (.beq w rs rt off) (s.dev.branch w rs rt off fun a b => a == b)

/-- BNE (R208). -/
def execBne (w : Fin 80) (rs rt : BitVec 5) (off : Half) (s : State) : Host.Outcome State Fault Refusal :=
  s.oliol w (.bne w rs rt off) (s.dev.branch w rs rt off fun a b => a != b)

/-- BLT (R208). -/
def execBlt (w : Fin 80) (rs rt : BitVec 5) (off : Half) (s : State) : Host.Outcome State Fault Refusal :=
  s.oliol w (.blt w rs rt off) (s.dev.branch w rs rt off fun a b => a.slt b)

/-- BGE (R208). -/
def execBge (w : Fin 80) (rs rt : BitVec 5) (off : Half) (s : State) : Host.Outcome State Fault Refusal :=
  s.oliol w (.bge w rs rt off) (s.dev.branch w rs rt off fun a b => !a.slt b)

/-- BLTU (R208). -/
def execBltu (w : Fin 80) (rs rt : BitVec 5) (off : Half) (s : State) : Host.Outcome State Fault Refusal :=
  s.oliol w (.bltu w rs rt off) (s.dev.branch w rs rt off fun a b => a.ult b)

/-- BGEU (R208). -/
def execBgeu (w : Fin 80) (rs rt : BitVec 5) (off : Half) (s : State) : Host.Outcome State Fault Refusal :=
  s.oliol w (.bgeu w rs rt off) (s.dev.branch w rs rt off fun a b => !a.ult b)

/-- JMP: the target is read before the link is written (R208). -/
def Dev.jumpTo (d : Dev) (w : Fin 80) (rd : BitVec 5) (keys : List Nat) (tgt : Winder → Nat) : Option Dev :=
  d.issue w.val (keys ++ kG rd) noWait fun t x d1 =>
    if x.atBodyEnd || decide (d1.icount x.port ≤ tgt x) then none
    else
      let link := BitVec.ofNat 32 ((x.pc.toNat + 1) % 4096)
      some (d1.setWinder w.val (((x.setG rd link).writes t 1 (kG rd)).jump t 3 (tgt x)))

/-- JAL (R208). -/
def execJal (w : Fin 80) (rd : BitVec 5) (target : BitVec 12) (s : State) : Host.Outcome State Fault Refusal :=
  s.oliol w (.jal w rd target) (s.dev.jumpTo w rd [] fun _ => target.toNat)

/-- JALR (R208). -/
def execJalr (w : Fin 80) (rd rs : BitVec 5) (s : State) : Host.Outcome State Fault Refusal :=
  s.oliol w (.jalr w rd rs) (s.dev.jumpTo w rd (kG rs) fun x => (x.rg rs).toNat % 4096)

/-- LOOP with `n` passes of the `len` instructions that follow (R209, R210). A body that ends after that of an active loop is a mistake of
Table 6-21, also where the LOOP stands in a subroutine that JAL called from inside the active body (DESIGN CHOICE, log entry 15). -/
def Dev.loopWith (d : Dev) (w : Fin 80) (keys : List Nat) (n : Winder → Nat) (len : Nat) : Option Dev :=
  d.issue w.val keys noWait fun t x d1 =>
    let a := x.pc.toNat
    let ends := a + len
    if x.atBodyEnd || decide (len = 0 ∨ 4096 < n x ∨ 4095 < ends ∨ d1.icount x.port ≤ ends) || decide (4 ≤ x.loops.length) ||
        x.loops.any (fun e => decide (e.stop < ends)) then none
    else if n x = 0 then some (d1.setWinder w.val (x.jump t 1 ((ends + 1) % 4096)))
    else some (d1.setWinder w.val (({ x with loops := ⟨a + 1, ends, n x⟩ :: x.loops }).jump t 1 (a + 1)))

/-- LOOP (R209). -/
def execLoopR (w : Fin 80) (rs : BitVec 5) (len : BitVec 12) (s : State) : Host.Outcome State Fault Refusal :=
  s.oliol w (.loopR w rs len) (s.dev.loopWith w (kG rs) (fun x => (x.rg rs).toNat) len.toNat)

/-- LOOPI: count field 0 means 4,096 (R209). -/
def execLoopi (w : Fin 80) (count len : BitVec 12) (s : State) : Host.Outcome State Fault Refusal :=
  s.oliol w (.loopi w count len) (s.dev.loopWith w [] (fun _ => if count = 0 then 4096 else count.toNat) len.toNat)

end Sys2Proof.Machine
end

