-- ==== Sys2Proof/Machine/HostRows.lean ====
section
/-! DEFINITION. The host commands of Table 2-7 as rows: the device starts the command with this tag on this object. One definition per
row; what each does is its command's body, named `cmd...` in the file of its chapter. -/
namespace Sys2Proof.Machine
open Sys2Proof

/-- NOP (R65). -/
def execNop (c : Tag) (obj : Word) (s : State) :
    Host.Outcome State Fault Refusal :=
  s.host (.nop c obj) c obj (cmdNop c obj s.dev)

/-- WAIT_TIME (R63). -/
def execWaitTime (c : Tag) (obj : Word) (sec : BitVec 48) (ns : Word) (s : State) :
    Host.Outcome State Fault Refusal :=
  s.host (.waitTime c obj sec ns) c obj (cmdWaitTime c obj sec ns s.dev)

/-- WAIT_EVENT (R63). -/
def execWaitEvent (c : Tag) (obj : Word) (typ src mask : Half) (limit : Word) (s : State) :
    Host.Outcome State Fault Refusal :=
  s.host (.waitEvent c obj typ src mask limit) c obj (cmdWaitEvent c obj limit s.dev)

/-- READ_REG (R63). -/
def execReadReg (c : Tag) (obj : Word) (off : Word) (count : Byte) (s : State) :
    Host.Outcome State Fault Refusal :=
  s.host (.readReg c obj off count) c obj (cmdReadReg c obj off count s.env s.dev)

/-- WRITE_REG (R63). -/
def execWriteReg (c : Tag) (obj : Word) (off value mask : Word) (s : State) :
    Host.Outcome State Fault Refusal :=
  s.host (.writeReg c obj off value mask) c obj (cmdWriteReg c obj off value mask s.env s.dev)

/-- READ_STATE (R64). -/
def execReadState (c : Tag) (obj : Word) (addr : Dword) (len : Word) (s : State) :
    Host.Outcome State Fault Refusal :=
  s.host (.readState c obj addr len) c obj (cmdReadState c obj addr len s.dev)

/-- RESET_SCOPE (R63). -/
def execResetScope (c : Tag) (obj : Word) (s : State) :
    Host.Outcome State Fault Refusal :=
  s.host (.resetScope c obj) c obj (cmdResetScope c obj s.dev)

/-- TREE_ENABLE (R117). -/
def execTreeEnable (c : Tag) (obj : Word) (lanes : Byte) (s : State) :
    Host.Outcome State Fault Refusal :=
  s.host (.treeEnable c obj lanes) c obj (cmdTreeEnable c obj lanes s.dev)

/-- TREE_DISABLE (R119). -/
def execTreeDisable (c : Tag) (obj : Word) (lanes : Byte) (s : State) :
    Host.Outcome State Fault Refusal :=
  s.host (.treeDisable c obj lanes) c obj (cmdTreeDisable c obj lanes s.dev)

/-- TREE_LANE_SET (R91). -/
def execTreeLaneSet (c : Tag) (obj : Word) (mainGen compGen gflags : Byte) (s : State) :
    Host.Outcome State Fault Refusal :=
  s.host (.treeLaneSet c obj mainGen compGen gflags) c obj (cmdTreeLaneSet c obj mainGen compGen gflags s.dev)

/-- TREE_PROFILE_SET (R103). -/
def execTreeProfileSet (c : Tag) (obj : Word) (a : ProfileArgs) (s : State) :
    Host.Outcome State Fault Refusal :=
  s.host (.treeProfileSet c obj a) c obj (cmdTreeProfileSet c obj a s.dev)

/-- TREE_KEY_LOAD (R99). -/
def execTreeKeyLoad (c : Tag) (obj : Word) (slot : Byte) (key : BitVec 128) (s : State) :
    Host.Outcome State Fault Refusal :=
  s.host (.treeKeyLoad c obj slot key) c obj (mirrored (objTerm obj).1 (cmdTreeKeyLoad c obj slot key s.dev))

/-- TREE_KEY_SWITCH (R101). -/
def execTreeKeySwitch (c : Tag) (obj : Word) (slot : Byte) (sfc : Dword) (s : State) :
    Host.Outcome State Fault Refusal :=
  s.host (.treeKeySwitch c obj slot sfc) c obj (cmdTreeKeySwitch c obj slot sfc s.dev)

/-- TREE_BCAST_KEY_LOAD (R102). -/
def execTreeBcastKeyLoad (c : Tag) (obj : Word) (slot keyIdx : Byte) (key : BitVec 128) (s : State) :
    Host.Outcome State Fault Refusal :=
  s.host (.treeBcastKeyLoad c obj slot keyIdx key) c obj (cmdTreeBcastKeyLoad c obj slot keyIdx key s.dev)

/-- TREE_PLOAM_SEND (R106). -/
def execTreePloamSend (c : Tag) (obj : Word) (msg : Bytes) (s : State) :
    Host.Outcome State Fault Refusal :=
  s.host (.treePloamSend c obj msg) c obj (cmdTreePloamSend c obj msg s.dev)

/-- TREE_MODULE_I2C (R124). -/
def execTreeModuleI2c (c : Tag) (obj : Word) (op addr ofs len : Byte) (data : Bytes) (s : State) :
    Host.Outcome State Fault Refusal :=
  s.host (.treeModuleI2c c obj op addr ofs len data) c obj (cmdTreeModuleI2c c obj op addr ofs len data s.dev)

/-- RNG_DISCOVER (R133). -/
def execRngDiscover (c : Tag) (obj : Word) (lane profile : Byte) (window far period : Half) (count : Word) (s : State) :
    Host.Outcome State Fault Refusal :=
  s.host (.rngDiscover c obj lane profile window far period count) c obj (cmdRngDiscover c obj lane profile window far period count s.dev)

/-- RNG_TERMINAL_ADD (R138). -/
def execRngTerminalAdd (c : Tag) (obj : Word) (serial : Dword) (lane rflags profile : Byte) (hint tresp : Word) (limit : Half) (s : State) :
    Host.Outcome State Fault Refusal :=
  s.host (.rngTerminalAdd c obj serial lane rflags profile hint tresp limit) c obj (mirrored (objTerm obj).1 (cmdRngTerminalAdd c obj serial lane rflags profile hint tresp limit s.dev))

/-- RNG_TERMINAL_REMOVE (R142). -/
def execRngTerminalRemove (c : Tag) (obj : Word) (s : State) :
    Host.Outcome State Fault Refusal :=
  s.host (.rngTerminalRemove c obj) c obj (cmdRngTerminalRemove c obj s.dev)

/-- RNG_TRUNK_SET (R153). -/
def execRngTrunkSet (c : Tag) (obj : Word) (dly asymM asymC : Word) (tflags : Byte) (s : State) :
    Host.Outcome State Fault Refusal :=
  s.host (.rngTrunkSet c obj dly asymM asymC tflags) c obj (cmdRngTrunkSet c obj dly asymM asymC tflags s.dev)

/-- RNG_TRUNK_CONFIRM (R153). -/
def execRngTrunkConfirm (c : Tag) (obj : Word) (s : State) :
    Host.Outcome State Fault Refusal :=
  s.host (.rngTrunkConfirm c obj) c obj (cmdRngTrunkConfirm c obj s.dev)

/-- WND_IMAGE_LOAD (R187). -/
def execWndImageLoad (c : Tag) (obj : Word) (addr : Dword) (len : Word) (s : State) :
    Host.Outcome State Fault Refusal :=
  s.host (.wndImageLoad c obj addr len) c obj (cmdWndImageLoad c obj addr len s.env s.dev)

/-- WND_SWAP (R188). -/
def execWndSwap (c : Tag) (obj : Word) (sflags : Byte) (sfc : Dword) (s : State) :
    Host.Outcome State Fault Refusal :=
  s.host (.wndSwap c obj sflags sfc) c obj (cmdWndSwap c obj sflags sfc s.dev)

/-- WND_ALLOC_WRITE (R167). -/
def execWndAllocWrite (c : Tag) (obj : Word) (rec : Bytes) (s : State) :
    Host.Outcome State Fault Refusal :=
  s.host (.wndAllocWrite c obj rec) c obj (cmdWndAllocWrite c obj rec s.dev)

/-- WND_ALLOC_REMOVE (R168). -/
def execWndAllocRemove (c : Tag) (obj : Word) (s : State) :
    Host.Outcome State Fault Refusal :=
  s.host (.wndAllocRemove c obj) c obj (cmdWndAllocRemove c obj s.dev)

/-- WND_WITNESS_SET (R182). -/
def execWndWitnessSet (c : Tag) (obj : Word) (en gap profile : Byte) (s : State) :
    Host.Outcome State Fault Refusal :=
  s.host (.wndWitnessSet c obj en gap profile) c obj (cmdWndWitnessSet c obj en gap profile s.dev)

/-- UPS_FLOW_SET (R255). -/
def execUpsFlowSet (c : Tag) (obj : Word) (wireId term : Half) (lane fflags slot : Byte) (s : State) :
    Host.Outcome State Fault Refusal :=
  s.host (.upsFlowSet c obj wireId term lane fflags slot) c obj (cmdUpsFlowSet c obj wireId term lane fflags slot s.dev)

/-- UPS_POLICER_SET (R258). -/
def execUpsPolicerSet (c : Tag) (obj : Word) (cir cbs : Word) (pflags : Byte) (s : State) :
    Host.Outcome State Fault Refusal :=
  s.host (.upsPolicerSet c obj cir cbs pflags) c obj (cmdUpsPolicerSet c obj cir cbs pflags s.dev)

/-- CLS_RULES_LOAD (R281). -/
def execClsRulesLoad (c : Tag) (obj : Word) (kind lflags : Byte) (addr : Dword) (first count : Word) (s : State) :
    Host.Outcome State Fault Refusal :=
  s.host (.clsRulesLoad c obj kind lflags addr first count) c obj (cmdClsRulesLoad c obj kind lflags addr first count s.env s.dev)

/-- CLS_RULES_SWAP (R282). -/
def execClsRulesSwap (c : Tag) (obj : Word) (s : State) :
    Host.Outcome State Fault Refusal :=
  s.host (.clsRulesSwap c obj) c obj (cmdClsRulesSwap c obj s.dev)

/-- CLS_DEFAULT_SET (R278). -/
def execClsDefaultSet (c : Tag) (obj : Word) (action : Bytes) (s : State) :
    Host.Outcome State Fault Refusal :=
  s.host (.clsDefaultSet c obj action) c obj (cmdClsDefaultSet c obj action s.dev)

/-- CLS_INDIR_WRITE (R286). -/
def execClsIndirWrite (c : Tag) (obj : Word) (first count : Half) (addr : Dword) (s : State) :
    Host.Outcome State Fault Refusal :=
  s.host (.clsIndirWrite c obj first count addr) c obj (cmdClsIndirWrite c obj first count addr s.env s.dev)

/-- TBL_WRITE (R313). -/
def execTblWrite (c : Tag) (obj : Word) (addr : Dword) (count : Word) (s : State) :
    Host.Outcome State Fault Refusal :=
  s.host (.tblWrite c obj addr count) c obj (cmdTblWrite c obj addr count s.env s.dev)

/-- TBL_DELETE (R313). -/
def execTblDelete (c : Tag) (obj : Word) (addr : Dword) (count : Word) (s : State) :
    Host.Outcome State Fault Refusal :=
  s.host (.tblDelete c obj addr count) c obj (cmdTblDelete c obj addr count s.env s.dev)

/-- TBL_DOMAIN_FLUSH (R309). -/
def execTblDomainFlush (c : Tag) (obj : Word) (dflags : Byte) (src : Word) (s : State) :
    Host.Outcome State Fault Refusal :=
  s.host (.tblDomainFlush c obj dflags src) c obj (cmdTblDomainFlush c obj dflags src s.dev)

/-- TBL_LPM_LOAD (R313). -/
def execTblLpmLoad (c : Tag) (obj : Word) (addr : Dword) (count : Word) (s : State) :
    Host.Outcome State Fault Refusal :=
  s.host (.tblLpmLoad c obj addr count) c obj (cmdTblLpmLoad c obj addr count s.env s.dev)

/-- TBL_HOLDDOWN_SET (R307). -/
def execTblHolddownSet (c : Tag) (obj : Word) (hold : Word) (s : State) :
    Host.Outcome State Fault Refusal :=
  s.host (.tblHolddownSet c obj hold) c obj (cmdTblHolddownSet c obj hold s.dev)

/-- DTM_NODE_SET (R338). -/
def execDtmNodeSet (c : Tag) (obj : Word) (a : NodeArgs) (s : State) :
    Host.Outcome State Fault Refusal :=
  s.host (.dtmNodeSet c obj a) c obj (cmdDtmNodeSet c obj a s.dev)

/-- DTM_SHAPER_SET (R329). -/
def execDtmShaperSet (c : Tag) (obj : Word) (bucket sflags : Byte) (rate burst : Word) (s : State) :
    Host.Outcome State Fault Refusal :=
  s.host (.dtmShaperSet c obj bucket sflags rate burst) c obj (cmdDtmShaperSet c obj bucket sflags rate burst s.dev)

/-- DTM_WATCH_SET (R336). -/
def execDtmWatchSet (c : Tag) (obj : Word) (wflags : Byte) (node depthTh delayTh : Word) (s : State) :
    Host.Outcome State Fault Refusal :=
  s.host (.dtmWatchSet c obj wflags node depthTh delayTh) c obj (cmdDtmWatchSet c obj wflags node depthTh delayTh s.dev)

/-- DTM_PARTITION_SET (R323). -/
def execDtmPartitionSet (c : Tag) (obj : Word) (part : Byte) (res max : Word) (s : State) :
    Host.Outcome State Fault Refusal :=
  s.host (.dtmPartitionSet c obj part res max) c obj (cmdDtmPartitionSet c obj part res max s.dev)

/-- ULK_LANE_ENABLE (R361). -/
def execUlkLaneEnable (c : Tag) (obj : Word) (limit : Half) (s : State) :
    Host.Outcome State Fault Refusal :=
  s.host (.ulkLaneEnable c obj limit) c obj (cmdUlkLaneEnable c obj limit s.dev)

/-- ULK_LANE_DISABLE (R362). -/
def execUlkLaneDisable (c : Tag) (obj : Word) (s : State) :
    Host.Outcome State Fault Refusal :=
  s.host (.ulkLaneDisable c obj) c obj (cmdUlkLaneDisable c obj s.dev)

/-- ULK_PORT_SET (R344). -/
def execUlkPortSet (c : Tag) (obj : Word) (a : PortArgs) (s : State) :
    Host.Outcome State Fault Refusal :=
  s.host (.ulkPortSet c obj a) c obj (cmdUlkPortSet c obj a s.dev)

/-- ULK_BITSLIP (R347). -/
def execUlkBitslip (c : Tag) (obj : Word) (count : Byte) (s : State) :
    Host.Outcome State Fault Refusal :=
  s.host (.ulkBitslip c obj count) c obj (cmdUlkBitslip c obj count s.dev)

/-- ULK_GATE_LIST (R372). -/
def execUlkGateList (c : Tag) (obj : Word) (a : GateArgs) (s : State) :
    Host.Outcome State Fault Refusal :=
  s.host (.ulkGateList c obj a) c obj (cmdUlkGateList c obj a s.env s.dev)

/-- ULK_PAUSE_SET (R365). -/
def execUlkPauseSet (c : Tag) (obj : Word) (a : PauseArgs) (s : State) :
    Host.Outcome State Fault Refusal :=
  s.host (.ulkPauseSet c obj a) c obj (cmdUlkPauseSet c obj a s.dev)

/-- MAT_PAIR_JOIN (R379). -/
def execMatPairJoin (c : Tag) (obj : Word) (pkg mflags : Byte) (active : Dword) (limit : Half) (s : State) :
    Host.Outcome State Fault Refusal :=
  s.host (.matPairJoin c obj pkg mflags active limit) c obj (cmdMatPairJoin c obj pkg mflags active limit s.dev)

/-- MAT_ROLE_SET (R389). -/
def execMatRoleSet (c : Tag) (obj : Word) (role : Byte) (s : State) :
    Host.Outcome State Fault Refusal :=
  s.host (.matRoleSet c obj role) c obj (cmdMatRoleSet c obj role s.dev)

/-- MAT_DARK_RELEASE (R400). -/
def execMatDarkRelease (c : Tag) (obj : Word) (s : State) :
    Host.Outcome State Fault Refusal :=
  s.host (.matDarkRelease c obj) c obj (cmdMatDarkRelease c obj s.dev)

/-- TOD_STEP (R413). -/
def execTodStep (c : Tag) (obj : Word) (mode : Byte) (sec : BitVec 48) (ns : Word) (s : State) :
    Host.Outcome State Fault Refusal :=
  s.host (.todStep c obj mode sec ns) c obj (cmdTodStep c obj mode sec ns s.dev)

/-- TOD_STEER (R413). -/
def execTodSteer (c : Tag) (obj : Word) (freq : Word) (sflags : Byte) (s : State) :
    Host.Outcome State Fault Refusal :=
  s.host (.todSteer c obj freq sflags) c obj (cmdTodSteer c obj freq sflags s.dev)

/-- TOD_TRIG_SET (R420). -/
def execTodTrigSet (c : Tag) (obj : Word) (tflags : Byte) (sec : BitVec 48) (ns period width : Word) (s : State) :
    Host.Outcome State Fault Refusal :=
  s.host (.todTrigSet c obj tflags sec ns period width) c obj (cmdTodTrigSet c obj tflags sec ns period width s.dev)

/-- MEM_THAW (R440). -/
def execMemThaw (c : Tag) (obj : Word) (s : State) :
    Host.Outcome State Fault Refusal :=
  s.host (.memThaw c obj) c obj (cmdMemThaw c obj s.dev)

/-- MEM_RETIRE (R441). -/
def execMemRetire (c : Tag) (obj : Word) (s : State) :
    Host.Outcome State Fault Refusal :=
  s.host (.memRetire c obj) c obj (cmdMemRetire c obj s.dev)

/-- MEM_ROW_REPAIR (R447). -/
def execMemRowRepair (c : Tag) (obj : Word) (loc : Dword) (s : State) :
    Host.Outcome State Fault Refusal :=
  s.host (.memRowRepair c obj loc) c obj (cmdMemRowRepair c obj loc s.dev)

/-- MEM_SCRUB_SET (R447). -/
def execMemScrubSet (c : Tag) (obj : Word) (sramS : Half) (dramH : Byte) (s : State) :
    Host.Outcome State Fault Refusal :=
  s.host (.memScrubSet c obj sramS dramH) c obj (cmdMemScrubSet c obj sramS dramH s.dev)

/-- TAL_SNAPSHOT (R455). -/
def execTalSnapshot (c : Tag) (obj : Word) (a : SnapArgs) (s : State) :
    Host.Outcome State Fault Refusal :=
  s.host (.talSnapshot c obj a) c obj (cmdTalSnapshot c obj a s.dev)

/-- TAL_WINDOW_SET (R457). -/
def execTalWindowSet (c : Tag) (obj : Word) (wflags : Byte) (winMs : Half) (s : State) :
    Host.Outcome State Fault Refusal :=
  s.host (.talWindowSet c obj wflags winMs) c obj (cmdTalWindowSet c obj wflags winMs s.dev)

/-- TAL_PROFILE_START (R459). -/
def execTalProfileStart (c : Tag) (obj : Word) (a : ProfArgs) (s : State) :
    Host.Outcome State Fault Refusal :=
  s.host (.talProfileStart c obj a) c obj (cmdTalProfileStart c obj a s.dev)

/-- TAL_PROFILE_STOP (R461). -/
def execTalProfileStop (c : Tag) (obj : Word) (s : State) :
    Host.Outcome State Fault Refusal :=
  s.host (.talProfileStop c obj) c obj (cmdTalProfileStop c obj s.dev)

end Sys2Proof.Machine
end

