-- ==== Sys2Proof/Machine/HubRows.lean ====
section
/-! DEFINITION. The event rows of the data path on the hub die (chapters 09 to 12). -/
namespace Sys2Proof.Machine
open Sys2Proof

/-- CLASSIFIER_PASS (R275). -/
def execClassifierPass (f : Fin 4) (s : State) : Host.Outcome State Fault Refusal :=
  s.event fun d => d.classifierPass s.mem f.val

/-- RECIRC_PASS (R280). -/
def execRecircPass (f : Fin 4) (s : State) : Host.Outcome State Fault Refusal :=
  s.event fun d => d.recircPass s.mem f.val

/-- GENERATION_RETIRE (R283). -/
def execGenerationRetire (d : Fin 2) (s : State) : Host.Outcome State Fault Refusal :=
  s.event fun dd => dd.retireGen d.val

/-- LEARN_APPLY (R305): a host write of the same cycle comes first (R300). -/
def execLearnApply (s : State) : Host.Outcome State Fault Refusal :=
  s.yielding hostWrites .learnApply fun d => d.learnApply

/-- SUMP_MOVE (R297). -/
def execSumpMove (table : TableId) (bucket : Nat) (s : State) : Host.Outcome State Fault Refusal :=
  s.event fun d => d.sumpMove table bucket

/-- AGER_VISIT (R308). -/
def execAgerVisit (mac : BitVec 48) (dom : BitVec 14) (s : State) : Host.Outcome State Fault Refusal :=
  s.event fun d => d.agerVisit (be 6 mac.toNat) dom.toNat

/-- FLUSH_SWEEP_END (R309). -/
def execFlushSweepEnd (b : BitVec 14) (s : State) : Host.Outcome State Fault Refusal :=
  s.event fun d => d.flushEnd b.toNat

/-- DTM_SELECT (R325). -/
def execDtmSelect (p : Fin 64) (s : State) : Host.Outcome State Fault Refusal :=
  s.atPort p.val fun d => d.dtmSelect p.val

/-- DTM_CALENDAR_SLOT (R328). -/
def execDtmCalendarSlot (slot : Fin 131072) (s : State) : Host.Outcome State Fault Refusal :=
  s.event fun d => d.calSlot slot.val

/-- DTM_SWEEP_SAMPLE (R335). -/
def execDtmSweepSample (h : BitVec 20) (s : State) : Host.Outcome State Fault Refusal :=
  s.event fun d => d.sweepSample h.toNat

/-- WATCH_SAMPLE (R336). -/
def execWatchSample (w : BitVec 12) (s : State) : Host.Outcome State Fault Refusal :=
  s.event fun d => d.watchSample w.toNat

/-- UPLINK_FRAME_RECEIVE (R374). -/
def execUplinkFrameReceive (u : Fin 32) (data : Bytes) (fcsGood : Bool) (rx : RxState) (stamp : Dword) (s : State) : Host.Outcome State Fault Refusal :=
  s.atUplink u.val fun d => d.uplinkReceive u.val data fcsGood rx stamp

/-- EGRESS_SELECT (R364). -/
def execEgressSelect (u : Fin 32) (s : State) : Host.Outcome State Fault Refusal :=
  s.atUplink u.val fun d => d.egressSelect u.val

/-- PAUSE_HOLD_EXPIRY (R365). -/
def execPauseHoldExpiry (u : Fin 32) (q : Option (Fin 8)) (s : State) : Host.Outcome State Fault Refusal :=
  s.atUplink u.val fun d => d.holdExpiry u.val (q.map (·.val))

/-- RX_FIFO_THRESHOLD (R367). -/
def execRxFifoThreshold (u : Fin 32) (s : State) : Host.Outcome State Fault Refusal :=
  s.atUplink u.val fun d => d.rxThreshold u.val

/-- PAUSE_REPEAT (R367). -/
def execPauseRepeat (u : Fin 32) (s : State) : Host.Outcome State Fault Refusal :=
  s.atUplink u.val fun d => d.pauseRepeat u.val

/-- PREEMPT_VERIFY (R369). -/
def execPreemptVerify (u : Fin 32) (answered : Bool) (s : State) : Host.Outcome State Fault Refusal :=
  s.atUplink u.val fun d => d.preemptVerify u.val answered

/-- GATE_ENTRY_CHANGE (R371). -/
def execGateEntryChange (u : Fin 32) (s : State) : Host.Outcome State Fault Refusal :=
  s.atUplink u.val fun d => d.gateChange u.val

/-- GATE_LIST_START (R372). -/
def execGateListStart (u : Fin 32) (s : State) : Host.Outcome State Fault Refusal :=
  s.atUplink u.val fun d => d.gateStart u.val

/-- LANE_SIGNAL_LOSS (R348). -/
def execLaneSignalLoss (l : SerialLane) (s : State) : Host.Outcome State Fault Refusal :=
  s.atLane l fun d => d.signalLoss (laneKey l)

/-- LANE_SIGNAL_RETURN (R348). -/
def execLaneSignalReturn (l : SerialLane) (s : State) : Host.Outcome State Fault Refusal :=
  s.atLane l fun d => d.signalReturn (laneKey l)

/-- LANE_LOCK_LOSS (R359). -/
def execLaneLockLoss (l : SerialLane) (s : State) : Host.Outcome State Fault Refusal :=
  s.atLane l fun d => d.lockLoss (laneKey l)

/-- RELOCK_TIMEOUT (R359). -/
def execRelockTimeout (l : SerialLane) (s : State) : Host.Outcome State Fault Refusal :=
  s.atLane l fun d => d.relockTimeout (laneKey l)

/-- LADDER_MESSAGE (R351). -/
def execLadderMessage (l : SerialLane) (msg : Bytes) (s : State) : Host.Outcome State Fault Refusal :=
  s.atLane l fun d => d.ladderReceive (laneKey l) msg

/-- LADDER_STEP_TIMEOUT (R351). -/
def execLadderStepTimeout (l : SerialLane) (relocked : Bool) (s : State) : Host.Outcome State Fault Refusal :=
  s.atLane l fun d => d.stepTimeout (laneKey l) relocked

/-- LISTEN_RETRY (R353). -/
def execListenRetry (l : SerialLane) (s : State) : Host.Outcome State Fault Refusal :=
  s.atLane l fun d => d.listenRetry (laneKey l)

/-- CL73_TRAINING_TIMEOUT (R355). -/
def execCl73TrainingTimeout (u : Fin 32) (s : State) : Host.Outcome State Fault Refusal :=
  s.atUplink u.val fun d => d.trainingTimeout u.val

/-- LIVE_HOLD_EXPIRY (R357). -/
def execLiveHoldExpiry (u : Fin 32) (s : State) : Host.Outcome State Fault Refusal :=
  s.atUplink u.val fun d => d.liveHold u.val

/-- UPLINK_DRAIN_END (R362). -/
def execUplinkDrainEnd (u : Fin 32) (s : State) : Host.Outcome State Fault Refusal :=
  s.atUplink u.val fun d => d.ulkDrainEnd u.val

/-- ULK_ENABLE_LIMIT (R361). -/
def execUlkEnableLimit (u : Fin 32) (s : State) : Host.Outcome State Fault Refusal :=
  s.timeout (.ulkEnableLimit u) fun d => if d.variant.hasLane u.val then d.enableLimit u.val else d

/-- LANE_LOCK (R347). -/
def execLaneLock (l : SerialLane) (s : State) : Host.Outcome State Fault Refusal :=
  s.atLane l fun d => d.laneLock (laneKey l)

/-- RS_FAULT_CHANGE (R358). -/
def execRsFaultChange (u : Fin 32) (localF remoteF : Bool) (s : State) : Host.Outcome State Fault Refusal :=
  s.atUplink u.val fun d => d.rsFault u.val localF remoteF

/-- CL73_AUTONEG_DONE (R355). -/
def execCl73AutonegDone (u : Fin 32) (res : An73) (s : State) : Host.Outcome State Fault Refusal :=
  s.atUplink u.val fun d => d.autonegDone u.val res.code.toNat res.fec

/-- LADDER_MESSAGE_SEND (R350). -/
def execLadderMessageSend (l : SerialLane) (s : State) : Host.Outcome State Fault Refusal :=
  s.atLane l fun d => d.ladderSend (laneKey l)

end Sys2Proof.Machine
end

