-- ==== Sys2Proof/Machine/MemOps.lean ====
section
/-! DEFINITION. Oliol memory instructions (R193, R198, R200, R205 to R207, Table 6-9). -/
namespace Sys2Proof.Machine
open Sys2Proof

/-- A displacement, sign-extended. -/
def disp32 (v : BitVec 15) : Word := v.signExtend 32
/-- The effective address before alignment (R205). -/
def eaRaw (base : Word) (pi : Bool) (disp : BitVec 15) : Word := if pi then base else base + disp32 disp
/-- The aligned effective address of a word access. -/
def eaW (base : Word) (pi : Bool) (disp : BitVec 15) : Nat := (eaRaw base pi disp &&& 0xFFFFFFFC#32).toNat
/-- The aligned effective address of a vector access. -/
def eaV (base : Word) (pi : Bool) (disp : BitVec 15) : Nat := (eaRaw base pi disp &&& 0xFFFFFFE0#32).toNat

/-- The post-increment of a scalar base, ready one cycle after issue (R205). -/
def Winder.postInc (x : Winder) (t : Nat) (rb : BitVec 5) (pi : Bool) (disp : BitVec 15) : Winder :=
  if pi then (x.setG rb (x.rg rb + disp32 disp)).writes t 1 (kG rb) else x

/-- Bytes of local data memory and of the allocation-table window (Table 6-3). -/
def lmemSize : Nat := 0x10000
def awinSize : Nat := 0x40000

/-- The local-memory port is free (R220). -/
def localAt (x : Winder) (t : Nat) : Nat := max t x.localFree
/-- The allocation-table port is free (R198). -/
def portAt (x : Winder) (t : Nat) : Nat := max t x.portFree
/-- The port is free and fewer than eight loads are outstanding, or the oldest has completed (R198). -/
def loadAt (x : Winder) (t : Nat) : Nat :=
  let t1 := portAt x t
  let l := x.loads.filter fun c => decide (t1 < c)
  if l.length < 8 then t1 else l.headD t1

/-- An allocation-table load issues: port for `occ` cycles, outstanding for `lat`. -/
def Winder.allocLoad (x : Winder) (t occ lat : Nat) : Winder :=
  { x with portFree := t + occ, loads := (x.loads.filter fun c => decide (t < c)) ++ [t + lat] }

/-- The word of the allocation-table window at a byte address. -/
def Dev.awin (d : Dev) (p a : Nat) : Word := sget (fun _ => 0#32) (d.port p).wnd.alloc (a / 4)

/-- A store to bytes 48-63 of a record; bytes 0-47 take none (R165). -/
def Dev.awinStore (d : Dev) (p a : Nat) (v : Word) : Dev :=
  if a / 4 % 16 < 12 then d
  else d.modPort p fun q => { q with wnd := { q.wnd with alloc := sset (fun _ => 0#32) q.wnd.alloc (a / 4) v } }

/-- A record is in the calendar of tree port `p`. -/
def Dev.calBusy (d : Dev) (p : Nat) : Bool := (d.port p).wnd.cal.any fun e => e.2.count != 0

/-- A store to the link words while a record is in the calendar opens the calendar (Table 7-9). -/
def Dev.calStored (d : Dev) (w p a : Nat) : Dev := if decide (0xE000 ≤ a) && d.calBusy p then d.spoil (.calendar p w) else d

/-- LDW (R206). -/
def execLdw (w : Fin 80) (rd rb : BitVec 5) (pi : Bool) (disp : BitVec 15) (s : State) : Host.Outcome State Fault Refusal :=
  s.oliol w (.ldw w rd rb pi disp) (s.dev.issue w.val (kG rb ++ kG rd) localAt fun t x d =>
    let a := eaW (x.rg rb) pi disp
    if lmemSize ≤ a then none
    else some (d.setWinder w.val ((((x.postInc t rb pi disp).setG rd (x.lw a)).writes t 3 (kG rd)).retire t 1)))

/-- STW (R206). -/
def execStw (w : Fin 80) (rd rb : BitVec 5) (pi : Bool) (disp : BitVec 15) (s : State) : Host.Outcome State Fault Refusal :=
  s.oliol w (.stw w rd rb pi disp) (s.dev.issue w.val (kG rb ++ kG rd) localAt fun t x d =>
    let a := eaW (x.rg rb) pi disp
    if lmemSize ≤ a then none
    else some ((d.setWinder w.val (((x.setLw a (x.rg rd)).postInc t rb pi disp).retire t 1)).calStored w.val x.port a))

/-- LDV (R206). -/
def execLdv (w : Fin 80) (vd : BitVec 4) (rb : BitVec 5) (pi : Bool) (disp : BitVec 15) (s : State) : Host.Outcome State Fault Refusal :=
  s.oliol w (.ldv w vd rb pi disp) (s.dev.issue w.val (kG rb ++ kV vd) localAt fun t x d =>
    let a := eaV (x.rg rb) pi disp
    if lmemSize ≤ a then none
    else some (d.setWinder w.val ((((x.postInc t rb pi disp).setVs vd fun i => x.lw (a + 4 * i)).writes t 3 (kV vd)).retire t 1)))

/-- STV (R206). -/
def execStv (w : Fin 80) (vd : BitVec 4) (rb : BitVec 5) (pi : Bool) (disp : BitVec 15) (s : State) : Host.Outcome State Fault Refusal :=
  s.oliol w (.stv w vd rb pi disp) (s.dev.issue w.val (kG rb ++ kV vd) localAt fun t x d =>
    let a := eaV (x.rg rb) pi disp
    if lmemSize ≤ a then none
    else
      let y := (List.range 8).foldl (fun (y : Winder) i => y.setLw (a + 4 * i) (x.rv vd i)) x
      some ((d.setWinder w.val ((y.postInc t rb pi disp).retire t 1)).calStored w.val x.port a))

/-- LDA (R206). -/
def execLda (w : Fin 80) (rd rb : BitVec 5) (pi : Bool) (disp : BitVec 15) (s : State) : Host.Outcome State Fault Refusal :=
  s.oliol w (.lda w rd rb pi disp) (s.dev.issue w.val (kG rb ++ kG rd) loadAt fun t x d =>
    let a := eaW (x.rg rb) pi disp
    if awinSize ≤ a then none
    else some (d.setWinder w.val
      ((((x.postInc t rb pi disp).setG rd (d.awin x.port a)).writes t 12 (kG rd)).allocLoad t 1 12 |>.retire t 1)))

/-- STA (R165, R206). -/
def execSta (w : Fin 80) (rd rb : BitVec 5) (pi : Bool) (disp : BitVec 15) (s : State) : Host.Outcome State Fault Refusal :=
  s.oliol w (.sta w rd rb pi disp) (s.dev.issue w.val (kG rb ++ kG rd) portAt fun t x d =>
    let a := eaW (x.rg rb) pi disp
    if awinSize ≤ a then none
    else some ((d.awinStore x.port a (x.rg rd)).setWinder w.val
      (({ (x.postInc t rb pi disp) with portFree := t + 1 }).retire t 1)))

/-- LDAV (R206). -/
def execLdav (w : Fin 80) (vd : BitVec 4) (rb : BitVec 5) (pi : Bool) (disp : BitVec 15) (s : State) : Host.Outcome State Fault Refusal :=
  s.oliol w (.ldav w vd rb pi disp) (s.dev.issue w.val (kG rb ++ kV vd) loadAt fun t x d =>
    let a := eaV (x.rg rb) pi disp
    if awinSize ≤ a then none
    else some (d.setWinder w.val
      ((((x.postInc t rb pi disp).setVs vd fun i => d.awin x.port (a + 4 * i)).writes t 12 (kV vd)).allocLoad t 1 12 |>.retire t 1)))

/-- LDAG (R205, R206): each lane forms its own address; the port is taken for eight cycles (R198). -/
def execLdag (w : Fin 80) (vd vb : BitVec 4) (pi : Bool) (disp : BitVec 15) (s : State) : Host.Outcome State Fault Refusal :=
  s.oliol w (.ldag w vd vb pi disp) (s.dev.issue w.val (kV vb ++ kV vd) loadAt fun t x d =>
    let a (i : Nat) : Nat := eaW (x.rv vb i) pi disp
    if (List.range 8).any fun i => decide (awinSize ≤ a i) then none
    else
      let y := if pi then (x.setVs vb fun i => x.rv vb i + disp32 disp).writes t 2 (kV vb) else x
      some (d.setWinder w.val (((y.setVs vd fun i => d.awin x.port (a i)).writes t 19 (kV vd)).allocLoad t 8 19 |>.retire t 1)))

end Sys2Proof.Machine
end

