-- ==== Sys2Proof/Machine/PairRows.lean ====
section
/-! DEFINITION. The event rows of protection and time (chapters 13 and 14). -/
namespace Sys2Proof.Machine
open Sys2Proof

/-- FENCE_IN_ASSERT (R115): the level of the ball is kept while RESET_N is asserted too. -/
def execFenceInAssert (s : State) : Host.Outcome State Fault Refusal :=
  s.next (if s.dev.board.resetN then { s.dev with board := { s.dev.board with fenceIn := true } } else s.dev.fenceInAssert)

/-- FENCE_IN_DEASSERT (R116). -/
def execFenceInDeassert (s : State) : Host.Outcome State Fault Refusal :=
  s.next (if s.dev.board.resetN then { s.dev with board := { s.dev.board with fenceIn := false } } else s.dev.fenceInDeassert)

/-- FENCE_IN_QUALIFIED (R395). -/
def execFenceInQualified (s : State) : Host.Outcome State Fault Refusal :=
  s.protEvent fun d => d.fenceInQualified

/-- FENCE_IN_RELEASED (R395). -/
def execFenceInReleased (s : State) : Host.Outcome State Fault Refusal :=
  s.protEvent fun d => d.fenceInReleased

/-- LAMP_CHECK_SEND (R385). -/
def execLampCheckSend (path : Path) (s : State) : Host.Outcome State Fault Refusal :=
  s.protEvent fun d => d.lampSend path

/-- LAMP_CHECK_RECEIVE (R385). -/
def execLampCheckReceive (path : Path) (msg : Bytes) (s : State) : Host.Outcome State Fault Refusal :=
  s.protEvent fun d => d.lampReceive path msg

/-- PATH_LOSS (R385). -/
def execPathLoss (path : Path) (valid : Bool) (s : State) : Host.Outcome State Fault Refusal :=
  s.protEvent fun d => d.pathLoss path valid

/-- PROMOTE_BY_SILENCE (R388). -/
def execPromoteBySilence (p : Fin 64) (s : State) : Host.Outcome State Fault Refusal :=
  s.timeout (.promoteBySilence p) fun d =>
    if d.variant.hasProt && d.variant.hasPort p.val then d.promoteBySilence p.val else d

/-- MATE_ISOLATED (R392). -/
def execMateIsolated (s : State) : Host.Outcome State Fault Refusal :=
  s.protEvent fun d => d.mateIsolated

/-- NOBURST_WATCHDOG (R396). -/
def execNoburstWatchdog (p : Fin 64) (s : State) : Host.Outcome State Fault Refusal :=
  s.treeEvent p.val fun d => d.noburst p.val

/-- MIRROR_RECORD_RECEIVE (R384). -/
def execMirrorRecordReceive (p : Fin 64) (m : MirrorRecord) (s : State) : Host.Outcome State Fault Refusal :=
  s.treeEvent p.val fun d => d.mirrorReceive p.val m

/-- PLANNED_SWITCH_TIMEOUT (R389). -/
def execPlannedSwitchTimeout (p : Fin 64) (s : State) : Host.Outcome State Fault Refusal :=
  s.timeout (.plannedSwitchTimeout p) fun d =>
    if d.variant.hasProt && d.variant.hasPort p.val then d.plannedTimeout p.val else d

/-- FAILOVER_END (R399). -/
def execFailoverEnd (p : Fin 64) (s : State) : Host.Outcome State Fault Refusal :=
  s.treeEvent p.val fun d => d.failoverEnd p.val

/-- PAIR_JOIN_LIMIT (R379). -/
def execPairJoinLimit (s : State) : Host.Outcome State Fault Refusal :=
  s.timeout .pairJoinLimit fun d => if d.variant.hasProt then d.joinLimit else d

/-- PPS_IN_EDGE (R407). -/
def execPpsInEdge (s : State) : Host.Outcome State Fault Refusal :=
  s.event fun d => d.ppsEdge

/-- PPS_WINDOW_END (R409). -/
def execPpsWindowEnd (s : State) : Host.Outcome State Fault Refusal :=
  s.timeout .ppsWindowEnd fun d => d.ppsWindowEnd

/-- SERVO_STEP (R408). -/
def execServoStep (s : State) : Host.Outcome State Fault Refusal :=
  s.event fun d => d.servoStep

/-- TOD_IN_MESSAGE (R411). -/
def execTodInMessage (msg : Bytes) (s : State) : Host.Outcome State Fault Refusal :=
  s.event fun d => d.todIn msg

/-- TOD_IN_SECONDS_STEP (R412). -/
def execTodInSecondsStep (s : State) : Host.Outcome State Fault Refusal :=
  s.event fun d => d.todInStep

/-- TOD_STEP_INSTANT (R413). -/
def execTodStepInstant (s : State) : Host.Outcome State Fault Refusal :=
  s.event fun d => d.todStepInstant

/-- TIME_10M_LOSS (R405). -/
def execTime10mLoss (s : State) : Host.Outcome State Fault Refusal :=
  s.event fun d => d.loss10m

/-- TIME_10M_QUALIFIED (R405). -/
def execTime10mQualified (s : State) : Host.Outcome State Fault Refusal :=
  s.event fun d => d.qualified10m

/-- PULSE_OUTPUT_FIRE (R419). -/
def execPulseOutputFire (n : Fin 8) (s : State) : Host.Outcome State Fault Refusal :=
  s.event fun d => d.pulseFire n.val

end Sys2Proof.Machine
end

