-- ==== Sys2Proof/Machine/Scalar.lean ====
section
/-! DEFINITION. Oliol scalar instructions (R192, R203, R204, Tables 6-7 and 6-8): issue cost 1, result latency 1. -/
namespace Sys2Proof.Machine
open Sys2Proof

/-- A Reg-group instruction: g[rd] = f g[rs] g[rt]. -/
def Dev.regOp (d : Dev) (w : Fin 80) (rd rs rt : BitVec 5) (f : Word → Word → Word) : Option Dev :=
  d.issueW w.val (kG rs ++ kG rt ++ kG rd) fun t x => ((x.setG rd (f (x.rg rs) (x.rg rt))).writes t 1 (kG rd)).retire t 1

/-- An Imm-group instruction: g[rd] = f g[rs]. -/
def Dev.immOp (d : Dev) (w : Fin 80) (rd rs : BitVec 5) (f : Word → Word) : Option Dev :=
  d.issueW w.val (kG rs ++ kG rd) fun t x => ((x.setG rd (f (x.rg rs))).writes t 1 (kG rd)).retire t 1

/-- sext and zext of an immediate (chapter 06). -/
def sextH (imm : Half) : Word := imm.signExtend 32
def zextH (imm : Half) : Word := imm.zeroExtend 32

/-- A shift amount: bits [4:0] (R202). -/
def amt (v : Word) : Nat := v.toNat % 32

/-- 1 when the comparison holds, else 0. -/
def flag (b : Bool) : Word := if b then 1 else 0

/-- Lane functions shared by the Reg group and VALU (Tables 6-7 and 6-11). -/
def aluShl (a b : Word) : Word := a <<< amt b
def aluShr (a b : Word) : Word := a >>> amt b
def aluSar (a b : Word) : Word := a.sshiftRight (amt b)
def aluMulhu (a b : Word) : Word := BitVec.ofNat 32 (a.toNat * b.toNat / 2 ^ 32)
def aluMinu (a b : Word) : Word := if a.ult b then a else b
def aluMaxu (a b : Word) : Word := if a.ult b then b else a
def aluSubsat (a b : Word) : Word := if a.ult b then 0 else a - b

/-- ADD (R203). -/
def execAdd (w : Fin 80) (rd rs rt : BitVec 5) (s : State) : Host.Outcome State Fault Refusal :=
  s.oliol w (.add w rd rs rt) (s.dev.regOp w rd rs rt fun a b => a + b)

/-- SUB (R203). -/
def execSub (w : Fin 80) (rd rs rt : BitVec 5) (s : State) : Host.Outcome State Fault Refusal :=
  s.oliol w (.sub w rd rs rt) (s.dev.regOp w rd rs rt fun a b => a - b)

/-- AND (R203). -/
def execAndR (w : Fin 80) (rd rs rt : BitVec 5) (s : State) : Host.Outcome State Fault Refusal :=
  s.oliol w (.andR w rd rs rt) (s.dev.regOp w rd rs rt fun a b => a &&& b)

/-- OR (R203). -/
def execOrR (w : Fin 80) (rd rs rt : BitVec 5) (s : State) : Host.Outcome State Fault Refusal :=
  s.oliol w (.orR w rd rs rt) (s.dev.regOp w rd rs rt fun a b => a ||| b)

/-- XOR (R203). -/
def execXorR (w : Fin 80) (rd rs rt : BitVec 5) (s : State) : Host.Outcome State Fault Refusal :=
  s.oliol w (.xorR w rd rs rt) (s.dev.regOp w rd rs rt fun a b => a ^^^ b)

/-- SHL (R203). -/
def execShl (w : Fin 80) (rd rs rt : BitVec 5) (s : State) : Host.Outcome State Fault Refusal :=
  s.oliol w (.shl w rd rs rt) (s.dev.regOp w rd rs rt fun a b => aluShl a b)

/-- SHR (R203). -/
def execShr (w : Fin 80) (rd rs rt : BitVec 5) (s : State) : Host.Outcome State Fault Refusal :=
  s.oliol w (.shr w rd rs rt) (s.dev.regOp w rd rs rt fun a b => aluShr a b)

/-- SAR (R203). -/
def execSar (w : Fin 80) (rd rs rt : BitVec 5) (s : State) : Host.Outcome State Fault Refusal :=
  s.oliol w (.sar w rd rs rt) (s.dev.regOp w rd rs rt fun a b => aluSar a b)

/-- MUL (R203). -/
def execMul (w : Fin 80) (rd rs rt : BitVec 5) (s : State) : Host.Outcome State Fault Refusal :=
  s.oliol w (.mul w rd rs rt) (s.dev.regOp w rd rs rt fun a b => a * b)

/-- MULHU (R203). -/
def execMulhu (w : Fin 80) (rd rs rt : BitVec 5) (s : State) : Host.Outcome State Fault Refusal :=
  s.oliol w (.mulhu w rd rs rt) (s.dev.regOp w rd rs rt fun a b => aluMulhu a b)

/-- MINU (R203). -/
def execMinu (w : Fin 80) (rd rs rt : BitVec 5) (s : State) : Host.Outcome State Fault Refusal :=
  s.oliol w (.minu w rd rs rt) (s.dev.regOp w rd rs rt fun a b => aluMinu a b)

/-- MAXU (R203). -/
def execMaxu (w : Fin 80) (rd rs rt : BitVec 5) (s : State) : Host.Outcome State Fault Refusal :=
  s.oliol w (.maxu w rd rs rt) (s.dev.regOp w rd rs rt fun a b => aluMaxu a b)

/-- SLT (R203). -/
def execSlt (w : Fin 80) (rd rs rt : BitVec 5) (s : State) : Host.Outcome State Fault Refusal :=
  s.oliol w (.slt w rd rs rt) (s.dev.regOp w rd rs rt fun a b => flag (a.slt b))

/-- SLTU (R203). -/
def execSltu (w : Fin 80) (rd rs rt : BitVec 5) (s : State) : Host.Outcome State Fault Refusal :=
  s.oliol w (.sltu w rd rs rt) (s.dev.regOp w rd rs rt fun a b => flag (a.ult b))

/-- SUBSAT (R203). -/
def execSubsat (w : Fin 80) (rd rs rt : BitVec 5) (s : State) : Host.Outcome State Fault Refusal :=
  s.oliol w (.subsat w rd rs rt) (s.dev.regOp w rd rs rt fun a b => aluSubsat a b)

/-- A special register, in the cycle the MFS issues (Table 6-2). -/
def Winder.special (x : Winder) (w idx t : Nat) : Word :=
  match idx with
  | 0 => x.frameNo
  | 1 => BitVec.ofNat 32 (x.cyc0 + t)
  | 2 => BitVec.ofNat 32 (x.rem0 - t)
  | 3 => BitVec.ofNat 32 x.sfc
  | 4 => BitVec.ofNat 32 (x.sfc / 2 ^ 32)
  | 5 => BitVec.ofNat 32 x.allocN
  | 6 => BitVec.ofNat 32 x.port
  | 7 => BitVec.ofNat 32 w
  | _ => 0

/-- MFS (R192). -/
def execMfs (w : Fin 80) (rd idx : BitVec 5) (s : State) : Host.Outcome State Fault Refusal :=
  s.oliol w (.mfs w rd idx) (s.dev.issueW w.val (kG rd) fun t x => ((x.setG rd (x.special w.val idx.toNat t)).writes t 1 (kG rd)).retire t 1)

/-- ADDI (R204). -/
def execAddi (w : Fin 80) (rd rs : BitVec 5) (imm : Half) (s : State) : Host.Outcome State Fault Refusal :=
  s.oliol w (.addi w rd rs imm) (s.dev.immOp w rd rs fun a => a + sextH imm)

/-- ANDI (R204). -/
def execAndi (w : Fin 80) (rd rs : BitVec 5) (imm : Half) (s : State) : Host.Outcome State Fault Refusal :=
  s.oliol w (.andi w rd rs imm) (s.dev.immOp w rd rs fun a => a &&& zextH imm)

/-- ORI (R204). -/
def execOri (w : Fin 80) (rd rs : BitVec 5) (imm : Half) (s : State) : Host.Outcome State Fault Refusal :=
  s.oliol w (.ori w rd rs imm) (s.dev.immOp w rd rs fun a => a ||| zextH imm)

/-- XORI (R204). -/
def execXori (w : Fin 80) (rd rs : BitVec 5) (imm : Half) (s : State) : Host.Outcome State Fault Refusal :=
  s.oliol w (.xori w rd rs imm) (s.dev.immOp w rd rs fun a => a ^^^ zextH imm)

/-- SLTI (R204). -/
def execSlti (w : Fin 80) (rd rs : BitVec 5) (imm : Half) (s : State) : Host.Outcome State Fault Refusal :=
  s.oliol w (.slti w rd rs imm) (s.dev.immOp w rd rs fun a => flag (a.slt (sextH imm)))

/-- SLTIU (R204). -/
def execSltiu (w : Fin 80) (rd rs : BitVec 5) (imm : Half) (s : State) : Host.Outcome State Fault Refusal :=
  s.oliol w (.sltiu w rd rs imm) (s.dev.immOp w rd rs fun a => flag (a.ult (zextH imm)))

/-- SHLI (R204). -/
def execShli (w : Fin 80) (rd rs n : BitVec 5) (s : State) : Host.Outcome State Fault Refusal :=
  s.oliol w (.shli w rd rs n) (s.dev.immOp w rd rs fun a => a <<< n.toNat)

/-- SHRI (R204). -/
def execShri (w : Fin 80) (rd rs n : BitVec 5) (s : State) : Host.Outcome State Fault Refusal :=
  s.oliol w (.shri w rd rs n) (s.dev.immOp w rd rs fun a => a >>> n.toNat)

/-- SARI (R204). -/
def execSari (w : Fin 80) (rd rs n : BitVec 5) (s : State) : Host.Outcome State Fault Refusal :=
  s.oliol w (.sari w rd rs n) (s.dev.immOp w rd rs fun a => a.sshiftRight n.toNat)

/-- RORI (R204). -/
def execRori (w : Fin 80) (rd rs n : BitVec 5) (s : State) : Host.Outcome State Fault Refusal :=
  s.oliol w (.rori w rd rs n) (s.dev.immOp w rd rs fun a => a.rotateRight n.toNat)

/-- LUI (R204). -/
def execLui (w : Fin 80) (rd : BitVec 5) (imm : Half) (s : State) : Host.Outcome State Fault Refusal :=
  s.oliol w (.lui w rd imm) (s.dev.immOp w rd 0 fun _ => zextH imm <<< 16)

end Sys2Proof.Machine
end

