-- ==== Sys2Proof/Machine/Vector.lean ====
section
/-! DEFINITION. Oliol vector and predicate instructions (R211 to R215, Tables 6-11 to 6-14). -/
namespace Sys2Proof.Machine
open Sys2Proof

/-- Lane `i` of source t (R211). -/
def Winder.src (x : Winder) (t : VecSrc) (i : Nat) : Word :=
  match t with
  | .vec n => x.rv n i
  | .sca n => x.rg n
/-- Scoreboard keys of source t. -/
def vecKeys : VecSrc → List Nat
  | .vec n => kV n
  | .sca n => kG n

/-- Lane `i` is active (R211). -/
def Winder.lane (x : Winder) (pr : Pred) (i : Nat) : Bool :=
  match pr with
  | .all => true
  | .merging n => (x.rp n).getLsbD i
  | .zeroing n => (x.rp n).getLsbD i
/-- Inactive lanes are written with zero (R211). -/
def predZero : Pred → Bool
  | .zeroing _ => true
  | _ => false
def predKeys : Pred → List Nat
  | .all => []
  | .merging n => kP n
  | .zeroing n => kP n

/-- Writes a vector register under predication (R211). -/
def Winder.setLanes (x : Winder) (pr : Pred) (vd : BitVec 4) (f : Nat → Word) : Winder :=
  x.setVs vd fun i => if x.lane pr i then f i else if predZero pr then 0 else x.rv vd i

/-- The lanes for which `f` holds, as a predicate value. -/
def laneMask (f : Nat → Bool) : Byte := BitVec.ofNat 8 ((List.range 8).foldl (fun n i => n + b2n (f i) * 2 ^ i) 0)

/-- A VALU instruction (R212). -/
def Dev.valu (d : Dev) (w : Fin 80) (vd vs : BitVec 4) (t : VecSrc) (pr : Pred) (f : Word → Word → Word) : Option Dev :=
  d.issueW w.val (kV vs ++ vecKeys t ++ predKeys pr ++ kV vd) fun n x =>
    ((x.setLanes pr vd fun i => f (x.rv vs i) (x.src t i)).writes n 2 (kV vd)).retire n 1

/-- A VCMP instruction (R213). -/
def Dev.vcmp (d : Dev) (w : Fin 80) (pd : BitVec 2) (vs : BitVec 4) (t : VecSrc) (pr : Pred) (f : Word → Word → Bool) : Option Dev :=
  d.issueW w.val (kV vs ++ vecKeys t ++ predKeys pr ++ kP pd) fun n x =>
    ((x.setP pd (laneMask fun i => x.lane pr i && f (x.rv vs i) (x.src t i))).writes n 2 (kP pd)).retire n 1

/-- A VRED instruction: a scalar from the values of the active lanes, with their lane numbers (R214). Its Z is reserved (Table 6-21). -/
def Dev.vred (d : Dev) (w : Fin 80) (gd : BitVec 5) (vs : BitVec 4) (pr : Pred) (f : List (Nat × Word) → Word) : Option Dev :=
  d.issue w.val (kV vs ++ predKeys pr ++ kG gd) noWait fun n x d1 =>
    let l := ((List.range 8).filter (x.lane pr)).map fun i => (i, x.rv vs i)
    some (d1.setWinder w.val (((x.setG gd (f l)).writes n 2 (kG gd)).retire n 1))

/-- Unsigned minimum and maximum of the active lanes. -/
def redMin (l : List (Nat × Word)) : Word := l.foldl (fun m e => aluMinu m e.2) 0xFFFFFFFF#32
def redMax (l : List (Nat × Word)) : Word := l.foldl (fun m e => aluMaxu m e.2) 0
/-- The lowest lane that holds a value; 8 when none. -/
def laneOfVal (l : List (Nat × Word)) (v : Word) : Word :=
  match l.find? fun e => e.2 == v with
  | some e => BitVec.ofNat 32 e.1
  | none => 8

/-- VADD (R212). -/
def execVadd (w : Fin 80) (vd vs : BitVec 4) (t : VecSrc) (pr : Pred) (s : State) : Host.Outcome State Fault Refusal :=
  s.oliol w (.vadd w vd vs t pr) (s.dev.valu w vd vs t pr fun a b => a + b)

/-- VSUB (R212). -/
def execVsub (w : Fin 80) (vd vs : BitVec 4) (t : VecSrc) (pr : Pred) (s : State) : Host.Outcome State Fault Refusal :=
  s.oliol w (.vsub w vd vs t pr) (s.dev.valu w vd vs t pr fun a b => a - b)

/-- VAND (R212). -/
def execVand (w : Fin 80) (vd vs : BitVec 4) (t : VecSrc) (pr : Pred) (s : State) : Host.Outcome State Fault Refusal :=
  s.oliol w (.vand w vd vs t pr) (s.dev.valu w vd vs t pr fun a b => a &&& b)

/-- VOR (R212). -/
def execVor (w : Fin 80) (vd vs : BitVec 4) (t : VecSrc) (pr : Pred) (s : State) : Host.Outcome State Fault Refusal :=
  s.oliol w (.vor w vd vs t pr) (s.dev.valu w vd vs t pr fun a b => a ||| b)

/-- VXOR (R212). -/
def execVxor (w : Fin 80) (vd vs : BitVec 4) (t : VecSrc) (pr : Pred) (s : State) : Host.Outcome State Fault Refusal :=
  s.oliol w (.vxor w vd vs t pr) (s.dev.valu w vd vs t pr fun a b => a ^^^ b)

/-- VSHL (R212). -/
def execVshl (w : Fin 80) (vd vs : BitVec 4) (t : VecSrc) (pr : Pred) (s : State) : Host.Outcome State Fault Refusal :=
  s.oliol w (.vshl w vd vs t pr) (s.dev.valu w vd vs t pr fun a b => aluShl a b)

/-- VSHR (R212). -/
def execVshr (w : Fin 80) (vd vs : BitVec 4) (t : VecSrc) (pr : Pred) (s : State) : Host.Outcome State Fault Refusal :=
  s.oliol w (.vshr w vd vs t pr) (s.dev.valu w vd vs t pr fun a b => aluShr a b)

/-- VSAR (R212). -/
def execVsar (w : Fin 80) (vd vs : BitVec 4) (t : VecSrc) (pr : Pred) (s : State) : Host.Outcome State Fault Refusal :=
  s.oliol w (.vsar w vd vs t pr) (s.dev.valu w vd vs t pr fun a b => aluSar a b)

/-- VMUL (R212). -/
def execVmul (w : Fin 80) (vd vs : BitVec 4) (t : VecSrc) (pr : Pred) (s : State) : Host.Outcome State Fault Refusal :=
  s.oliol w (.vmul w vd vs t pr) (s.dev.valu w vd vs t pr fun a b => a * b)

/-- VMULHU (R212). -/
def execVmulhu (w : Fin 80) (vd vs : BitVec 4) (t : VecSrc) (pr : Pred) (s : State) : Host.Outcome State Fault Refusal :=
  s.oliol w (.vmulhu w vd vs t pr) (s.dev.valu w vd vs t pr fun a b => aluMulhu a b)

/-- VMINU (R212). -/
def execVminu (w : Fin 80) (vd vs : BitVec 4) (t : VecSrc) (pr : Pred) (s : State) : Host.Outcome State Fault Refusal :=
  s.oliol w (.vminu w vd vs t pr) (s.dev.valu w vd vs t pr fun a b => aluMinu a b)

/-- VMAXU (R212). -/
def execVmaxu (w : Fin 80) (vd vs : BitVec 4) (t : VecSrc) (pr : Pred) (s : State) : Host.Outcome State Fault Refusal :=
  s.oliol w (.vmaxu w vd vs t pr) (s.dev.valu w vd vs t pr fun a b => aluMaxu a b)

/-- VSUBSAT (R212). -/
def execVsubsat (w : Fin 80) (vd vs : BitVec 4) (t : VecSrc) (pr : Pred) (s : State) : Host.Outcome State Fault Refusal :=
  s.oliol w (.vsubsat w vd vs t pr) (s.dev.valu w vd vs t pr fun a b => aluSubsat a b)

/-- VCEQ (R213). -/
def execVceq (w : Fin 80) (pd : BitVec 2) (vs : BitVec 4) (t : VecSrc) (pr : Pred) (s : State) : Host.Outcome State Fault Refusal :=
  s.oliol w (.vceq w pd vs t pr) (s.dev.vcmp w pd vs t pr fun a b => a == b)

/-- VCNE (R213). -/
def execVcne (w : Fin 80) (pd : BitVec 2) (vs : BitVec 4) (t : VecSrc) (pr : Pred) (s : State) : Host.Outcome State Fault Refusal :=
  s.oliol w (.vcne w pd vs t pr) (s.dev.vcmp w pd vs t pr fun a b => a != b)

/-- VCLTU (R213). -/
def execVcltu (w : Fin 80) (pd : BitVec 2) (vs : BitVec 4) (t : VecSrc) (pr : Pred) (s : State) : Host.Outcome State Fault Refusal :=
  s.oliol w (.vcltu w pd vs t pr) (s.dev.vcmp w pd vs t pr fun a b => a.ult b)

/-- VCLT (R213). -/
def execVclt (w : Fin 80) (pd : BitVec 2) (vs : BitVec 4) (t : VecSrc) (pr : Pred) (s : State) : Host.Outcome State Fault Refusal :=
  s.oliol w (.vclt w pd vs t pr) (s.dev.vcmp w pd vs t pr fun a b => a.slt b)

/-- VCGEU (R213). -/
def execVcgeu (w : Fin 80) (pd : BitVec 2) (vs : BitVec 4) (t : VecSrc) (pr : Pred) (s : State) : Host.Outcome State Fault Refusal :=
  s.oliol w (.vcgeu w pd vs t pr) (s.dev.vcmp w pd vs t pr fun a b => !a.ult b)

/-- VCGE (R213). -/
def execVcge (w : Fin 80) (pd : BitVec 2) (vs : BitVec 4) (t : VecSrc) (pr : Pred) (s : State) : Host.Outcome State Fault Refusal :=
  s.oliol w (.vcge w pd vs t pr) (s.dev.vcmp w pd vs t pr fun a b => !a.slt b)

/-- VSEL (R214). -/
def execVsel (w : Fin 80) (vd vs : BitVec 4) (t : VecSrc) (pn : BitVec 2) (s : State) : Host.Outcome State Fault Refusal :=
  s.oliol w (.vsel w vd vs t pn) (s.dev.issueW w.val (kV vs ++ vecKeys t ++ kP pn ++ kV vd) fun n x =>
    ((x.setVs vd fun i => if (x.rp pn).getLsbD i then x.rv vs i else x.src t i).writes n 2 (kV vd)).retire n 1)

/-- VRSUM (R214). -/
def execVrsum (w : Fin 80) (gd : BitVec 5) (vs : BitVec 4) (pr : Pred) (s : State) : Host.Outcome State Fault Refusal :=
  s.oliol w (.vrsum w gd vs pr) (s.dev.vred w gd vs pr fun l => l.foldl (fun m e => m + e.2) 0)

/-- VRMINU (R214). -/
def execVrminu (w : Fin 80) (gd : BitVec 5) (vs : BitVec 4) (pr : Pred) (s : State) : Host.Outcome State Fault Refusal :=
  s.oliol w (.vrminu w gd vs pr) (s.dev.vred w gd vs pr fun l => redMin l)

/-- VRMAXU (R214). -/
def execVrmaxu (w : Fin 80) (gd : BitVec 5) (vs : BitVec 4) (pr : Pred) (s : State) : Host.Outcome State Fault Refusal :=
  s.oliol w (.vrmaxu w gd vs pr) (s.dev.vred w gd vs pr fun l => redMax l)

/-- VRMINI (R214). -/
def execVrmini (w : Fin 80) (gd : BitVec 5) (vs : BitVec 4) (pr : Pred) (s : State) : Host.Outcome State Fault Refusal :=
  s.oliol w (.vrmini w gd vs pr) (s.dev.vred w gd vs pr fun l => laneOfVal l (redMin l))

/-- VRMAXI (R214). -/
def execVrmaxi (w : Fin 80) (gd : BitVec 5) (vs : BitVec 4) (pr : Pred) (s : State) : Host.Outcome State Fault Refusal :=
  s.oliol w (.vrmaxi w gd vs pr) (s.dev.vred w gd vs pr fun l => laneOfVal l (redMax l))

/-- VBC (R214). -/
def execVbc (w : Fin 80) (vd : BitVec 4) (gs : BitVec 5) (pr : Pred) (s : State) : Host.Outcome State Fault Refusal :=
  s.oliol w (.vbc w vd gs pr) (s.dev.issueW w.val (kG gs ++ predKeys pr ++ kV vd) fun n x =>
    ((x.setLanes pr vd fun _ => x.rg gs).writes n 2 (kV vd)).retire n 1)

/-- VIDX (R214). -/
def execVidx (w : Fin 80) (vd : BitVec 4) (pr : Pred) (s : State) : Host.Outcome State Fault Refusal :=
  s.oliol w (.vidx w vd pr) (s.dev.issueW w.val (predKeys pr ++ kV vd) fun n x =>
    ((x.setLanes pr vd fun i => BitVec.ofNat 32 i).writes n 2 (kV vd)).retire n 1)

/-- VINS (R214). -/
def execVins (w : Fin 80) (vd : BitVec 4) (gs : BitVec 5) (k : BitVec 3) (s : State) : Host.Outcome State Fault Refusal :=
  s.oliol w (.vins w vd gs k) (s.dev.issueW w.val (kG gs ++ kV vd) fun n x =>
    ((x.setV vd k.toNat (x.rg gs)).writes n 2 (kV vd)).retire n 1)

/-- VEXT (R214). -/
def execVext (w : Fin 80) (gd : BitVec 5) (vs : BitVec 4) (k : BitVec 3) (s : State) : Host.Outcome State Fault Refusal :=
  s.oliol w (.vext w gd vs k) (s.dev.issueW w.val (kV vs ++ kG gd) fun n x =>
    ((x.setG gd (x.rv vs k.toNat)).writes n 2 (kG gd)).retire n 1)

/-- A VPRED instruction with a predicate destination (R215): latency 1. -/
def Dev.vpred (d : Dev) (w : Fin 80) (pd : BitVec 2) (keys : List Nat) (f : Winder → Byte) : Option Dev :=
  d.issueW w.val (keys ++ kP pd) fun n x => ((x.setP pd (f x)).writes n 1 (kP pd)).retire n 1

/-- A VPRED instruction with a scalar destination (R215). -/
def Dev.vpredG (d : Dev) (w : Fin 80) (gd : BitVec 5) (ps : BitVec 2) (f : Byte → Word) : Option Dev :=
  d.issueW w.val (kP ps ++ kG gd) fun n x => ((x.setG gd (f (x.rp ps))).writes n 1 (kG gd)).retire n 1

/-- PAND (R215). -/
def execPand (w : Fin 80) (pd ps pt : BitVec 2) (s : State) : Host.Outcome State Fault Refusal :=
  s.oliol w (.pand w pd ps pt) (s.dev.vpred w pd (kP ps ++ kP pt) fun x => x.rp ps &&& x.rp pt)

/-- POR (R215). -/
def execPor (w : Fin 80) (pd ps pt : BitVec 2) (s : State) : Host.Outcome State Fault Refusal :=
  s.oliol w (.por w pd ps pt) (s.dev.vpred w pd (kP ps ++ kP pt) fun x => x.rp ps ||| x.rp pt)

/-- PXOR (R215). -/
def execPxor (w : Fin 80) (pd ps pt : BitVec 2) (s : State) : Host.Outcome State Fault Refusal :=
  s.oliol w (.pxor w pd ps pt) (s.dev.vpred w pd (kP ps ++ kP pt) fun x => x.rp ps ^^^ x.rp pt)

/-- PANDN (R215). -/
def execPandn (w : Fin 80) (pd ps pt : BitVec 2) (s : State) : Host.Outcome State Fault Refusal :=
  s.oliol w (.pandn w pd ps pt) (s.dev.vpred w pd (kP ps ++ kP pt) fun x => x.rp ps &&& ~~~x.rp pt)

/-- PSET (R215). -/
def execPset (w : Fin 80) (pd : BitVec 2) (imm : Byte) (s : State) : Host.Outcome State Fault Refusal :=
  s.oliol w (.pset w pd imm) (s.dev.vpred w pd [] fun _ => imm)

/-- PFIRST (R215). -/
def execPfirst (w : Fin 80) (pd ps : BitVec 2) (s : State) : Host.Outcome State Fault Refusal :=
  s.oliol w (.pfirst w pd ps) (s.dev.vpred w pd (kP ps) fun x => x.rp ps &&& -(x.rp ps))

/-- PCNT (R215). -/
def execPcnt (w : Fin 80) (gd : BitVec 5) (ps : BitVec 2) (s : State) : Host.Outcome State Fault Refusal :=
  s.oliol w (.pcnt w gd ps) (s.dev.vpredG w gd ps fun b => BitVec.ofNat 32 ((List.range 8).filter fun i => b.getLsbD i).length)

/-- PTOG (R215). -/
def execPtog (w : Fin 80) (gd : BitVec 5) (ps : BitVec 2) (s : State) : Host.Outcome State Fault Refusal :=
  s.oliol w (.ptog w gd ps) (s.dev.vpredG w gd ps fun b => b.zeroExtend 32)

/-- PFROMG (R215). -/
def execPfromg (w : Fin 80) (pd : BitVec 2) (gs : BitVec 5) (s : State) : Host.Outcome State Fault Refusal :=
  s.oliol w (.pfromg w pd gs) (s.dev.vpred w pd (kG gs) fun x => (x.rg gs).setWidth 8)

end Sys2Proof.Machine
end

