-- ==== Sys2Proof/Machine/Sched.lean ====
section
/-! DEFINITION. Oliol system and scheduling instructions (R216, R219 to R237, Tables 6-15, 7-1, 7-2). -/
namespace Sys2Proof.Machine
open Sys2Proof

/-! ### System (R216) -/

/-- WAIT (R216): the next instruction issues in the first cycle with CYC >= t, at the earliest in the next one. -/
def execWait (w : Fin 80) (rs : BitVec 5) (imm : Half) (s : State) : Host.Outcome State Fault Refusal :=
  s.oliol w (.wait w rs imm) (s.dev.issueW w.val (kG rs) fun n x =>
    let tgt := (x.rg rs + zextH imm).toNat
    x.retire n (max 1 (tgt - x.cyc0 - n)))

/-- SAMPLE (R216, R459). -/
def execSample (w : Fin 80) (tag : Half) (s : State) : Host.Outcome State Fault Refusal :=
  s.oliol w (.sample w tag) (s.dev.issue w.val [] noWait fun n x d => some ((d.profMark w.val n tag).setWinder w.val (x.retire n 1)))

/-- HALT (R216): the run ends; the map is a missed seal with reason 1 (R179). -/
def execHalt (w : Fin 80) (s : State) : Host.Outcome State Fault Refusal :=
  s.oliol w (.halt w) (s.dev.issue w.val [] noWait fun n x d => some ((d.setWinder w.val { x with cycle := n }).endRun x.port .halted))

/-! ### Virtual time (R223 to R225) -/

/-- One finish tag (R224). -/
def finishTag (v : Word) (shift : Nat) (cont : Bool) (prev bytes weight : Word) : Word :=
  let start := if cont && !(prev - v).msb then prev else v
  let cost := if weight = 0 then 2 ^ 30 else min (ceilDiv (bytes.toNat * 2 ^ shift) weight.toNat) (2 ^ 30)
  start + BitVec.ofNat 32 cost

/-- A lane continues from its previous tag (R224). -/
def Winder.cont (x : Winder) (pr : Pred) (i : Nat) : Bool := x.lane pr i

/-- VFT (R224): every lane is written. -/
def execVft (w : Fin 80) (vd vs : BitVec 4) (t : VecSrc) (pr : Pred) (s : State) : Host.Outcome State Fault Refusal :=
  s.oliol w (.vft w vd vs t pr) (s.dev.issue w.val (kV vs ++ vecKeys t ++ predKeys pr ++ kV vd) noWait fun n x d =>
    let p := (d.port x.port).wnd
    some (d.setWinder w.val (((x.setVs vd fun i =>
      finishTag p.v p.shift (x.cont pr i) (x.rv vd i) (x.rv vs i) (x.src t i)).writes n 4 (kV vd)).retire n 1)))

/-- Changes the winder side of the tree port that a winder serves. -/
def Dev.modWnd (d : Dev) (p : Nat) (f : WndPort → WndPort) : Dev := d.modPort p fun q => { q with wnd := f q.wnd }

/-- VTNOW (R225). -/
def execVtnow (w : Fin 80) (rd : BitVec 5) (s : State) : Host.Outcome State Fault Refusal :=
  s.oliol w (.vtnow w rd) (s.dev.issue w.val (kG rd) noWait fun n x d =>
    some (d.setWinder w.val (((x.setG rd (d.port x.port).wnd.v).writes n 1 (kG rd)).retire n 1)))

/-- V after VTADV (R225). -/
def advV (v g : Word) : Word := if g - v ≠ 0 ∧ (g - v).msb = false then g else v

/-- VTADV (R225). -/
def execVtadv (w : Fin 80) (rd rs : BitVec 5) (s : State) : Host.Outcome State Fault Refusal :=
  s.oliol w (.vtadv w rd rs) (s.dev.issue w.val (kG rs ++ kG rd) noWait fun n x d =>
    let v := advV (d.port x.port).wnd.v (x.rg rs)
    some ((d.modWnd x.port fun p => { p with v := v }).setWinder w.val (((x.setG rd v).writes n 1 (kG rd)).retire n 1)))

/-- VTSET (R225). -/
def execVtset (w : Fin 80) (rs : BitVec 5) (s : State) : Host.Outcome State Fault Refusal :=
  s.oliol w (.vtset w rs) (s.dev.issue w.val (kG rs) noWait fun n x d =>
    some ((d.modWnd x.port fun p => { p with v := x.rg rs }).setWinder w.val (x.retire n 1)))

/-- VTSHIFT (R225). -/
def execVtshift (w : Fin 80) (rs : BitVec 5) (s : State) : Host.Outcome State Fault Refusal :=
  s.oliol w (.vtshift w rs) (s.dev.issue w.val (kG rs) noWait fun n x d =>
    some ((d.modWnd x.port fun p => { p with shift := (x.rg rs).toNat % 16 }).setWinder w.val (x.retire n 1)))

/-! ### The calendar wheel (R226 to R228) -/

/-- The calendar is free (R220). -/
def calAt (x : Winder) (t : Nat) : Nat := max t x.calFree

/-- The link word of record `r` (R226). -/
def Winder.link (x : Winder) (r : Nat) : Half := BitVec.ofNat 16 ((x.lw (0xE000 + 2 * r)).toNat / 2 ^ (16 * (r % 2)))
/-- Writes the link word of record `r`. -/
def Winder.setLink (x : Winder) (r : Nat) (v : Half) : Winder :=
  let a := 0xE000 + 2 * r
  let o := (x.lw a).toNat
  let k := 2 ^ (16 * (r % 2))
  x.setLw a (BitVec.ofNat 32 (o - o / k % 2 ^ 16 * k + v.toNat * k))
/-- MEMBER of record `r`. -/
def Winder.member (x : Winder) (r : Nat) : Bool := (x.link r).getLsbD 15
/-- NEXT of record `r`. -/
def Winder.nextRec (x : Winder) (r : Nat) : Nat := (x.link r).toNat % 4096

def WndPort.slot (p : WndPort) (k : Nat) : CalSlot := sget (fun _ => {}) p.cal k
def WndPort.setSlot (p : WndPort) (k : Nat) (c : CalSlot) : WndPort := { p with cal := sset (fun _ => {}) p.cal k c }

/-- Appends record `r`, whose NEXT the manual leaves open, to the tail of slot `k` (R227). -/
def calAppend (x : Winder) (p : WndPort) (k r next : Nat) : Winder × WndPort :=
  let c := p.slot k
  let x1 := x.setLink r (BitVec.ofNat 16 (0x8000 + next))
  let x2 := if c.count = 0 then x1 else x1.setLink c.tail (BitVec.ofNat 16 ((x1.link c.tail).toNat / 2 ^ 12 * 2 ^ 12 + r))
  (x2, p.setSlot k { head := if c.count = 0 then r else c.head, tail := r, count := c.count + 1 })

/-- An instruction of the calendar issues. A calendar that Table 7-9 leaves open may hold anything at each use. -/
def Dev.calIssue (d : Dev) (w : Fin 80) (keys : List Nat) (f : Nat → Winder → Dev → Option Dev) : Option Dev :=
  d.issue w.val keys calAt fun n x d0 =>
    if (d0.port x.port).wnd.calOpen then
      let d1 := d0.spoil (.calendar x.port w.val)
      f n { x with lmem := (d1.winder w.val).lmem } d1
    else f n x d0

/-- CALINS (R227). -/
def execCalins (w : Fin 80) (rd rs rt : BitVec 5) (s : State) : Host.Outcome State Fault Refusal :=
  s.oliol w (.calins w rd rs rt) (s.dev.calIssue w (kG rs ++ kG rt ++ kG rd) fun n x d =>
    let k := (x.rg rs).toNat % 1024
    let r := (x.rg rt).toNat % 4096
    let fin (x : Winder) (v : Word) : Winder := (({ x with calFree := n + 3 }.setG rd v).writes n 4 (kG rd)).retire n 1
    if x.member r then some (d.setWinder w.val (fin x 0xFFFFFFFF#32))
    else
      let (nx, d1) := d.pick 12
      let (x1, p1) := calAppend x (d1.port x.port).wnd k r nx
      some ((d1.modWnd x.port fun _ => p1).setWinder w.val (fin x1 (BitVec.ofNat 32 (p1.slot k).count))))

/-- CALPOP (R228). -/
def execCalpop (w : Fin 80) (rd rs : BitVec 5) (s : State) : Host.Outcome State Fault Refusal :=
  s.oliol w (.calpop w rd rs) (s.dev.calIssue w (kG rs ++ kG rd) fun n x d =>
    let k := (x.rg rs).toNat % 1024
    let c := (d.port x.port).wnd.slot k
    let fin (x : Winder) (v : Word) : Winder := (({ x with calFree := n + 3 }.setG rd v).writes n 5 (kG rd)).retire n 1
    if c.count = 0 then some (d.setWinder w.val (fin x 0xFFFFFFFF#32))
    else
      let x1 := x.setLink c.head (BitVec.ofNat 16 ((x.link c.head).toNat % 2 ^ 15))
      let c1 : CalSlot := if c.count = 1 then {} else { c with head := x.nextRec c.head, count := c.count - 1 }
      some ((d.modWnd x.port fun p => p.setSlot k c1).setWinder w.val (fin x1 (BitVec.ofNat 32 c.head))))

/-- CALCNT (R228). -/
def execCalcnt (w : Fin 80) (rd rs : BitVec 5) (s : State) : Host.Outcome State Fault Refusal :=
  s.oliol w (.calcnt w rd rs) (s.dev.calIssue w (kG rs ++ kG rd) fun n x d =>
    let v := BitVec.ofNat 32 ((d.port x.port).wnd.slot ((x.rg rs).toNat % 1024)).count
    some (d.setWinder w.val ((({ x with calFree := n + 3 }.setG rd v).writes n 5 (kG rd)).retire n 1)))

/-! ### Reports (R229) -/

/-- RPTGET (R229). With rd = rt the manual does not say which of the two results stays. -/
def execRptget (w : Fin 80) (rd rt : BitVec 5) (s : State) : Host.Outcome State Fault Refusal :=
  s.oliol w (.rptget w rd rt) (s.dev.issue w.val (kG rd ++ kG rt) noWait fun n x d =>
    let l := (d.port x.port).wnd.rptSet
    let a : Word := match l with | [] => 0xFFFFFFFF#32 | r :: _ => BitVec.ofNat 32 r.ri
    let b : Word := match l with | [] => 0 | r :: _ => BitVec.ofNat 32 r.bytes
    let d1 := d.modWnd x.port fun p => { p with rptSet := l.drop 1, rptFetched := p.rptFetched ++ l.take 1 }
    let (f, d2) := if rd = rt then d1.pick 1 else (0, d1)
    let y := if rd = rt then x.setG rd (if f = 0 then a else b) else (x.setG rd a).setG rt b
    some (d2.setWinder w.val ((y.writes n 6 (kG rd ++ kG rt)).retire n 1)))

/-- RPTCNT (R229). -/
def execRptcnt (w : Fin 80) (rd : BitVec 5) (s : State) : Host.Outcome State Fault Refusal :=
  s.oliol w (.rptcnt w rd) (s.dev.issue w.val (kG rd) noWait fun n x d =>
    some (d.setWinder w.val (((x.setG rd (BitVec.ofNat 32 (d.port x.port).wnd.rptSet.length)).writes n 6 (kG rd)).retire n 1)))

/-! ### Grants, windows, the precedence cut, SEAL (R230 to R237) -/

/-- The result of GRANT (R231). Bits [15:8] cannot hold more than 255 grants displaced; they hold the number modulo 256 (DESIGN CHOICE, log
entry 48). -/
def GrantRes.word : GrantRes → Word
  | .accepted n => BitVec.ofNat 32 (n % 256 * 256)
  | .rejected c => BitVec.ofNat 32 c

/-- Profile, flags, start and size of a GRANT (Table 7-4); with an RSV bit set the grant may take any (Table 7-9). -/
def Dev.grantOps (d : Dev) (a b : Nat) : (Nat × Nat × Nat × Nat) × Dev :=
  if a / 2 ^ 20 = 0 && a / 2 ^ 14 % 4 = 0 then ((a / 2 ^ 12 % 4, a / 2 ^ 16 % 16, b % 2 ^ 16, b / 2 ^ 16), d)
  else
    let (x, d1) := d.pick 38
    ((x % 4, x / 4 % 16, x / 64 % 2 ^ 16, x / 2 ^ 22), d1)

/-- Lane, RESERVE, start and free size and profile of a RNGWIN (R232); with an RSV bit set the window may take any (Table 7-9). -/
def Dev.rngOps (d : Dev) (a b : Nat) : (Lane × Nat × Nat × Option (Nat × Nat)) × Dev :=
  if a / 2 % 2 ^ 15 = 0 && b / 2 ^ 16 = 0 then ((laneOf (a % 2), a / 2 ^ 16, b, none), d)
  else
    let (x, d1) := d.pick 37
    ((laneOf (x % 2), 0, x / 8 % 2 ^ 16, some (x / 2 % 4, x / 2 ^ 19)), d1)

/-- GRANT (R230, R231). -/
def execGrant (w : Fin 80) (rd rs rt : BitVec 5) (s : State) : Host.Outcome State Fault Refusal :=
  s.oliol w (.grant w rd rs rt) (s.dev.issue w.val (kG rs ++ kG rt ++ kG rd) noWait fun n x d =>
    let a := (x.rg rs).toNat
    let b := (x.rg rt).toNat
    let (o, d0) := d.grantOps a b
    let (r, d1) := d0.grant x.port (a % 4096) o.1 o.2.1 o.2.2.1 o.2.2.2
    some (d1.setWinder w.val (((x.setG rd r.word).writes n 20 (kG rd)).retire n 2)))

/-- RNGWIN (R232). -/
def execRngwin (w : Fin 80) (rd rs rt : BitVec 5) (s : State) : Host.Outcome State Fault Refusal :=
  s.oliol w (.rngwin w rd rs rt) (s.dev.issue w.val (kG rs ++ kG rt ++ kG rd) noWait fun n x d =>
    let a := (x.rg rs).toNat
    let b := (x.rg rt).toNat
    let (o, d0) := d.rngOps a b
    let r := (d0.port x.port).placeWindow o.1 o.2.1 o.2.2.1 o.2.2.2
    some ((d0.windowPlaced x.port r).setWinder w.val (((x.setG rd (BitVec.ofNat 32 r.val)).writes n 24 (kG rd)).retire n 24)))

/-- RNGTAIL (R234). -/
def execRngtail (w : Fin 80) (rd rs : BitVec 5) (s : State) : Host.Outcome State Fault Refusal :=
  s.oliol w (.rngtail w rd rs) (s.dev.issue w.val (kG rs ++ kG rd) noWait fun n x d =>
    let t := ((d.port x.port).lane (laneOf ((x.rg rs).toNat % 2))).map.tail
    some (d.setWinder w.val (((x.setG rd (BitVec.ofNat 32 t)).writes n 4 (kG rd)).retire n 1)))

/-- No allocation-table load is outstanding, and both ports are free (R220). -/
def precutAt (x : Winder) (t : Nat) : Nat := x.loads.foldl max (max (max t x.portFree) x.localFree)

/-- The PRECUT list at local address `a` (Table 7-5); none when it breaks Table 7-9. -/
def Winder.cutList (x : Winder) (a : Nat) : Option (List Demand) :=
  let h := (x.lw a).toNat
  if 4096 < h || lmemSize < a + 4 + 8 * h then none
  else
    let e (k : Nat) : Word × Nat := (x.lw (a + 4 + 8 * k), (x.lw (a + 8 + 8 * k)).toNat)
    let l := (List.range h).map e
    if l.any fun v => decide (4096 ≤ v.1.toNat) then none
    else
      let ds := l.map fun v => (⟨v.1.toNat, v.2 % 2 ^ 16, v.2 / 2 ^ 16⟩ : Demand)
      if (ds.map (·.ri)).eraseDups.length < ds.length then none else some ds

/-- Word 1 of every cut entry is rewritten (R235). -/
def Winder.writeCuts (x : Winder) (a : Nat) (l : List Demand) (cuts : List (Nat × Nat × Nat)) : Winder :=
  l.zipIdx.foldl (fun x e =>
    match cuts.find? fun c => c.1 == e.1.ri with
    | none => x
    | some c => x.setLw (a + 8 + 8 * e.2) (BitVec.ofNat 32 (c.2.2 + (if c.2.2 = 0 then 0 else e.1.ovh) * 2 ^ 16))) x

/-- PRECUT of a list that breaks Table 7-9: the total, the rewritten list, the marks and the time it takes may be anything. -/
def Dev.precutOdd (d : Dev) (w : Fin 80) (n : Nat) (x : Winder) (rd : BitVec 5) : Dev :=
  let (tot, d1) := d.pick 32
  let (c, d2) := d1.pick 17
  let d3 := d2.spoil (.fixed x.port w.val)
  let cost := max 24 c
  let y := { x with lmem := (d3.winder w.val).lmem, portFree := n + cost, localFree := n + cost }
  d3.setWinder w.val (((y.setG rd (BitVec.ofNat 32 tot)).writes n cost (kG rd)).retire n cost)

/-- PRECUT (R235, R236). -/
def execPrecut (w : Fin 80) (rd rs rt : BitVec 5) (s : State) : Host.Outcome State Fault Refusal :=
  s.oliol w (.precut w rd rs rt) (s.dev.issue w.val (kG rs ++ kG rt ++ kG rd) precutAt fun n x d =>
    let a := (x.rg rs &&& 0xFFFFFFFC#32).toNat
    match x.cutList a with
    | none => some (d.precutOdd w n x rd)
    | some l =>
      let cuts := precut (d.port x.port).wnd l (x.rg rt).toNat
      let tot := cuts.foldl (fun m c => m + c.2.1) 0
      let cost := 24 + 3 * l.length + 16 * cuts.length
      let y := { (x.writeCuts a l cuts) with portFree := n + cost, localFree := n + cost }
      let d1 := (d.modWnd x.port fun p => { p with marks := cuts.foldl (fun m c => addMark m c.1 c.2.1) p.marks }).setWinder w.val
        (((y.setG rd (BitVec.ofNat 32 tot)).writes n cost (kG rd)).retire n cost)
      let top := l.zipIdx.foldl (fun m e => if cuts.any fun c => c.1 == e.1.ri then max m (a + 8 + 8 * e.2) else m) 0
      some (d1.calStored w.val x.port top))

/-- SEAL (R163, R237). Below 16 cycles of SEALREM the device may honour it or treat it as missed (R161): `inTime` says which. -/
def execSealMap (w : Fin 80) (inTime : Bool) (s : State) : Host.Outcome State Fault Refusal :=
  s.oliol w (.sealMap w inTime) (s.dev.issue w.val [] noWait fun n x d =>
    let sealrem := x.rem0 - n
    let d1 := d.setWinder w.val { x with cycle := n }
    if 16 ≤ sealrem || inTime then some (d1.sealMaps x.port sealrem)
    else some (d1.modWinder w.val fun x => { x with running := false }))

end Sys2Proof.Machine
end

