-- ==== Sys2Proof/Machine/TreeRows.lean ====
section
/-! DEFINITION. The event rows of the tree side (chapters 03 to 08). -/
namespace Sys2Proof.Machine
open Sys2Proof

/-- FRAME_START (R94). -/
def execFrameStart (p : Fin 64) (s : State) : Host.Outcome State Fault Refusal :=
  s.atPort p.val fun d => (d.frameStart p.val).mirrorSince d p.val

/-- DS_FRAME_RECEIVE (R97). -/
def execDsFrameReceive (p : Fin 64) (s : State) : Host.Outcome State Fault Refusal :=
  s.atPort p.val fun d => d.dsReceive p.val

/-- REPORT_CUTOFF (R171). -/
def execReportCutoff (p : Fin 64) (s : State) : Host.Outcome State Fault Refusal :=
  s.yielding (bringsReport p.val) (.reportCutoff p) fun d => if d.portUp p.val then d.reportCutoff p.val else d

/-- PROGRAM_START (R162). -/
def execProgramStart (p : Fin 64) (cyc rem : Nat) (s : State) : Host.Outcome State Fault Refusal :=
  s.atPort p.val fun d => d.programStartRow p.val cyc rem

/-- SEAL_POINT (R179). -/
def execSealPoint (p : Fin 64) (s : State) : Host.Outcome State Fault Refusal :=
  s.atPort p.val fun d => (d.sealPoint p.val).mirrorSince d p.val

/-- CHECKPOINT_COMPLETE (R184). -/
def execCheckpointComplete (p : Fin 64) (s : State) : Host.Outcome State Fault Refusal :=
  s.atPort p.val fun d => d.modPort p.val fun q => { q with wnd := q.wnd.ckptDone }

/-- WINDER_WATCHDOG_TRIP (R183). -/
def execWinderWatchdogTrip (w : Fin 80) (s : State) : Host.Outcome State Fault Refusal :=
  s.atWinder w.val fun d => d.winderFault w.val 3

/-- WINDER_FAULT (R183). -/
def execWinderFault (w : Fin 80) (data : Bool) (s : State) : Host.Outcome State Fault Refusal :=
  s.atWinder w.val fun d => d.winderFault w.val (if data then 2 else 1)

/-- WND_SPARE_TAKEOVER (R183). -/
def execWndSpareTakeover (p : Fin 64) (cyc rem : Nat) (s : State) : Host.Outcome State Fault Refusal :=
  s.atPort p.val fun d => d.spareTakeover p.val cyc rem

/-- SPARE_SELF_TEST (R183). -/
def execSpareSelfTest (w : Fin 80) (pass : Bool) (s : State) : Host.Outcome State Fault Refusal :=
  s.atWinder w.val fun d => d.spareSelfTest w.val pass

/-- BRST_PULSE (R110). -/
def execBrstPulse (p : Fin 64) (slot : Nat) (s : State) : Host.Outcome State Fault Refusal :=
  s.atPort p.val fun d => d.brstPulse p.val slot

/-- RSSI_TRIG_FIRE (R114). -/
def execRssiTrigFire (p : Fin 64) (slot : Nat) (s : State) : Host.Outcome State Fault Refusal :=
  s.atPort p.val fun d => d.rssiFire p.val slot

/-- BURST_ACQUISITION (R241). -/
def execBurstAcquisition (p : Fin 64) (slot : Nat) (o : BurstObs) (s : State) : Host.Outcome State Fault Refusal :=
  s.atPort p.val fun d => (d.acquire p.val slot o).mirrorSince d p.val

/-- STEP_WATCH_END (R150). -/
def execStepWatchEnd (p : Fin 64) (s : State) : Host.Outcome State Fault Refusal :=
  s.atPort p.val fun d => (d.stepWatchEnd p.val).mirrorSince d p.val

/-- CORRECTION_RESEND (R146). -/
def execCorrectionResend (p : Fin 64) (t : BitVec 10) (s : State) : Host.Outcome State Fault Refusal :=
  s.atPort p.val fun d => (d.correctionResend p.val t.toNat).mirrorSince d p.val

/-- DISCOVERY_REQUEST (R134). -/
def execDiscoveryRequest (p : Fin 64) (lane : Lane) (s : State) : Host.Outcome State Fault Refusal :=
  s.atPort p.val fun d => d.modPort p.val fun q => discoveryPost q lane

/-- DISCOVERY_WINDOW (R137). -/
def execDiscoveryWindow (p : Fin 64) (lane : Lane) (sd : Bool) (found : List SnResponse) (s : State) : Host.Outcome State Fault Refusal :=
  s.atPort p.val fun d => (d.puntResponses s.mem p.val lane false (found.map (·.msg))).discoveryWindow p.val lane sd found

/-- RANGING_WINDOW (R139). -/
def execRangingWindow (p : Fin 64) (lane : Lane) (resp : Option (Int × Bytes)) (s : State) : Host.Outcome State Fault Refusal :=
  s.atPort p.val fun d =>
    ((d.puntResponses s.mem p.val lane true (resp.toList.map (·.2))).rangingWindow p.val lane (resp.map (·.1))).mirrorSince d p.val

/-- RANGING_LIMIT_EXPIRY (R139). -/
def execRangingLimitExpiry (p : Fin 64) (t : BitVec 10) (s : State) : Host.Outcome State Fault Refusal :=
  s.timeout (.rangingLimitExpiry p t) fun d => if d.portUp p.val then (d.rangingLimit p.val t.toNat).mirrorSince d p.val else d

/-- LDPC_DISPATCH (R245). -/
def execLdpcDispatch (c : Fin 16) (s : State) : Host.Outcome State Fault Refusal :=
  s.atCluster c.val fun d => d.ldpcDispatch c.val

/-- LDPC_DECODE_DONE (R246). -/
def execLdpcDecodeDone (d : Fin 80) (o : DecodeObs) (s : State) : Host.Outcome State Fault Refusal :=
  s.atDecoder d.val fun dd => dd.decodeDone d.val o

/-- DECODER_FAULT (R248). -/
def execDecoderFault (d : Fin 80) (s : State) : Host.Outcome State Fault Refusal :=
  s.atDecoder d.val fun dd => dd.decoderFault d.val 3

/-- DECODER_HOLD_TIMEOUT (R248). -/
def execDecoderHoldTimeout (d : Fin 80) (s : State) : Host.Outcome State Fault Refusal :=
  s.atDecoder d.val fun dd => if (dd.dec d.val).held.isSome then dd.decoderFault d.val 2 else dd

/-- BURST_DELINEATION (R250). -/
def execBurstDelineation (p : Fin 64) (slot : Nat) (items : List PlacedItem) (s : State) : Host.Outcome State Fault Refusal :=
  s.atPort p.val fun d => d.burstDelineation s.mem p.val slot items

/-- REASSEMBLY_TIMEOUT (R254). -/
def execReassemblyTimeout (p : Fin 64) (flow : BitVec 14) (s : State) : Host.Outcome State Fault Refusal :=
  s.atPort p.val fun d => d.reasmTimeout p.val flow.toNat

/-- LANE_DRAIN_END (R120). -/
def execLaneDrainEnd (p : Fin 64) (lane : Lane) (s : State) : Host.Outcome State Fault Refusal :=
  s.atPort p.val fun d => (d.drainEnd p.val lane).mirrorSince d p.val

/-- MODULE_I2C_DONE (R124). -/
def execModuleI2cDone (c : Fin 16) (o : I2cOutcome) (s : State) : Host.Outcome State Fault Refusal :=
  s.yielding (fun _ => o == .noAnswer) (.moduleI2cDone c o) fun d => if d.portUp (4 * c.val) then d.i2cDone c.val o else d

/-- I2C_MASTER_FAULT (R28). -/
def execI2cMasterFault (c : Fin 16) (s : State) : Host.Outcome State Fault Refusal :=
  s.atCluster c.val fun d => d.i2cFault c.val

end Sys2Proof.Machine
end

