-- ==== Sys2Proof/Machine/Dispatch.lean ====
section
/-! DEFINITION. The effect of every command: one arm per row of the opcode table. -/
namespace Sys2Proof.Machine
open Sys2Proof

/-- The effect of a command on everything but the queue. -/
def exec (i : Instr) (s : State) : Host.Outcome State Fault Refusal :=
  match i with
  | .nop c obj => Sys2Proof.Machine.execNop c obj s
  | .waitTime c obj sec ns => Sys2Proof.Machine.execWaitTime c obj sec ns s
  | .waitEvent c obj typ src mask limit => Sys2Proof.Machine.execWaitEvent c obj typ src mask limit s
  | .readReg c obj off count => Sys2Proof.Machine.execReadReg c obj off count s
  | .writeReg c obj off value mask => Sys2Proof.Machine.execWriteReg c obj off value mask s
  | .readState c obj addr len => Sys2Proof.Machine.execReadState c obj addr len s
  | .resetScope c obj => Sys2Proof.Machine.execResetScope c obj s
  | .treeEnable c obj lanes => Sys2Proof.Machine.execTreeEnable c obj lanes s
  | .treeDisable c obj lanes => Sys2Proof.Machine.execTreeDisable c obj lanes s
  | .treeLaneSet c obj mainGen compGen gflags => Sys2Proof.Machine.execTreeLaneSet c obj mainGen compGen gflags s
  | .treeProfileSet c obj a => Sys2Proof.Machine.execTreeProfileSet c obj a s
  | .treeKeyLoad c obj slot key => Sys2Proof.Machine.execTreeKeyLoad c obj slot key s
  | .treeKeySwitch c obj slot sfc => Sys2Proof.Machine.execTreeKeySwitch c obj slot sfc s
  | .treeBcastKeyLoad c obj slot keyIdx key => Sys2Proof.Machine.execTreeBcastKeyLoad c obj slot keyIdx key s
  | .treePloamSend c obj msg => Sys2Proof.Machine.execTreePloamSend c obj msg s
  | .treeModuleI2c c obj op addr ofs len data => Sys2Proof.Machine.execTreeModuleI2c c obj op addr ofs len data s
  | .rngDiscover c obj lane profile window far period count => Sys2Proof.Machine.execRngDiscover c obj lane profile window far period count s
  | .rngTerminalAdd c obj serial lane rflags profile hint tresp limit => Sys2Proof.Machine.execRngTerminalAdd c obj serial lane rflags profile hint tresp limit s
  | .rngTerminalRemove c obj => Sys2Proof.Machine.execRngTerminalRemove c obj s
  | .rngTrunkSet c obj dly asymM asymC tflags => Sys2Proof.Machine.execRngTrunkSet c obj dly asymM asymC tflags s
  | .rngTrunkConfirm c obj => Sys2Proof.Machine.execRngTrunkConfirm c obj s
  | .wndImageLoad c obj addr len => Sys2Proof.Machine.execWndImageLoad c obj addr len s
  | .wndSwap c obj sflags sfc => Sys2Proof.Machine.execWndSwap c obj sflags sfc s
  | .wndAllocWrite c obj rec => Sys2Proof.Machine.execWndAllocWrite c obj rec s
  | .wndAllocRemove c obj => Sys2Proof.Machine.execWndAllocRemove c obj s
  | .wndWitnessSet c obj en gap profile => Sys2Proof.Machine.execWndWitnessSet c obj en gap profile s
  | .upsFlowSet c obj wireId term lane fflags slot => Sys2Proof.Machine.execUpsFlowSet c obj wireId term lane fflags slot s
  | .upsPolicerSet c obj cir cbs pflags => Sys2Proof.Machine.execUpsPolicerSet c obj cir cbs pflags s
  | .clsRulesLoad c obj kind lflags addr first count => Sys2Proof.Machine.execClsRulesLoad c obj kind lflags addr first count s
  | .clsRulesSwap c obj => Sys2Proof.Machine.execClsRulesSwap c obj s
  | .clsDefaultSet c obj action => Sys2Proof.Machine.execClsDefaultSet c obj action s
  | .clsIndirWrite c obj first count addr => Sys2Proof.Machine.execClsIndirWrite c obj first count addr s
  | .tblWrite c obj addr count => Sys2Proof.Machine.execTblWrite c obj addr count s
  | .tblDelete c obj addr count => Sys2Proof.Machine.execTblDelete c obj addr count s
  | .tblDomainFlush c obj dflags src => Sys2Proof.Machine.execTblDomainFlush c obj dflags src s
  | .tblLpmLoad c obj addr count => Sys2Proof.Machine.execTblLpmLoad c obj addr count s
  | .tblHolddownSet c obj hold => Sys2Proof.Machine.execTblHolddownSet c obj hold s
  | .dtmNodeSet c obj a => Sys2Proof.Machine.execDtmNodeSet c obj a s
  | .dtmShaperSet c obj bucket sflags rate burst => Sys2Proof.Machine.execDtmShaperSet c obj bucket sflags rate burst s
  | .dtmWatchSet c obj wflags node depthTh delayTh => Sys2Proof.Machine.execDtmWatchSet c obj wflags node depthTh delayTh s
  | .dtmPartitionSet c obj part res max => Sys2Proof.Machine.execDtmPartitionSet c obj part res max s
  | .ulkLaneEnable c obj limit => Sys2Proof.Machine.execUlkLaneEnable c obj limit s
  | .ulkLaneDisable c obj => Sys2Proof.Machine.execUlkLaneDisable c obj s
  | .ulkPortSet c obj a => Sys2Proof.Machine.execUlkPortSet c obj a s
  | .ulkBitslip c obj count => Sys2Proof.Machine.execUlkBitslip c obj count s
  | .ulkGateList c obj a => Sys2Proof.Machine.execUlkGateList c obj a s
  | .ulkPauseSet c obj a => Sys2Proof.Machine.execUlkPauseSet c obj a s
  | .matPairJoin c obj pkg mflags active limit => Sys2Proof.Machine.execMatPairJoin c obj pkg mflags active limit s
  | .matRoleSet c obj role => Sys2Proof.Machine.execMatRoleSet c obj role s
  | .matDarkRelease c obj => Sys2Proof.Machine.execMatDarkRelease c obj s
  | .todStep c obj mode sec ns => Sys2Proof.Machine.execTodStep c obj mode sec ns s
  | .todSteer c obj freq sflags => Sys2Proof.Machine.execTodSteer c obj freq sflags s
  | .todTrigSet c obj tflags sec ns period width => Sys2Proof.Machine.execTodTrigSet c obj tflags sec ns period width s
  | .memThaw c obj => Sys2Proof.Machine.execMemThaw c obj s
  | .memRetire c obj => Sys2Proof.Machine.execMemRetire c obj s
  | .memRowRepair c obj loc => Sys2Proof.Machine.execMemRowRepair c obj loc s
  | .memScrubSet c obj sramS dramH => Sys2Proof.Machine.execMemScrubSet c obj sramS dramH s
  | .talSnapshot c obj a => Sys2Proof.Machine.execTalSnapshot c obj a s
  | .talWindowSet c obj wflags winMs => Sys2Proof.Machine.execTalWindowSet c obj wflags winMs s
  | .talProfileStart c obj a => Sys2Proof.Machine.execTalProfileStart c obj a s
  | .talProfileStop c obj => Sys2Proof.Machine.execTalProfileStop c obj s
  | .cmdDoorbell r v => Sys2Proof.Machine.execCmdDoorbell r v s
  | .eventDoorbell v => Sys2Proof.Machine.execEventDoorbell v s
  | .puntDoorbell r v => Sys2Proof.Machine.execPuntDoorbell r v s
  | .injectDoorbell r v => Sys2Proof.Machine.execInjectDoorbell r v s
  | .commandEntryFetch r => Sys2Proof.Machine.execCommandEntryFetch r s
  | .commandStart r => Sys2Proof.Machine.execCommandStart r s
  | .ringEnWrite ring en => Sys2Proof.Machine.execRingEnWrite ring en s
  | .ringPauseWrite r b => Sys2Proof.Machine.execRingPauseWrite r b s
  | .ringResumeWrite r => Sys2Proof.Machine.execRingResumeWrite r s
  | .expseqWrite r v => Sys2Proof.Machine.execExpseqWrite r v s
  | .eventRingWrite => Sys2Proof.Machine.execEventRingWrite s
  | .cmdEvtLost => Sys2Proof.Machine.execCmdEvtLost s
  | .msixModerationTimer vec => Sys2Proof.Machine.execMsixModerationTimer vec s
  | .puntFrame r reason ingress data stamp => Sys2Proof.Machine.execPuntFrame r reason ingress data stamp s
  | .injectFrame r => Sys2Proof.Machine.execInjectFrame r s
  | .injectPauseTimeout r => Sys2Proof.Machine.execInjectPauseTimeout r s
  | .treeFrameOfsWrite p v => Sys2Proof.Machine.execTreeFrameOfsWrite p v s
  | .treeRssiArmWrite p term arm => Sys2Proof.Machine.execTreeRssiArmWrite p term arm s
  | .rngTeqdWrite p v => Sys2Proof.Machine.execRngTeqdWrite p v s
  | .todCtrlWrite v => Sys2Proof.Machine.execTodCtrlWrite v s
  | .todNowNsRead => Sys2Proof.Machine.execTodNowNsRead s
  | .talWinSeqRead x => Sys2Proof.Machine.execTalWinSeqRead x s
  | .w1cWrite reg v => Sys2Proof.Machine.execW1cWrite reg v s
  | .rcRead c => Sys2Proof.Machine.execRcRead c s
  | .localCounterWrite off v => Sys2Proof.Machine.execLocalCounterWrite off v s
  | .hubDiagSelWrite v => Sys2Proof.Machine.execHubDiagSelWrite v s
  | .diagWindowRead off bad => Sys2Proof.Machine.execDiagWindowRead off bad s
  | .dramEnWrite v => Sys2Proof.Machine.execDramEnWrite v s
  | .registerWrite off v => Sys2Proof.Machine.execRegisterWrite off v s
  | .servicePortWrite off v => Sys2Proof.Machine.execServicePortWrite off v s
  | .servicePortSetPointer off => Sys2Proof.Machine.execServicePortSetPointer off s
  | .servicePortRead => Sys2Proof.Machine.execServicePortRead s
  | .resetNAssert => Sys2Proof.Machine.execResetNAssert s
  | .resetNDeassert straps => Sys2Proof.Machine.execResetNDeassert straps s
  | .bootStepComplete st => Sys2Proof.Machine.execBootStepComplete st s
  | .dramReady failed => Sys2Proof.Machine.execDramReady failed s
  | .powerRailChange rail up => Sys2Proof.Machine.execPowerRailChange rail up s
  | .pcieReset kind => Sys2Proof.Machine.execPcieReset kind s
  | .fenceInAssert => Sys2Proof.Machine.execFenceInAssert s
  | .fenceInDeassert => Sys2Proof.Machine.execFenceInDeassert s
  | .fenceInQualified => Sys2Proof.Machine.execFenceInQualified s
  | .fenceInReleased => Sys2Proof.Machine.execFenceInReleased s
  | .driftLaneFault die lane => Sys2Proof.Machine.execDriftLaneFault die lane s
  | .driftSilence die => Sys2Proof.Machine.execDriftSilence die s
  | .driftBlockReceive die lane crcGood => Sys2Proof.Machine.execDriftBlockReceive die lane crcGood s
  | .hubDieFault => Sys2Proof.Machine.execHubDieFault s
  | .pipelineFault f => Sys2Proof.Machine.execPipelineFault f s
  | .uplinkLaneFault u => Sys2Proof.Machine.execUplinkLaneFault u s
  | .containedFault level => Sys2Proof.Machine.execContainedFault level s
  | .frameStart p => Sys2Proof.Machine.execFrameStart p s
  | .dsFrameReceive p => Sys2Proof.Machine.execDsFrameReceive p s
  | .reportCutoff p => Sys2Proof.Machine.execReportCutoff p s
  | .programStart p cyc rem => Sys2Proof.Machine.execProgramStart p cyc rem s
  | .sealPoint p => Sys2Proof.Machine.execSealPoint p s
  | .checkpointComplete p => Sys2Proof.Machine.execCheckpointComplete p s
  | .winderWatchdogTrip w => Sys2Proof.Machine.execWinderWatchdogTrip w s
  | .winderFault w data => Sys2Proof.Machine.execWinderFault w data s
  | .wndSpareTakeover p cyc rem => Sys2Proof.Machine.execWndSpareTakeover p cyc rem s
  | .spareSelfTest w pass => Sys2Proof.Machine.execSpareSelfTest w pass s
  | .brstPulse p slot => Sys2Proof.Machine.execBrstPulse p slot s
  | .rssiTrigFire p slot => Sys2Proof.Machine.execRssiTrigFire p slot s
  | .burstAcquisition p slot o => Sys2Proof.Machine.execBurstAcquisition p slot o s
  | .stepWatchEnd p => Sys2Proof.Machine.execStepWatchEnd p s
  | .correctionResend p t => Sys2Proof.Machine.execCorrectionResend p t s
  | .discoveryRequest p lane => Sys2Proof.Machine.execDiscoveryRequest p lane s
  | .discoveryWindow p lane sd found => Sys2Proof.Machine.execDiscoveryWindow p lane sd found s
  | .rangingWindow p lane resp => Sys2Proof.Machine.execRangingWindow p lane resp s
  | .rangingLimitExpiry p t => Sys2Proof.Machine.execRangingLimitExpiry p t s
  | .ldpcDispatch c => Sys2Proof.Machine.execLdpcDispatch c s
  | .ldpcDecodeDone d o => Sys2Proof.Machine.execLdpcDecodeDone d o s
  | .decoderFault d => Sys2Proof.Machine.execDecoderFault d s
  | .decoderHoldTimeout d => Sys2Proof.Machine.execDecoderHoldTimeout d s
  | .burstDelineation p slot items => Sys2Proof.Machine.execBurstDelineation p slot items s
  | .reassemblyTimeout p flow => Sys2Proof.Machine.execReassemblyTimeout p flow s
  | .uplinkFrameReceive u data fcsGood rx stamp => Sys2Proof.Machine.execUplinkFrameReceive u data fcsGood rx stamp s
  | .classifierPass f => Sys2Proof.Machine.execClassifierPass f s
  | .recircPass f => Sys2Proof.Machine.execRecircPass f s
  | .generationRetire d => Sys2Proof.Machine.execGenerationRetire d s
  | .learnApply => Sys2Proof.Machine.execLearnApply s
  | .sumpMove table bucket => Sys2Proof.Machine.execSumpMove table bucket s
  | .agerVisit mac dom => Sys2Proof.Machine.execAgerVisit mac dom s
  | .flushSweepEnd b => Sys2Proof.Machine.execFlushSweepEnd b s
  | .dtmSelect p => Sys2Proof.Machine.execDtmSelect p s
  | .dtmCalendarSlot slot => Sys2Proof.Machine.execDtmCalendarSlot slot s
  | .dtmSweepSample h => Sys2Proof.Machine.execDtmSweepSample h s
  | .watchSample w => Sys2Proof.Machine.execWatchSample w s
  | .laneDrainEnd p lane => Sys2Proof.Machine.execLaneDrainEnd p lane s
  | .egressSelect u => Sys2Proof.Machine.execEgressSelect u s
  | .pauseHoldExpiry u q => Sys2Proof.Machine.execPauseHoldExpiry u q s
  | .rxFifoThreshold u => Sys2Proof.Machine.execRxFifoThreshold u s
  | .pauseRepeat u => Sys2Proof.Machine.execPauseRepeat u s
  | .preemptVerify u answered => Sys2Proof.Machine.execPreemptVerify u answered s
  | .gateEntryChange u => Sys2Proof.Machine.execGateEntryChange u s
  | .gateListStart u => Sys2Proof.Machine.execGateListStart u s
  | .laneSignalLoss l => Sys2Proof.Machine.execLaneSignalLoss l s
  | .laneSignalReturn l => Sys2Proof.Machine.execLaneSignalReturn l s
  | .laneLockLoss l => Sys2Proof.Machine.execLaneLockLoss l s
  | .relockTimeout l => Sys2Proof.Machine.execRelockTimeout l s
  | .ladderMessage l msg => Sys2Proof.Machine.execLadderMessage l msg s
  | .ladderStepTimeout l relocked => Sys2Proof.Machine.execLadderStepTimeout l relocked s
  | .listenRetry l => Sys2Proof.Machine.execListenRetry l s
  | .cl73TrainingTimeout u => Sys2Proof.Machine.execCl73TrainingTimeout u s
  | .liveHoldExpiry u => Sys2Proof.Machine.execLiveHoldExpiry u s
  | .uplinkDrainEnd u => Sys2Proof.Machine.execUplinkDrainEnd u s
  | .lampCheckSend path => Sys2Proof.Machine.execLampCheckSend path s
  | .lampCheckReceive path msg => Sys2Proof.Machine.execLampCheckReceive path msg s
  | .pathLoss path valid => Sys2Proof.Machine.execPathLoss path valid s
  | .promoteBySilence p => Sys2Proof.Machine.execPromoteBySilence p s
  | .mateIsolated => Sys2Proof.Machine.execMateIsolated s
  | .noburstWatchdog p => Sys2Proof.Machine.execNoburstWatchdog p s
  | .mirrorRecordReceive p m => Sys2Proof.Machine.execMirrorRecordReceive p m s
  | .plannedSwitchTimeout p => Sys2Proof.Machine.execPlannedSwitchTimeout p s
  | .failoverEnd p => Sys2Proof.Machine.execFailoverEnd p s
  | .ppsInEdge => Sys2Proof.Machine.execPpsInEdge s
  | .ppsWindowEnd => Sys2Proof.Machine.execPpsWindowEnd s
  | .servoStep => Sys2Proof.Machine.execServoStep s
  | .todInMessage msg => Sys2Proof.Machine.execTodInMessage msg s
  | .todInSecondsStep => Sys2Proof.Machine.execTodInSecondsStep s
  | .todStepInstant => Sys2Proof.Machine.execTodStepInstant s
  | .time10mLoss => Sys2Proof.Machine.execTime10mLoss s
  | .time10mQualified => Sys2Proof.Machine.execTime10mQualified s
  | .pulseOutputFire n => Sys2Proof.Machine.execPulseOutputFire n s
  | .sramReadError loc mem raw => Sys2Proof.Machine.execSramReadError loc mem raw s
  | .dramFreeze s1 e => Sys2Proof.Machine.execDramFreeze s1 e s
  | .ddrAlert line parity cmdNow => Sys2Proof.Machine.execDdrAlert line parity cmdNow s
  | .scrubPass loc word => Sys2Proof.Machine.execScrubPass loc word s
  | .refreshTick s1 => Sys2Proof.Machine.execRefreshTick s1 s
  | .mr4Poll s1 mr4 hot => Sys2Proof.Machine.execMr4Poll s1 mr4 hot s
  | .realTimeBurst s1 granules activates ticks tookNs => Sys2Proof.Machine.execRealTimeBurst s1 granules activates ticks tookNs s
  | .rowRepairDone loc => Sys2Proof.Machine.execRowRepairDone loc s
  | .arrayRepairDone loc => Sys2Proof.Machine.execArrayRepairDone loc s
  | .thawCopyDone s1 bad => Sys2Proof.Machine.execThawCopyDone s1 bad s
  | .ledgerWrite => Sys2Proof.Machine.execLedgerWrite s
  | .counterGather idx => Sys2Proof.Machine.execCounterGather idx s
  | .snapshotInstant => Sys2Proof.Machine.execSnapshotInstant s
  | .snapshotCopyDone => Sys2Proof.Machine.execSnapshotCopyDone s
  | .windowEnd x => Sys2Proof.Machine.execWindowEnd x s
  | .tempSensorRead t => Sys2Proof.Machine.execTempSensorRead t s
  | .add w rd rs rt => Sys2Proof.Machine.execAdd w rd rs rt s
  | .sub w rd rs rt => Sys2Proof.Machine.execSub w rd rs rt s
  | .andR w rd rs rt => Sys2Proof.Machine.execAndR w rd rs rt s
  | .orR w rd rs rt => Sys2Proof.Machine.execOrR w rd rs rt s
  | .xorR w rd rs rt => Sys2Proof.Machine.execXorR w rd rs rt s
  | .shl w rd rs rt => Sys2Proof.Machine.execShl w rd rs rt s
  | .shr w rd rs rt => Sys2Proof.Machine.execShr w rd rs rt s
  | .sar w rd rs rt => Sys2Proof.Machine.execSar w rd rs rt s
  | .mul w rd rs rt => Sys2Proof.Machine.execMul w rd rs rt s
  | .mulhu w rd rs rt => Sys2Proof.Machine.execMulhu w rd rs rt s
  | .minu w rd rs rt => Sys2Proof.Machine.execMinu w rd rs rt s
  | .maxu w rd rs rt => Sys2Proof.Machine.execMaxu w rd rs rt s
  | .slt w rd rs rt => Sys2Proof.Machine.execSlt w rd rs rt s
  | .sltu w rd rs rt => Sys2Proof.Machine.execSltu w rd rs rt s
  | .subsat w rd rs rt => Sys2Proof.Machine.execSubsat w rd rs rt s
  | .mfs w rd idx => Sys2Proof.Machine.execMfs w rd idx s
  | .addi w rd rs imm => Sys2Proof.Machine.execAddi w rd rs imm s
  | .andi w rd rs imm => Sys2Proof.Machine.execAndi w rd rs imm s
  | .ori w rd rs imm => Sys2Proof.Machine.execOri w rd rs imm s
  | .xori w rd rs imm => Sys2Proof.Machine.execXori w rd rs imm s
  | .lui w rd imm => Sys2Proof.Machine.execLui w rd imm s
  | .shli w rd rs n => Sys2Proof.Machine.execShli w rd rs n s
  | .shri w rd rs n => Sys2Proof.Machine.execShri w rd rs n s
  | .sari w rd rs n => Sys2Proof.Machine.execSari w rd rs n s
  | .rori w rd rs n => Sys2Proof.Machine.execRori w rd rs n s
  | .slti w rd rs imm => Sys2Proof.Machine.execSlti w rd rs imm s
  | .sltiu w rd rs imm => Sys2Proof.Machine.execSltiu w rd rs imm s
  | .ldw w rd rb pi disp => Sys2Proof.Machine.execLdw w rd rb pi disp s
  | .stw w rd rb pi disp => Sys2Proof.Machine.execStw w rd rb pi disp s
  | .ldv w vd rb pi disp => Sys2Proof.Machine.execLdv w vd rb pi disp s
  | .stv w vd rb pi disp => Sys2Proof.Machine.execStv w vd rb pi disp s
  | .lda w rd rb pi disp => Sys2Proof.Machine.execLda w rd rb pi disp s
  | .sta w rd rb pi disp => Sys2Proof.Machine.execSta w rd rb pi disp s
  | .ldav w vd rb pi disp => Sys2Proof.Machine.execLdav w vd rb pi disp s
  | .ldag w vd vb pi disp => Sys2Proof.Machine.execLdag w vd vb pi disp s
  | .beq w rs rt off => Sys2Proof.Machine.execBeq w rs rt off s
  | .bne w rs rt off => Sys2Proof.Machine.execBne w rs rt off s
  | .blt w rs rt off => Sys2Proof.Machine.execBlt w rs rt off s
  | .bge w rs rt off => Sys2Proof.Machine.execBge w rs rt off s
  | .bltu w rs rt off => Sys2Proof.Machine.execBltu w rs rt off s
  | .bgeu w rs rt off => Sys2Proof.Machine.execBgeu w rs rt off s
  | .jal w rd target => Sys2Proof.Machine.execJal w rd target s
  | .jalr w rd rs => Sys2Proof.Machine.execJalr w rd rs s
  | .loopR w rs len => Sys2Proof.Machine.execLoopR w rs len s
  | .loopi w count len => Sys2Proof.Machine.execLoopi w count len s
  | .vadd w vd vs t pr => Sys2Proof.Machine.execVadd w vd vs t pr s
  | .vsub w vd vs t pr => Sys2Proof.Machine.execVsub w vd vs t pr s
  | .vand w vd vs t pr => Sys2Proof.Machine.execVand w vd vs t pr s
  | .vor w vd vs t pr => Sys2Proof.Machine.execVor w vd vs t pr s
  | .vxor w vd vs t pr => Sys2Proof.Machine.execVxor w vd vs t pr s
  | .vshl w vd vs t pr => Sys2Proof.Machine.execVshl w vd vs t pr s
  | .vshr w vd vs t pr => Sys2Proof.Machine.execVshr w vd vs t pr s
  | .vsar w vd vs t pr => Sys2Proof.Machine.execVsar w vd vs t pr s
  | .vmul w vd vs t pr => Sys2Proof.Machine.execVmul w vd vs t pr s
  | .vmulhu w vd vs t pr => Sys2Proof.Machine.execVmulhu w vd vs t pr s
  | .vminu w vd vs t pr => Sys2Proof.Machine.execVminu w vd vs t pr s
  | .vmaxu w vd vs t pr => Sys2Proof.Machine.execVmaxu w vd vs t pr s
  | .vsubsat w vd vs t pr => Sys2Proof.Machine.execVsubsat w vd vs t pr s
  | .vceq w pd vs t pr => Sys2Proof.Machine.execVceq w pd vs t pr s
  | .vcne w pd vs t pr => Sys2Proof.Machine.execVcne w pd vs t pr s
  | .vcltu w pd vs t pr => Sys2Proof.Machine.execVcltu w pd vs t pr s
  | .vclt w pd vs t pr => Sys2Proof.Machine.execVclt w pd vs t pr s
  | .vcgeu w pd vs t pr => Sys2Proof.Machine.execVcgeu w pd vs t pr s
  | .vcge w pd vs t pr => Sys2Proof.Machine.execVcge w pd vs t pr s
  | .vsel w vd vs t pn => Sys2Proof.Machine.execVsel w vd vs t pn s
  | .vrsum w gd vs pr => Sys2Proof.Machine.execVrsum w gd vs pr s
  | .vrminu w gd vs pr => Sys2Proof.Machine.execVrminu w gd vs pr s
  | .vrmaxu w gd vs pr => Sys2Proof.Machine.execVrmaxu w gd vs pr s
  | .vrmini w gd vs pr => Sys2Proof.Machine.execVrmini w gd vs pr s
  | .vrmaxi w gd vs pr => Sys2Proof.Machine.execVrmaxi w gd vs pr s
  | .vbc w vd gs pr => Sys2Proof.Machine.execVbc w vd gs pr s
  | .vidx w vd pr => Sys2Proof.Machine.execVidx w vd pr s
  | .vins w vd gs k => Sys2Proof.Machine.execVins w vd gs k s
  | .vext w gd vs k => Sys2Proof.Machine.execVext w gd vs k s
  | .pand w pd ps pt => Sys2Proof.Machine.execPand w pd ps pt s
  | .por w pd ps pt => Sys2Proof.Machine.execPor w pd ps pt s
  | .pxor w pd ps pt => Sys2Proof.Machine.execPxor w pd ps pt s
  | .pandn w pd ps pt => Sys2Proof.Machine.execPandn w pd ps pt s
  | .pset w pd imm => Sys2Proof.Machine.execPset w pd imm s
  | .pfirst w pd ps => Sys2Proof.Machine.execPfirst w pd ps s
  | .pcnt w gd ps => Sys2Proof.Machine.execPcnt w gd ps s
  | .ptog w gd ps => Sys2Proof.Machine.execPtog w gd ps s
  | .pfromg w pd gs => Sys2Proof.Machine.execPfromg w pd gs s
  | .wait w rs imm => Sys2Proof.Machine.execWait w rs imm s
  | .sample w tag => Sys2Proof.Machine.execSample w tag s
  | .halt w => Sys2Proof.Machine.execHalt w s
  | .vft w vd vs t pr => Sys2Proof.Machine.execVft w vd vs t pr s
  | .vtnow w rd => Sys2Proof.Machine.execVtnow w rd s
  | .vtadv w rd rs => Sys2Proof.Machine.execVtadv w rd rs s
  | .vtset w rs => Sys2Proof.Machine.execVtset w rs s
  | .vtshift w rs => Sys2Proof.Machine.execVtshift w rs s
  | .calins w rd rs rt => Sys2Proof.Machine.execCalins w rd rs rt s
  | .calpop w rd rs => Sys2Proof.Machine.execCalpop w rd rs s
  | .calcnt w rd rs => Sys2Proof.Machine.execCalcnt w rd rs s
  | .rptget w rd rt => Sys2Proof.Machine.execRptget w rd rt s
  | .rptcnt w rd => Sys2Proof.Machine.execRptcnt w rd s
  | .grant w rd rs rt => Sys2Proof.Machine.execGrant w rd rs rt s
  | .rngwin w rd rs rt => Sys2Proof.Machine.execRngwin w rd rs rt s
  | .rngtail w rd rs => Sys2Proof.Machine.execRngtail w rd rs s
  | .precut w rd rs rt => Sys2Proof.Machine.execPrecut w rd rs rt s
  | .sealMap w inTime => Sys2Proof.Machine.execSealMap w inTime s
  | .waitTimeReached r => Sys2Proof.Machine.execWaitTimeReached r s
  | .waitEventLimit r => Sys2Proof.Machine.execWaitEventLimit r s
  | .ulkEnableLimit u => Sys2Proof.Machine.execUlkEnableLimit u s
  | .pairJoinLimit => Sys2Proof.Machine.execPairJoinLimit s
  | .moduleI2cDone c o => Sys2Proof.Machine.execModuleI2cDone c o s
  | .i2cMasterFault c => Sys2Proof.Machine.execI2cMasterFault c s
  | .laneLock l => Sys2Proof.Machine.execLaneLock l s
  | .rsFaultChange u localF remoteF => Sys2Proof.Machine.execRsFaultChange u localF remoteF s
  | .cl73AutonegDone u res => Sys2Proof.Machine.execCl73AutonegDone u res s
  | .ladderMessageSend l => Sys2Proof.Machine.execLadderMessageSend l s
  | .marchTestDone o bad pass => Sys2Proof.Machine.execMarchTestDone o bad pass s
  | .tckEdge tms tdi => Sys2Proof.Machine.execTckEdge tms tdi s

end Sys2Proof.Machine
end

