-- ==== Sys2Proof/Machine/Step.lean ====
section
/-! DEFINITION. One step of the block: the command at the front of the queue, or one cycle of the time base (log entry 1). -/
namespace Sys2Proof.Machine
open Sys2Proof

/-- Nothing is left to do in this time-base cycle: the oldest timeout that waited for the commands of the cycle comes now (R69), or a fault
that waited for a fail-over that is over (R399); with none, one cycle passes. -/
def State.idle (s : State) : Host.Outcome State Fault Refusal :=
  match s.dev.late.find? fun i => !s.dev.blocked i with
  | none => .next { s with dev := s.dev.cycle }
  | some i => exec i { s with dev := { s.dev with late := dropFirst (fun j => j == i) s.dev.late } }

/-- Takes the command at the front of the queue and carries it out with the queue's rest; on an empty queue the block idles. -/
def step (s : State) : Host.Outcome State Fault Refusal :=
  match s.pending with
  | [] => s.idle
  | c :: rest => exec c { s with pending := rest }

/-- The state with the command that a word spells in front of its queue. The opcode table gives no row any bits, so no word spells one. -/
def State.withFetchWord (s : State) (nbits w : Nat) : State :=
  match decodeTableWord nbits w with
  | some c => { s with pending := c :: s.pending }
  | none => s

end Sys2Proof.Machine
end

