-- ==== Sys2Proof/WellFormed.lean ====
section
/-! DEFINITION. Which commands are well formed: the shapes that the types of Syntax.lean do not fix, as the argument and message tables
of the manual give them. A command outside its tables' ranges may still be well formed: then the manual calls it a mistake. -/
namespace Sys2Proof

/-- VRED and VFT have Z 0 (R214, R219). -/
def Pred.noZero : Pred → Bool
  | .zeroing _ => false
  | _ => true

/-- Buckets of an exact-match table (Table 10-2). -/
def TableId.buckets : TableId → Nat
  | .svc => 262144
  | .mac => 2097152
  | .val => 1048576

/-- An item of a burst: a PLOAM message has 48 bytes (R105). -/
def TcItem.wellFormed : TcItem → Bool
  | .ploam msg => msg.length == 48
  | .report _ _ bytes => decide (bytes < 2 ^ 32)
  | _ => true

/-- The command has the shape its table gives it. -/
def wellFormed : Instr → Bool
  | .treePloamSend _ _ msg => msg.length == 48
  | .treeModuleI2c _ _ _ _ _ _ data => data.length == 32
  | .wndAllocWrite _ _ rec => rec.length == 32
  | .clsDefaultSet _ _ action => action.length == 16
  | .puntFrame _ _ _ data _ => decide (data.length < 2 ^ 16)
  | .programStart _ cyc rem => decide (cyc < 2 ^ 32) && decide (rem < 2 ^ 32)
  | .wndSpareTakeover _ cyc rem => decide (cyc < 2 ^ 32) && decide (rem < 2 ^ 32)
  | .burstDelineation _ _ items => items.all fun x => x.item.wellFormed
  | .discoveryWindow _ _ _ found => found.all fun r => r.msg.length == 48
  | .rangingWindow _ _ resp => resp.all fun r => r.2.length == 48
  | .sumpMove t b => decide (b < t.buckets)
  | .realTimeBurst _ n _ _ _ => decide (1 ≤ n) && decide (n ≤ 64)
  | .tempSensorRead t => t.length == 9
  | .moduleI2cDone _ (.ok data) => decide (data.length ≤ 32)
  | .vrsum _ _ _ pr => pr.noZero
  | .vrminu _ _ _ pr => pr.noZero
  | .vrmaxu _ _ _ pr => pr.noZero
  | .vrmini _ _ _ pr => pr.noZero
  | .vrmaxi _ _ _ pr => pr.noZero
  | .vft _ _ _ _ pr => pr.noZero
  | _ => true

end Sys2Proof
end

