-- ==== Sys2Proof/Safety.lean ====
section
/-! DEFINITION. What claims speak of: the form every state of a run has, and when a command is ready to run. -/
namespace Sys2Proof.Machine
open Sys2Proof

/-- The canonical form of host memory: addresses rise strictly, and no listed byte equals what an unlisted one reads as. -/
abbrev Memory.wf (m : Sparse Byte) : Prop := swf memDflt m = true

/-- The sequence numbers of the backlog run up to the next one without a gap (R66). -/
def Bank.inOrder (b : Bank) : Prop := ∀ i : Nat, ∀ e : EvEntry, b.backlog[i]? = some e → e.seq + BitVec.ofNat 32 (b.backlog.length - i) = b.seq

/-- The form of every state that a run passes through: host memory is canonical, no request of the device is left undone, and the
events that wait for the ring are numbered in order. -/
structure State.Settled (s : State) : Prop where
  mem : Memory.wf s.mem
  outbox : s.dev.outbox = []
  dma : s.dev.dma = []
  order : s.bank.inOrder

/-- A byte of host memory. -/
def State.byte (s : State) (a : Nat) : Byte := sget memDflt s.mem a

/-- The package is out of reset and its internal start-up is done (R466). -/
def State.booted (s : State) : Prop := s.dev.board.resetN = false ∧ s.dev.board.bootDone = true

/-- Nothing keeps a host command from taking effect at once: the device has booted, completions can be accepted (R73), its ring has fewer than 256
commands that have not completed (R58) and lets it start (R57), it is its ring's turn (R60), its object is free (R59), DRAM is ready if it needs it
(R469), the unit is fitted and reachable. -/
structure State.Ready (s : State) (i : Instr) (c : Tag) (obj : Word) (h : HostCmd) : Prop where
  booted : s.dev.board.bootDone = true
  room : s.bank.stalled = false
  count : s.dev.active s.bank c.ring < 256
  ring : s.dev.ringHolds c = false
  turn : s.dev.outOfTurn c.ring = false
  object : s.dev.objBusy i obj = false
  dram : s.dev.ddr.ready = true ∨ needsDram i obj = false
  fitted : objAbsent s.dev.variant obj = false ∧ h.absent = false
  reached : ∀ x ∈ objDie obj, (s.dev.drift x).held = false ∧ ((s.dev.drift x).silent = false ∨ (h.opc = 7 ∧ objClass obj = 9))

/-- And the handle and the arguments are ones that the manual allows. -/
structure State.Free (s : State) (i : Instr) (c : Tag) (obj : Word) (h : HostCmd) : Prop extends State.Ready s i c obj h where
  good : h.good = true

/-- The state after a host command has taken effect at once. -/
def State.after (s : State) (i : Instr) (c : Tag) (obj : Word) (h : HostCmd) : State := s.run (h.body (s.dev.startOn i c obj h.opc .running))

/-- The state after a host command whose handle or arguments are a mistake: it completes, and the mistake may do anything within its reach
(R87). -/
def State.afterMistake (s : State) (i : Instr) (c : Tag) (obj : Word) (h : HostCmd) : State :=
  s.run ((s.dev.startOn i c obj h.opc .running).mistaken c h.reach)

/-- The first event that reaches the banksman between `s` and `t`, stamped with the device time of `s` (R66, R70). -/
def State.Raises (s t : State) (typ src : Nat) (payload : Bytes) : Prop :=
  ∃ e, t.bank.backlog[s.bank.backlog.length]? = some e ∧ e.seq = s.bank.seq ∧ e.typ = typ ∧ e.src = src ∧
    e.bytes = eventBytes s.bank.seq typ src s.dev.stamp (padTo 16 payload)

/-- Command `c` with opcode `opc` completes with this status and RESULT, and its CMD_DONE is the first event (Table 2-6). -/
def State.Completes (s t : State) (c : Tag) (opc status : Nat) (result : Bytes) : Prop :=
  s.Raises t 1 (srcOf 0xA c.ring.val) (le 4 c.seq.toNat ++ le 1 status ++ le 1 c.ring.val ++ le 2 opc ++ padTo 8 result)

/-- The state is settled and the banksman takes the next event as it comes: no discard is outstanding and there is room (R73). -/
structure State.Open (s : State) : Prop where
  settled : s.Settled
  lost : s.bank.lost = none
  held : s.bank.held = []
  room : s.bank.unreservedFull = false

/-- No accepted command carries the tag, so that its completion is the one meant. -/
def State.New (s : State) (c : Tag) : Prop := ∀ a ∈ s.dev.cmds, a.tag ≠ c

/-- Everything of the device but its accepted commands, and the ring it served last, stays. -/
def State.SameUnits (s t : State) : Prop := t.dev = { s.dev with cmds := t.dev.cmds, lastRing := t.dev.lastRing }

/-- An instruction that uses registers `keys` issues on winder `w` in cycle `t`: the winder is reachable and runs a program, and the seal
point does not come first (R163, R197). -/
structure Dev.Issues (d : Dev) (w : Nat) (keys : List Nat) (adj : Winder → Nat → Nat) (t : Nat) : Prop where
  reached : d.winderUp w = true
  running : (d.winder w).running = true
  at_ : t = adj (d.winder w) ((d.winder w).issueAt keys)
  inTime : t < (d.winder w).rem0

/-- The word at the program counter of winder `w` spells the row `i`, and sets no RSV bit (R194, R195, R218). -/
def Dev.Spells (d : Dev) (w : Fin 80) (i : Instr) : Prop := wordInstr w (d.wordAt w.val) = (Instr.spelled i, false)

/-- No register file of a winder but the ones named differs: scalar, vector and predicate registers, local data memory. -/
structure Winder.SameRegs (x y : Winder) (g v p l : Bool) : Prop where
  g : g = true → ∀ n, y.rg n = x.rg n
  v : v = true → ∀ n i, y.rv n i = x.rv n i
  p : p = true → ∀ n, y.rp n = x.rp n
  l : l = true → ∀ a, y.lw a = x.lw a

/-- What no instruction of a run changes in its winder. -/
structure Winder.SameRun (x y : Winder) : Prop where
  st : y.st = x.st
  port : y.port = x.port
  cause : y.cause = x.cause
  running : y.running = x.running
  cyc0 : y.cyc0 = x.cyc0
  rem0 : y.rem0 = x.rem0
  frameNo : y.frameNo = x.frameNo
  sfc : y.sfc = x.sfc
  allocN : y.allocN = x.allocN
  imem : y.imem = x.imem

/-- The instruction fell through: it cost `cost` cycles after its issue in cycle `t`, and the hardware loops took their step (R197, R209). -/
def Winder.FellThrough (x y : Winder) (t cost : Nat) : Prop :=
  y.cycle = t + cost ∧ y.pc = BitVec.ofNat 12 (loopStep x.pc.toNat x.loops).1 ∧ y.loops = (loopStep x.pc.toNat x.loops).2

/-- Everything outside winder `w` that an Oliol instruction leaves alone; `ports` says whether the tree ports are among it. The profiler of
its cluster may record the issue and raise an event, which may end a WAIT_EVENT. -/
structure State.SameOutside (s t : State) (w : Nat) (ports : Bool) : Prop where
  winders : ∀ u, u ≠ w → t.dev.winder u = s.dev.winder u
  ports : ports = true → ∀ p, t.dev.port p = s.dev.port p
  mem : ∀ a, t.byte a = s.byte a
  queue : t.pending = s.pending
  units : t.dev.variant = s.dev.variant ∧ t.dev.now = s.dev.now ∧ t.dev.sent = s.dev.sent ∧ t.dev.board = s.dev.board ∧
    t.dev.drifts = s.dev.drifts ∧ t.dev.decs = s.dev.decs ∧ t.dev.cmdRings = s.dev.cmdRings ∧ t.dev.puntRings = s.dev.puntRings ∧
    t.dev.injRings = s.dev.injRings ∧ t.dev.inj = s.dev.inj ∧ t.dev.ctrs = s.dev.ctrs ∧ t.dev.time = s.dev.time ∧
    t.dev.prot = s.dev.prot ∧ t.dev.cls = s.dev.cls ∧ t.dev.tbl = s.dev.tbl ∧ t.dev.dtm = s.dev.dtm ∧ t.dev.ulk = s.dev.ulk ∧
    t.dev.lanes = s.dev.lanes ∧ t.dev.ddr = s.dev.ddr ∧ t.dev.tally = s.dev.tally
  clusters : ∀ c, c ≠ w / 5 → t.dev.cluster c = s.dev.cluster c

/-- What a mistake of the program of winder `w`, or of its image, leaves alone (Tables 5-12 and 6-21): everything but the maps of tree port `p`,
the program state of its records and of the winder. -/
structure State.SpoiltMaps (s t : State) (p w : Nat) : Prop where
  ports : ∀ k, k ≠ p → t.dev.port k = s.dev.port k
  winders : ∀ u, u ≠ w → t.dev.winder u = s.dev.winder u
  port : t.dev.port p =
    let q := s.dev.port p
    let r := t.dev.port p
    { q with
      main := { q.main with map := r.main.map, tail := r.main.tail }
      comp := { q.comp with map := r.comp.map, tail := r.comp.tail }
      wnd := { q.wnd with
        run := r.wnd.run, v := r.wnd.v, shift := r.wnd.shift, cal := r.wnd.cal, marks := r.wnd.marks, rptSet := r.wnd.rptSet
        alloc := r.wnd.alloc, wild := true } }
  records : ∀ k, k % 16 < 12 →
    sget (fun _ => 0#32) (t.dev.port p).wnd.alloc k = sget (fun _ => 0#32) (s.dev.port p).wnd.alloc k
  rest : t = { s with dev := { s.dev with free := t.dev.free, ports := t.dev.ports, winders := t.dev.winders } }

/-- An instruction of winder `w` wrote scalar register `rd` and nothing else of the registers and memories. It issued in cycle `c`, cost `cost`
cycles, and its result is ready `lat` cycles after its issue. A write to g0 is discarded (R191). -/
structure State.WroteG (s t : State) (w : Nat) (rd : BitVec 5) (v : Word) (c lat cost : Nat) : Prop where
  result : ∀ n, (t.dev.winder w).rg n = if n = 0 then 0 else if n = rd then v else (s.dev.winder w).rg n
  rest : (s.dev.winder w).SameRegs (t.dev.winder w) false true true true
  ready : ∀ k, sget (fun _ => 0) (t.dev.winder w).ready k = if k ∈ kG rd then c + lat else sget (fun _ => 0) (s.dev.winder w).ready k
  run : (s.dev.winder w).SameRun (t.dev.winder w)
  next : (s.dev.winder w).FellThrough (t.dev.winder w) c cost

/-- The same for a vector register: lane `i` holds `f i`. -/
structure State.WroteV (s t : State) (w : Nat) (vd : BitVec 4) (f : Nat → Word) (c lat cost : Nat) : Prop where
  result : ∀ n i, i < 8 → (t.dev.winder w).rv n i = if n = vd then f i else (s.dev.winder w).rv n i
  rest : (s.dev.winder w).SameRegs (t.dev.winder w) true false true true
  ready : ∀ k, sget (fun _ => 0) (t.dev.winder w).ready k = if k ∈ kV vd then c + lat else sget (fun _ => 0) (s.dev.winder w).ready k
  run : (s.dev.winder w).SameRun (t.dev.winder w)
  next : (s.dev.winder w).FellThrough (t.dev.winder w) c cost

/-- The same for a predicate register. -/
structure State.WroteP (s t : State) (w : Nat) (pd : BitVec 2) (v : Byte) (c lat cost : Nat) : Prop where
  result : ∀ n, (t.dev.winder w).rp n = if n = pd then v else (s.dev.winder w).rp n
  rest : (s.dev.winder w).SameRegs (t.dev.winder w) true true false true
  ready : ∀ k, sget (fun _ => 0) (t.dev.winder w).ready k = if k ∈ kP pd then c + lat else sget (fun _ => 0) (s.dev.winder w).ready k
  run : (s.dev.winder w).SameRun (t.dev.winder w)
  next : (s.dev.winder w).FellThrough (t.dev.winder w) c cost

/-- No port or unit of the winder was used: the allocation-table port, the loads outstanding, the local-memory port, the calendar. -/
structure Winder.SamePorts (x y : Winder) : Prop where
  portFree : y.portFree = x.portFree
  loads : y.loads = x.loads
  calFree : y.calFree = x.calFree
  localFree : y.localFree = x.localFree

/-- Writing the one register was the whole effect of the instruction. -/
def State.OnlyG (s t : State) (w : Nat) (rd : BitVec 5) (v : Word) (c lat cost : Nat) : Prop :=
  s.WroteG t w rd v c lat cost ∧ (s.dev.winder w).SamePorts (t.dev.winder w) ∧ s.SameOutside t w true
def State.OnlyV (s t : State) (w : Nat) (vd : BitVec 4) (f : Nat → Word) (c lat cost : Nat) : Prop :=
  s.WroteV t w vd f c lat cost ∧ (s.dev.winder w).SamePorts (t.dev.winder w) ∧ s.SameOutside t w true
def State.OnlyP (s t : State) (w : Nat) (pd : BitVec 2) (v : Byte) (c lat cost : Nat) : Prop :=
  s.WroteP t w pd v c lat cost ∧ (s.dev.winder w).SamePorts (t.dev.winder w) ∧ s.SameOutside t w true

end Sys2Proof.Machine
end

