-- ==== Sys2Proof/Certificates/Slice0/Obligations.lean ====
section
/-! DEFINITION. The statements of this model, one definition each. -/
open Sys2Proof Sys2Proof.Machine

/-! ### Oliol (chapters 06 and 07) -/

/-- R203: the Reg group. Each instruction of Table 6-7 issues when its registers are ready, at an issue cost of 1, and writes rd alone,
ready one cycle after issue; a write to g0 is discarded. MFS reads the special registers of Table 6-2 in its issue cycle. -/
def Obligations.RegGroupResults : Prop :=
  ∀ (s : State) (w : Fin 80) (rd rs rt : BitVec 5) (c : Nat), s.Settled →
    (s.dev.Issues w (kG rs ++ kG rt ++ kG rd) noWait c →
      ∀ e ∈ ([(.add, fun a b => a + b), (.sub, fun a b => a - b), (.andR, fun a b => a &&& b), (.orR, fun a b => a ||| b),
          (.xorR, fun a b => a ^^^ b), (.shl, fun a b => a <<< (b.toNat % 32)), (.shr, fun a b => a >>> (b.toNat % 32)),
          (.sar, fun a b => BitVec.ofInt 32 (a.toInt / 2 ^ (b.toNat % 32))), (.mul, fun a b => BitVec.ofNat 32 (a.toNat * b.toNat)),
          (.mulhu, fun a b => BitVec.ofNat 32 (a.toNat * b.toNat / 2 ^ 32)),
          (.minu, fun a b => BitVec.ofNat 32 (min a.toNat b.toNat)), (.maxu, fun a b => BitVec.ofNat 32 (max a.toNat b.toNat)),
          (.slt, fun a b => if a.toInt < b.toInt then 1 else 0), (.sltu, fun a b => if a.toNat < b.toNat then 1 else 0),
          (.subsat, fun a b => BitVec.ofNat 32 (a.toNat - b.toNat))] :
            List ((Fin 80 → BitVec 5 → BitVec 5 → BitVec 5 → Instr) × (Word → Word → Word))),
        s.dev.Spells w (e.1 w rd rs rt) → ∃ t, exec (e.1 w rd rs rt) s = .next t ∧
          s.OnlyG t w rd (e.2 ((s.dev.winder w).rg rs) ((s.dev.winder w).rg rt)) c 1 1) ∧
    (s.dev.Issues w (kG rd) noWait c →
      ∀ idx : BitVec 5, s.dev.Spells w (.mfs w rd idx) → ∃ t, exec (.mfs w rd idx) s = .next t ∧
        s.OnlyG t w rd
          (let x := s.dev.winder w
           if idx = 0 then x.frameNo
           else if idx = 1 then BitVec.ofNat 32 (x.cyc0 + c)
           else if idx = 2 then BitVec.ofNat 32 (x.rem0 - c)
           else if idx = 3 then BitVec.ofNat 32 x.sfc
           else if idx = 4 then BitVec.ofNat 32 (x.sfc / 2 ^ 32)
           else if idx = 5 then BitVec.ofNat 32 x.allocN
           else if idx = 6 then BitVec.ofNat 32 x.port
           else if idx = 7 then BitVec.ofNat 32 w.val
           else 0) c 1 1)

/-- R204: the Imm group, Table 6-8. -/
def Obligations.ImmGroupResults : Prop :=
  ∀ (s : State) (w : Fin 80) (rd rs : BitVec 5) (c : Nat), s.Settled →
    (s.dev.Issues w (kG rs ++ kG rd) noWait c →
      (∀ imm : Half, ∀ e ∈ ([(.addi, fun a => a + imm.signExtend 32), (.andi, fun a => a &&& imm.zeroExtend 32),
          (.ori, fun a => a ||| imm.zeroExtend 32), (.xori, fun a => a ^^^ imm.zeroExtend 32),
          (.slti, fun a => if a.toInt < imm.toInt then 1 else 0), (.sltiu, fun a => if a.toNat < imm.toNat then 1 else 0)] :
            List ((Fin 80 → BitVec 5 → BitVec 5 → Half → Instr) × (Word → Word))),
        s.dev.Spells w (e.1 w rd rs imm) → ∃ t, exec (e.1 w rd rs imm) s = .next t ∧ s.OnlyG t w rd (e.2 ((s.dev.winder w).rg rs)) c 1 1) ∧
      (∀ n : BitVec 5, ∀ e ∈ ([(.shli, fun a => a <<< n.toNat), (.shri, fun a => a >>> n.toNat),
          (.sari, fun a => BitVec.ofInt 32 (a.toInt / 2 ^ n.toNat)),
          (.rori, fun a => a >>> n.toNat ||| a <<< (32 - n.toNat))] :
            List ((Fin 80 → BitVec 5 → BitVec 5 → BitVec 5 → Instr) × (Word → Word))),
        s.dev.Spells w (e.1 w rd rs n) → ∃ t, exec (e.1 w rd rs n) s = .next t ∧ s.OnlyG t w rd (e.2 ((s.dev.winder w).rg rs)) c 1 1)) ∧
    (s.dev.Issues w (kG rd) noWait c →
      ∀ imm : Half, s.dev.Spells w (.lui w rd imm) → ∃ t, exec (.lui w rd imm) s = .next t ∧ s.OnlyG t w rd (imm.zeroExtend 32 <<< 16) c 1 1)

/-- R212 with R211: VALU, Table 6-11. Inactive lanes keep their value with Z = 0 and become zero with Z = 1. -/
def Obligations.ValuResults : Prop :=
  ∀ (s : State) (w : Fin 80) (vd vs : BitVec 4) (src : VecSrc) (pr : Pred) (c : Nat), s.Settled →
    s.dev.Issues w (kV vs ++ vecKeys src ++ predKeys pr ++ kV vd) noWait c →
    ∀ e ∈ ([(.vadd, fun a b => a + b), (.vsub, fun a b => a - b), (.vand, fun a b => a &&& b), (.vor, fun a b => a ||| b),
        (.vxor, fun a b => a ^^^ b), (.vshl, fun a b => a <<< (b.toNat % 32)), (.vshr, fun a b => a >>> (b.toNat % 32)),
        (.vsar, fun a b => BitVec.ofInt 32 (a.toInt / 2 ^ (b.toNat % 32))), (.vmul, fun a b => BitVec.ofNat 32 (a.toNat * b.toNat)),
        (.vmulhu, fun a b => BitVec.ofNat 32 (a.toNat * b.toNat / 2 ^ 32)),
        (.vminu, fun a b => BitVec.ofNat 32 (min a.toNat b.toNat)), (.vmaxu, fun a b => BitVec.ofNat 32 (max a.toNat b.toNat)),
        (.vsubsat, fun a b => BitVec.ofNat 32 (a.toNat - b.toNat))] :
          List ((Fin 80 → BitVec 4 → BitVec 4 → VecSrc → Pred → Instr) × (Word → Word → Word))),
      s.dev.Spells w (e.1 w vd vs src pr) → ∃ t, exec (e.1 w vd vs src pr) s = .next t ∧
        s.OnlyV t w vd (fun i =>
          let x := s.dev.winder w
          let sI := x.rv vs i
          let tI := match src with
            | .vec n => x.rv n i
            | .sca n => x.rg n
          match pr with
          | .all => e.2 sI tI
          | .merging n => if (x.rp n).getLsbD i then e.2 sI tI else x.rv vd i
          | .zeroing n => if (x.rp n).getLsbD i then e.2 sI tI else 0) c 2 1

/-- R213: VCMP, Table 6-12. Bit i of pd is 1 when lane i is active and the comparison holds, and 0 otherwise, whatever Z holds. -/
def Obligations.VcmpResults : Prop :=
  ∀ (s : State) (w : Fin 80) (pd : BitVec 2) (vs : BitVec 4) (src : VecSrc) (pr : Pred) (c : Nat), s.Settled →
    s.dev.Issues w (kV vs ++ vecKeys src ++ predKeys pr ++ kP pd) noWait c →
    ∀ e ∈ ([(.vceq, fun a b => decide (a = b)), (.vcne, fun a b => decide (a ≠ b)), (.vcltu, fun a b => decide (a.toNat < b.toNat)),
        (.vclt, fun a b => decide (a.toInt < b.toInt)), (.vcgeu, fun a b => decide (b.toNat ≤ a.toNat)),
        (.vcge, fun a b => decide (b.toInt ≤ a.toInt))] :
          List ((Fin 80 → BitVec 2 → BitVec 4 → VecSrc → Pred → Instr) × (Word → Word → Bool))),
      s.dev.Spells w (e.1 w pd vs src pr) → ∃ (t : State) (m : Byte), exec (e.1 w pd vs src pr) s = .next t ∧ s.OnlyP t w pd m c 2 1 ∧
        ∀ i, i < 8 → m.getLsbD i =
          (let x := s.dev.winder w
           (match pr with
            | .all => true
            | .merging n => (x.rp n).getLsbD i
            | .zeroing n => (x.rp n).getLsbD i) &&
           e.2 (x.rv vs i) (match src with
            | .vec n => x.rv n i
            | .sca n => x.rg n))

/-- R214: VSEL, VRED and VLANE, Table 6-13. For a reduction, whose Z is reserved, `act` are
the active lanes, lowest first. -/
def Obligations.VselVredVlaneResults : Prop :=
  ∀ (s : State) (w : Fin 80) (vd vs : BitVec 4) (gd gs : BitVec 5) (src : VecSrc) (pr : Pred) (pn : BitVec 2) (k : BitVec 3) (c : Nat),
    s.Settled →
    let x := s.dev.winder w
    let active (i : Nat) : Bool := match pr with
      | .all => true
      | .merging n => (x.rp n).getLsbD i
      | .zeroing n => (x.rp n).getLsbD i
    let act := (List.range 8).filter active
    let low : List Nat → Nat := fun l => (l.map fun i => (x.rv vs i).toNat).foldl min 0xFFFFFFFF
    let high : List Nat → Nat := fun l => (l.map fun i => (x.rv vs i).toNat).foldl max 0
    let first (v : Nat) : Nat := (act.find? fun i => (x.rv vs i).toNat == v).getD 8
    let lanes (f : Nat → Word) (i : Nat) : Word := match pr with
      | .zeroing _ => if active i then f i else 0
      | _ => if active i then f i else x.rv vd i
    (s.dev.Issues w (kV vs ++ vecKeys src ++ kP pn ++ kV vd) noWait c →
      s.dev.Spells w (.vsel w vd vs src pn) → ∃ t, exec (.vsel w vd vs src pn) s = .next t ∧
        s.OnlyV t w vd (fun i => if (x.rp pn).getLsbD i then x.rv vs i else
          match src with
          | .vec n => x.rv n i
          | .sca n => x.rg n) c 2 1) ∧
    (pr.noZero = true → s.dev.Issues w (kV vs ++ predKeys pr ++ kG gd) noWait c →
      ∀ e ∈ ([(.vrsum, ((act.map fun i => (x.rv vs i).toNat).foldl (fun m v => m + v) 0)), (.vrminu, low act), (.vrmaxu, high act),
          (.vrmini, first (low act)), (.vrmaxi, first (high act))] : List ((Fin 80 → BitVec 5 → BitVec 4 → Pred → Instr) × Nat)),
        s.dev.Spells w (e.1 w gd vs pr) → ∃ t, exec (e.1 w gd vs pr) s = .next t ∧ s.OnlyG t w gd (BitVec.ofNat 32 e.2) c 2 1) ∧
    (s.dev.Issues w (kG gs ++ predKeys pr ++ kV vd) noWait c →
      s.dev.Spells w (.vbc w vd gs pr) → ∃ t, exec (.vbc w vd gs pr) s = .next t ∧ s.OnlyV t w vd (lanes fun _ => x.rg gs) c 2 1) ∧
    (s.dev.Issues w (predKeys pr ++ kV vd) noWait c →
      s.dev.Spells w (.vidx w vd pr) → ∃ t, exec (.vidx w vd pr) s = .next t ∧ s.OnlyV t w vd (lanes fun i => BitVec.ofNat 32 i) c 2 1) ∧
    (s.dev.Issues w (kG gs ++ kV vd) noWait c →
      s.dev.Spells w (.vins w vd gs k) → ∃ t, exec (.vins w vd gs k) s = .next t ∧
        s.OnlyV t w vd (fun i => if i = k.toNat then x.rg gs else x.rv vd i) c 2 1) ∧
    (s.dev.Issues w (kV vs ++ kG gd) noWait c →
      s.dev.Spells w (.vext w gd vs k) → ∃ t, exec (.vext w gd vs k) s = .next t ∧ s.OnlyG t w gd (x.rv vs k.toNat) c 2 1)

/-- R215: VPRED, Table 6-14. Every result has a latency of 1. -/
def Obligations.VpredResults : Prop :=
  ∀ (s : State) (w : Fin 80) (pd ps pt : BitVec 2) (gd gs : BitVec 5) (c : Nat), s.Settled →
    let x := s.dev.winder w
    (s.dev.Issues w (kP ps ++ kP pt ++ kP pd) noWait c →
      ∀ e ∈ ([(.pand, fun a b => a && b), (.por, fun a b => a || b), (.pxor, fun a b => a != b), (.pandn, fun a b => a && !b)] :
          List ((Fin 80 → BitVec 2 → BitVec 2 → BitVec 2 → Instr) × (Bool → Bool → Bool))),
        s.dev.Spells w (e.1 w pd ps pt) → ∃ (t : State) (m : Byte), exec (e.1 w pd ps pt) s = .next t ∧ s.OnlyP t w pd m c 1 1 ∧
          ∀ i, i < 8 → m.getLsbD i = e.2 ((x.rp ps).getLsbD i) ((x.rp pt).getLsbD i)) ∧
    (s.dev.Issues w (kP pd) noWait c → ∀ imm : Byte, s.dev.Spells w (.pset w pd imm) → ∃ t, exec (.pset w pd imm) s = .next t ∧ s.OnlyP t w pd imm c 1 1) ∧
    (s.dev.Issues w (kP ps ++ kP pd) noWait c →
      s.dev.Spells w (.pfirst w pd ps) → ∃ (t : State) (m : Byte), exec (.pfirst w pd ps) s = .next t ∧ s.OnlyP t w pd m c 1 1 ∧
        ∀ i, i < 8 → m.getLsbD i = ((x.rp ps).getLsbD i && (List.range i).all fun j => !(x.rp ps).getLsbD j)) ∧
    (s.dev.Issues w (kP ps ++ kG gd) noWait c →
      (s.dev.Spells w (.pcnt w gd ps) → ∃ t, exec (.pcnt w gd ps) s = .next t ∧
        s.OnlyG t w gd (BitVec.ofNat 32 ((List.range 8).filter fun i => (x.rp ps).getLsbD i).length) c 1 1) ∧
      (s.dev.Spells w (.ptog w gd ps) → ∃ t, exec (.ptog w gd ps) s = .next t ∧ s.OnlyG t w gd ((x.rp ps).zeroExtend 32) c 1 1)) ∧
    (s.dev.Issues w (kG gs ++ kP pd) noWait c →
      s.dev.Spells w (.pfromg w pd gs) → ∃ t, exec (.pfromg w pd gs) s = .next t ∧ s.OnlyP t w pd ((x.rg gs).setWidth 8) c 1 1)

/-- R205, R206, R207 for local data memory: LDW, STW, LDV and STV. The effective address is the base, or with PI clear base plus
displacement, aligned down; with PI the base takes the displacement, ready one cycle after issue; a load into its own base keeps the
loaded value, a store from its own base stores the value before the increment. A store stores its words alone. -/
def Obligations.LocalMemoryAccess : Prop :=
  ∀ (s : State) (w : Fin 80) (rd rb : BitVec 5) (vd : BitVec 4) (pi : Bool) (disp : BitVec 15) (c : Nat), s.Settled →
    let x := s.dev.winder w
    let base := x.rg rb
    let ea : Word := if pi then base else base + disp.signExtend 32
    let aw := ea.toNat / 4 * 4
    let av := ea.toNat / 32 * 32
    let inc (n : BitVec 5) : Word := if n = 0 then 0 else if pi ∧ n = rb then base + disp.signExtend 32 else x.rg n
    let storable (a : Nat) : Prop := a < 0x10000 ∧ (a < 0xE000 ∨ s.dev.calBusy x.port = false)
    let others (t : State) : Prop := x.SameRun (t.dev.winder w) ∧ x.FellThrough (t.dev.winder w) c 1 ∧ x.SamePorts (t.dev.winder w) ∧
      s.SameOutside t w true
    (s.dev.Issues w (kG rb ++ kG rd) localAt c → aw < 0x10000 →
      s.dev.Spells w (.ldw w rd rb pi disp) → ∃ t, exec (.ldw w rd rb pi disp) s = .next t ∧ others t ∧ x.SameRegs (t.dev.winder w) false true true true ∧
        (∀ n, (t.dev.winder w).rg n = if n = 0 then 0 else if n = rd then x.lw aw else inc n) ∧
        ∀ k, sget (fun _ => 0) (t.dev.winder w).ready k =
          if k ∈ kG rd then c + 3 else if pi ∧ k ∈ kG rb then c + 1 else sget (fun _ => 0) x.ready k) ∧
    (s.dev.Issues w (kG rb ++ kG rd) localAt c → storable aw →
      s.dev.Spells w (.stw w rd rb pi disp) → ∃ t, exec (.stw w rd rb pi disp) s = .next t ∧ others t ∧ x.SameRegs (t.dev.winder w) false true true false ∧
        (∀ n, (t.dev.winder w).rg n = inc n) ∧
        (∀ a, (t.dev.winder w).lw a = if a / 4 = aw / 4 then x.rg rd else x.lw a) ∧
        ∀ k, sget (fun _ => 0) (t.dev.winder w).ready k = if pi ∧ k ∈ kG rb then c + 1 else sget (fun _ => 0) x.ready k) ∧
    (s.dev.Issues w (kG rb ++ kV vd) localAt c → av < 0x10000 →
      s.dev.Spells w (.ldv w vd rb pi disp) → ∃ t, exec (.ldv w vd rb pi disp) s = .next t ∧ others t ∧ x.SameRegs (t.dev.winder w) false false true true ∧
        (∀ n, (t.dev.winder w).rg n = inc n) ∧
        (∀ n i, i < 8 → (t.dev.winder w).rv n i = if n = vd then x.lw (av + 4 * i) else x.rv n i) ∧
        ∀ k, sget (fun _ => 0) (t.dev.winder w).ready k =
          if k ∈ kV vd then c + 3 else if pi ∧ k ∈ kG rb then c + 1 else sget (fun _ => 0) x.ready k) ∧
    (s.dev.Issues w (kG rb ++ kV vd) localAt c → storable av →
      s.dev.Spells w (.stv w vd rb pi disp) → ∃ t, exec (.stv w vd rb pi disp) s = .next t ∧ others t ∧ x.SameRegs (t.dev.winder w) false true true false ∧
        (∀ n, (t.dev.winder w).rg n = inc n) ∧
        (∀ a, (t.dev.winder w).lw a = if av ≤ a ∧ a < av + 32 then x.rv vd ((a - av) / 4) else x.lw a) ∧
        ∀ k, sget (fun _ => 0) (t.dev.winder w).ready k = if pi ∧ k ∈ kG rb then c + 1 else sget (fun _ => 0) x.ready k)

/-- R198, R205 and R206 for the allocation-table window: LDA, LDAV and LDAG read words of the served tree port's records; a load takes
the port for one cycle, LDAG for eight, and is outstanding until its result is ready. -/
def Obligations.AllocationLoads : Prop :=
  ∀ (s : State) (w : Fin 80) (rd rb : BitVec 5) (vd vb : BitVec 4) (pi : Bool) (disp : BitVec 15) (c : Nat), s.Settled →
    let x := s.dev.winder w
    let base := x.rg rb
    let sum (b : Word) : Word := b + disp.signExtend 32
    let ea (b : Word) : Word := if pi then b else sum b
    let word (a : Nat) : Word := sget (fun _ => 0) (s.dev.port x.port).wnd.alloc (a / 4)
    let aw (b : Word) : Nat := (ea b).toNat / 4 * 4
    let av := (ea base).toNat / 32 * 32
    let inc (n : BitVec 5) : Word := if n = 0 then 0 else if pi ∧ n = rb then sum base else x.rg n
    let others (t : State) (occ lat : Nat) : Prop := x.SameRun (t.dev.winder w) ∧ x.FellThrough (t.dev.winder w) c 1 ∧
      s.SameOutside t w true ∧ (t.dev.winder w).portFree = c + occ ∧
      (t.dev.winder w).loads = (x.loads.filter fun e => decide (c < e)) ++ [c + lat] ∧
      (t.dev.winder w).calFree = x.calFree ∧ (t.dev.winder w).localFree = x.localFree
    (s.dev.Issues w (kG rb ++ kG rd) loadAt c → aw base < 0x40000 →
      s.dev.Spells w (.lda w rd rb pi disp) → ∃ t, exec (.lda w rd rb pi disp) s = .next t ∧ others t 1 12 ∧ x.SameRegs (t.dev.winder w) false true true true ∧
        (∀ n, (t.dev.winder w).rg n = if n = 0 then 0 else if n = rd then word (aw base) else inc n) ∧
        ∀ k, sget (fun _ => 0) (t.dev.winder w).ready k =
          if k ∈ kG rd then c + 12 else if pi ∧ k ∈ kG rb then c + 1 else sget (fun _ => 0) x.ready k) ∧
    (s.dev.Issues w (kG rb ++ kV vd) loadAt c → av < 0x40000 →
      s.dev.Spells w (.ldav w vd rb pi disp) → ∃ t, exec (.ldav w vd rb pi disp) s = .next t ∧ others t 1 12 ∧ x.SameRegs (t.dev.winder w) false false true true ∧
        (∀ n, (t.dev.winder w).rg n = inc n) ∧
        (∀ n i, i < 8 → (t.dev.winder w).rv n i = if n = vd then word (av + 4 * i) else x.rv n i) ∧
        ∀ k, sget (fun _ => 0) (t.dev.winder w).ready k =
          if k ∈ kV vd then c + 12 else if pi ∧ k ∈ kG rb then c + 1 else sget (fun _ => 0) x.ready k) ∧
    (s.dev.Issues w (kV vb ++ kV vd) loadAt c → (∀ i, i < 8 → aw (x.rv vb i) < 0x40000) →
      s.dev.Spells w (.ldag w vd vb pi disp) → ∃ t, exec (.ldag w vd vb pi disp) s = .next t ∧ others t 8 19 ∧ x.SameRegs (t.dev.winder w) true false true true ∧
        (∀ n i, i < 8 → (t.dev.winder w).rv n i =
          if n = vd then word (aw (x.rv vb i)) else if pi ∧ n = vb then sum (x.rv vb i) else x.rv n i) ∧
        ∀ k, sget (fun _ => 0) (t.dev.winder w).ready k =
          if k ∈ kV vd then c + 19 else if pi ∧ k ∈ kV vb then c + 2 else sget (fun _ => 0) x.ready k)

/-- R165 and R206: STA stores a word into bytes 48 to 63 of a record of the served tree port; a store to bytes 0 to 47 has no effect. -/
def Obligations.AllocationStore : Prop :=
  ∀ (s : State) (w : Fin 80) (rd rb : BitVec 5) (pi : Bool) (disp : BitVec 15) (c : Nat), s.Settled →
    let x := s.dev.winder w
    let base := x.rg rb
    let a := (if pi then base else base + disp.signExtend 32).toNat / 4 * 4
    s.dev.Issues w (kG rb ++ kG rd) portAt c → a < 0x40000 →
      s.dev.Spells w (.sta w rd rb pi disp) → ∃ t, exec (.sta w rd rb pi disp) s = .next t ∧ x.SameRun (t.dev.winder w) ∧ x.FellThrough (t.dev.winder w) c 1 ∧
        s.SameOutside t w false ∧ x.SameRegs (t.dev.winder w) false true true true ∧
        (∀ n, (t.dev.winder w).rg n = if n = 0 then 0 else if pi ∧ n = rb then base + disp.signExtend 32 else x.rg n) ∧
        (t.dev.winder w).portFree = c + 1 ∧ (t.dev.winder w).loads = x.loads ∧
        (∀ p, p ≠ x.port → t.dev.port p = s.dev.port p) ∧
        (let q := s.dev.port x.port
         t.dev.port x.port = { q with wnd := { q.wnd with alloc := (t.dev.port x.port).wnd.alloc } } ∧
         ∀ k, sget (fun _ => 0) (t.dev.port x.port).wnd.alloc k =
           if k = a / 4 ∧ 48 ≤ a % 64 then x.rg rd else sget (fun _ => 0) q.wnd.alloc k)

/-- R208 and R210: the conditional branches. The target is (PC + 1 + sext(off)) mod 4,096. A taken branch costs 3 and pops every loop
entry from the outermost one that its target leaves; a branch not taken falls through. -/
def Obligations.BranchResults : Prop :=
  ∀ (s : State) (w : Fin 80) (rs rt : BitVec 5) (off : Half) (c : Nat), s.Settled →
    let x := s.dev.winder w
    let target := (((x.pc.toNat : Int) + 1 + off.toInt) % 4096).toNat
    let inside (e : LoopEnt) : Prop := e.start ≤ target ∧ target ≤ e.stop
    s.dev.Issues w (kG rs ++ kG rt) noWait c → (∀ e ∈ x.loops, e.stop ≠ x.pc.toNat) → target < s.dev.icount x.port →
    ∀ e ∈ ([(.beq, fun a b => decide (a = b)), (.bne, fun a b => decide (a ≠ b)), (.blt, fun a b => decide (a.toInt < b.toInt)),
        (.bge, fun a b => decide (b.toInt ≤ a.toInt)), (.bltu, fun a b => decide (a.toNat < b.toNat)),
        (.bgeu, fun a b => decide (b.toNat ≤ a.toNat))] :
          List ((Fin 80 → BitVec 5 → BitVec 5 → Half → Instr) × (Word → Word → Bool))),
      s.dev.Spells w (e.1 w rs rt off) → ∃ t, exec (e.1 w rs rt off) s = .next t ∧ x.SameRegs (t.dev.winder w) true true true true ∧ x.SameRun (t.dev.winder w) ∧
        (t.dev.winder w).ready = x.ready ∧ x.SamePorts (t.dev.winder w) ∧ s.SameOutside t w true ∧
        if e.2 (x.rg rs) (x.rg rt) then
          (t.dev.winder w).pc.toNat = target ∧ (t.dev.winder w).cycle = c + 3 ∧
          ∃ k, (t.dev.winder w).loops = x.loops.drop k ∧ (∀ l ∈ x.loops.drop k, inside l) ∧
            ∀ j, k = j + 1 → ∀ l, x.loops[j]? = some l → ¬inside l
        else x.FellThrough (t.dev.winder w) c 1

/-- R208: JAL and JALR go to their target at a cost of 3 and write PC + 1 to rd, ready one cycle later; JALR reads g[rs] before it writes
g[rd]. The loop stack is unchanged (R210). -/
def Obligations.JumpResults : Prop :=
  ∀ (s : State) (w : Fin 80) (rd rs : BitVec 5) (target : BitVec 12) (c : Nat), s.Settled →
    let x := s.dev.winder w
    let done (t : State) (tgt : Nat) : Prop :=
      (∀ n, (t.dev.winder w).rg n = if n = 0 then 0 else if n = rd then BitVec.ofNat 32 ((x.pc.toNat + 1) % 4096) else x.rg n) ∧
      x.SameRegs (t.dev.winder w) false true true true ∧ x.SameRun (t.dev.winder w) ∧ (t.dev.winder w).loops = x.loops ∧
      (t.dev.winder w).pc.toNat = tgt ∧ (t.dev.winder w).cycle = c + 3 ∧ x.SamePorts (t.dev.winder w) ∧ s.SameOutside t w true ∧
      ∀ k, sget (fun _ => 0) (t.dev.winder w).ready k = if k ∈ kG rd then c + 1 else sget (fun _ => 0) x.ready k
    (∀ e ∈ x.loops, e.stop ≠ x.pc.toNat) →
    (s.dev.Issues w (kG rd) noWait c → target.toNat < s.dev.icount x.port →
      s.dev.Spells w (.jal w rd target) → ∃ t, exec (.jal w rd target) s = .next t ∧ done t target.toNat) ∧
    (s.dev.Issues w (kG rs ++ kG rd) noWait c → (x.rg rs).toNat % 4096 < s.dev.icount x.port →
      s.dev.Spells w (.jalr w rd rs) → ∃ t, exec (.jalr w rd rs) s = .next t ∧ done t ((x.rg rs).toNat % 4096))

/-- R209: LOOP and LOOPI. A count of 0 skips the body; otherwise the entry is pushed and the body begins. The step at the end of a
body: back to its start while passes remain, else the entry is popped, and an entry that shares the end takes the step too. -/
def Obligations.LoopResults : Prop :=
  (∀ (s : State) (w : Fin 80) (rs : BitVec 5) (count len : BitVec 12) (c : Nat), s.Settled →
    let x := s.dev.winder w
    let a := x.pc.toNat
    let ends := a + len.toNat
    let body (n : Nat) : Prop := 0 < len.toNat ∧ n ≤ 4096 ∧ ends ≤ 4095 ∧ ends < s.dev.icount x.port ∧ x.loops.length < 4 ∧
      ∀ e ∈ x.loops, e.stop ≠ a ∧ ends ≤ e.stop
    let done (t : State) (n : Nat) : Prop :=
      x.SameRegs (t.dev.winder w) true true true true ∧ x.SameRun (t.dev.winder w) ∧ (t.dev.winder w).ready = x.ready ∧
      x.SamePorts (t.dev.winder w) ∧ s.SameOutside t w true ∧ (t.dev.winder w).cycle = c + 1 ∧
      if n = 0 then (t.dev.winder w).pc.toNat = (ends + 1) % 4096 ∧ (t.dev.winder w).loops = x.loops
      else (t.dev.winder w).pc.toNat = a + 1 ∧ (t.dev.winder w).loops = ⟨a + 1, ends, n⟩ :: x.loops
    (s.dev.Issues w (kG rs) noWait c → body (x.rg rs).toNat →
      s.dev.Spells w (.loopR w rs len) → ∃ t, exec (.loopR w rs len) s = .next t ∧ done t (x.rg rs).toNat) ∧
    (s.dev.Issues w [] noWait c → let n := if count.toNat = 0 then 4096 else count.toNat
      body n → s.dev.Spells w (.loopi w count len) → ∃ t, exec (.loopi w count len) s = .next t ∧ done t n)) ∧
  (∀ pc : Nat, loopStep pc [] = ((pc + 1) % 4096, [])) ∧
  (∀ (pc : Nat) (e : LoopEnt) (l : List LoopEnt), pc ≠ e.stop → loopStep pc (e :: l) = ((pc + 1) % 4096, e :: l)) ∧
  (∀ (e : LoopEnt) (l : List LoopEnt), 1 < e.left → loopStep e.stop (e :: l) = (e.start, { e with left := e.left - 1 } :: l)) ∧
  ∀ (e : LoopEnt) (l : List LoopEnt), e.left ≤ 1 → loopStep e.stop (e :: l) = loopStep e.stop l

/-- R216: after WAIT the next instruction issues in the first cycle with CYC at or above t, at the earliest in the next one. SAMPLE costs 1
and, while the profiler of its cluster records this winder, leaves a marker record that carries its tag. HALT ends the run, whose map
is then no sealed one. -/
def Obligations.SystemResults : Prop :=
  ∀ (s : State) (w : Fin 80) (rs : BitVec 5) (imm tag : Half) (c : Nat), s.Settled →
    let x := s.dev.winder w
    let same (t : State) : Prop := x.SameRegs (t.dev.winder w) true true true true ∧ (t.dev.winder w).ready = x.ready ∧
      x.SamePorts (t.dev.winder w)
    (s.dev.Issues w (kG rs) noWait c →
      s.dev.Spells w (.wait w rs imm) → ∃ t, exec (.wait w rs imm) s = .next t ∧ same t ∧ x.SameRun (t.dev.winder w) ∧ s.SameOutside t w true ∧
        x.FellThrough (t.dev.winder w) c (max 1 ((x.rg rs + imm.zeroExtend 32).toNat - (x.cyc0 + c)))) ∧
    (s.dev.Issues w [] noWait c →
      (s.dev.Spells w (.sample w tag) → ∃ t, exec (.sample w tag) s = .next t ∧ same t ∧ x.SameRun (t.dev.winder w) ∧ s.SameOutside t w true ∧
        x.FellThrough (t.dev.winder w) c 1 ∧
        (s.dev.profWatches w = true → ((s.dev.profIssue w c).cluster (w / 5)).prof.on = true →
          ∃ r, (t.dev.cluster (w / 5)).prof.recs.getLast? = some r ∧ r.marker = true ∧ r.pc = x.pc.toNat ∧
            r.word = 0xF4000000#32 ||| tag.zeroExtend 32)) ∧
      (x.port < 64 → (s.dev.port x.port).wnd.winder = w →
        s.dev.Spells w (.halt w) → ∃ t, exec (.halt w) s = .next t ∧ same t ∧ (t.dev.winder w).running = false ∧ (t.dev.port x.port).wnd.run = .halted))

/-- R224: VFT computes eight finish tags, ready 4 cycles after issue. -/
def Obligations.FinishTags : Prop :=
  ∀ (s : State) (w : Fin 80) (vd vs : BitVec 4) (src : VecSrc) (pr : Pred) (c : Nat), s.Settled → pr.noZero = true →
    s.dev.Issues w (kV vs ++ vecKeys src ++ predKeys pr ++ kV vd) noWait c →
    s.dev.Spells w (.vft w vd vs src pr) → ∃ t, exec (.vft w vd vs src pr) s = .next t ∧
      s.OnlyV t w vd (fun i =>
        let x := s.dev.winder w
        let p := (s.dev.port x.port).wnd
        let cont := match pr with
          | .all => true
          | .merging n => (x.rp n).getLsbD i
          | .zeroing n => (x.rp n).getLsbD i
        let prev := x.rv vd i
        let weight := match src with
          | .vec n => (x.rv n i).toNat
          | .sca n => (x.rg n).toNat
        let start := if cont = true ∧ (prev - p.v).toNat < 2 ^ 31 then prev.toNat else p.v.toNat
        let cost := if weight = 0 then 2 ^ 30 else min (((x.rv vs i).toNat * 2 ^ p.shift + weight - 1) / weight) (2 ^ 30)
        BitVec.ofNat 32 (start + cost)) c 4 1

/-- R225: the VTNOW group reads and sets the virtual time V and the cost scale SHIFT of the served tree port. -/
def Obligations.VirtualTime : Prop :=
  ∀ (s : State) (w : Fin 80) (rd rs : BitVec 5) (c : Nat), s.Settled →
    let x := s.dev.winder w
    let q := s.dev.port x.port
    let g := x.rg rs
    let port (t : State) (v : Word) (sh : Nat) : Prop := s.SameOutside t w false ∧ (∀ p, p ≠ x.port → t.dev.port p = s.dev.port p) ∧
      t.dev.port x.port = { q with wnd := { q.wnd with v := v, shift := sh } }
    let only (t : State) : Prop := x.SameRegs (t.dev.winder w) true true true true ∧ x.SameRun (t.dev.winder w) ∧
      (t.dev.winder w).ready = x.ready ∧ x.FellThrough (t.dev.winder w) c 1 ∧ x.SamePorts (t.dev.winder w)
    (s.dev.Issues w (kG rd) noWait c → s.dev.Spells w (.vtnow w rd) → ∃ t, exec (.vtnow w rd) s = .next t ∧ s.OnlyG t w rd q.wnd.v c 1 1) ∧
    (s.dev.Issues w (kG rs ++ kG rd) noWait c →
      let v := if 1 ≤ (g - q.wnd.v).toNat ∧ (g - q.wnd.v).toNat < 2 ^ 31 then g else q.wnd.v
      s.dev.Spells w (.vtadv w rd rs) → ∃ t, exec (.vtadv w rd rs) s = .next t ∧ s.WroteG t w rd v c 1 1 ∧ x.SamePorts (t.dev.winder w) ∧ port t v q.wnd.shift) ∧
    (s.dev.Issues w (kG rs) noWait c →
      (s.dev.Spells w (.vtset w rs) → ∃ t, exec (.vtset w rs) s = .next t ∧ only t ∧ port t g q.wnd.shift) ∧
      (s.dev.Spells w (.vtshift w rs) → ∃ t, exec (.vtshift w rs) s = .next t ∧ only t ∧ port t q.wnd.v (g.toNat % 16)))

/-- R227 and R228: the calendar wheel. CALINS appends a record that is not in the calendar to the tail of its slot; CALPOP takes the record at
the head; CALCNT reads the count. Each takes the calendar for three cycles. -/
def Obligations.CalendarWheel : Prop :=
  ∀ (s : State) (w : Fin 80) (rd rs rt : BitVec 5) (c : Nat), s.Settled →
    let x := s.dev.winder w
    let q := s.dev.port x.port
    let k := (x.rg rs).toNat % 1024
    let r := (x.rg rt).toNat % 4096
    let slot (t : State) (j : Nat) : CalSlot := sget (fun _ => {}) (t.dev.port x.port).wnd.cal j
    let old := sget (fun _ => {}) q.wnd.cal k
    let frame (t : State) : Prop := s.SameOutside t w false ∧ (∀ p, p ≠ x.port → t.dev.port p = s.dev.port p) ∧
      t.dev.port x.port = { q with wnd := { q.wnd with cal := (t.dev.port x.port).wnd.cal } } ∧ x.SameRun (t.dev.winder w) ∧
      x.FellThrough (t.dev.winder w) c 1 ∧ (t.dev.winder w).calFree = c + 3 ∧ (∀ j, j ≠ k → slot t j = sget (fun _ => {}) q.wnd.cal j) ∧
      x.SameRegs (t.dev.winder w) false true true false ∧ (t.dev.winder w).portFree = x.portFree ∧ (t.dev.winder w).loads = x.loads
    let wrote (t : State) (v : Word) (lat : Nat) : Prop :=
      (∀ n, (t.dev.winder w).rg n = if n = 0 then 0 else if n = rd then v else x.rg n) ∧
      ∀ j, sget (fun _ => 0) (t.dev.winder w).ready j = if j ∈ kG rd then c + lat else sget (fun _ => 0) x.ready j
    let lmemSame (t : State) : Prop := ∀ a, (t.dev.winder w).lw a = x.lw a
    (q.wnd.calOpen = false → s.dev.Issues w (kG rs ++ kG rt ++ kG rd) calAt c →
      (x.member r = true → s.dev.Spells w (.calins w rd rs rt) → ∃ t, exec (.calins w rd rs rt) s = .next t ∧ frame t ∧ wrote t 0xFFFFFFFF 4 ∧ slot t k = old ∧ lmemSame t) ∧
      (x.member r = false → s.dev.Spells w (.calins w rd rs rt) → ∃ t, exec (.calins w rd rs rt) s = .next t ∧ frame t ∧ wrote t (BitVec.ofNat 32 (old.count + 1)) 4 ∧
        slot t k = { head := if old.count = 0 then r else old.head, tail := r, count := old.count + 1 } ∧
        (t.dev.winder w).member r = true ∧ (old.count ≠ 0 → (t.dev.winder w).nextRec old.tail = r))) ∧
    (q.wnd.calOpen = false → s.dev.Issues w (kG rs ++ kG rd) calAt c →
      (old.count = 0 → s.dev.Spells w (.calpop w rd rs) → ∃ t, exec (.calpop w rd rs) s = .next t ∧ frame t ∧ wrote t 0xFFFFFFFF 5 ∧ slot t k = old ∧ lmemSame t) ∧
      (old.count ≠ 0 → s.dev.Spells w (.calpop w rd rs) → ∃ t, exec (.calpop w rd rs) s = .next t ∧ frame t ∧ wrote t (BitVec.ofNat 32 old.head) 5 ∧
        (t.dev.winder w).member old.head = false ∧ (slot t k).count = old.count - 1 ∧
        (old.count ≠ 1 → (slot t k).head = x.nextRec old.head ∧ (slot t k).tail = old.tail)) ∧
      (s.dev.Spells w (.calcnt w rd rs) → ∃ t, exec (.calcnt w rd rs) s = .next t ∧ frame t ∧ wrote t (BitVec.ofNat 32 old.count) 5 ∧
        slot t k = old ∧ lmemSame t)) ∧
    (q.wnd.calOpen = true →
      (s.dev.Issues w (kG rs ++ kG rt ++ kG rd) calAt c → s.dev.Spells w (.calins w rd rs rt) →
        ∃ t v, exec (.calins w rd rs rt) s = .next t ∧ wrote t v 4 ∧ x.FellThrough (t.dev.winder w) c 1) ∧
      (s.dev.Issues w (kG rs ++ kG rd) calAt c → ∀ f ∈ [Instr.calpop, .calcnt], s.dev.Spells w (f w rd rs) →
        ∃ t v, exec (f w rd rs) s = .next t ∧ wrote t v 5 ∧ x.FellThrough (t.dev.winder w) c 1))

/-- R229: RPTGET fetches the next report of the frame's set in queue order into rd and rt; RPTCNT counts the entries not yet fetched. With rd = rt
the manual does not say which of the two results stays, so RPTGET is stated for two registers. -/
def Obligations.ReportFetch : Prop :=
  ∀ (s : State) (w : Fin 80) (rd rt : BitVec 5) (c : Nat), s.Settled →
    let x := s.dev.winder w
    let q := s.dev.port x.port
    let set := q.wnd.rptSet
    (s.dev.Issues w (kG rd ++ kG rt) noWait c → rd ≠ rt →
      let a : Word := match set with
        | [] => 0xFFFFFFFF
        | r :: _ => BitVec.ofNat 32 r.ri
      let b : Word := match set with
        | [] => 0
        | r :: _ => BitVec.ofNat 32 r.bytes
      s.dev.Spells w (.rptget w rd rt) → ∃ t, exec (.rptget w rd rt) s = .next t ∧ s.SameOutside t w false ∧ (∀ p, p ≠ x.port → t.dev.port p = s.dev.port p) ∧
        t.dev.port x.port = { q with wnd := { q.wnd with rptSet := set.drop 1, rptFetched := q.wnd.rptFetched ++ set.take 1 } } ∧
        (∀ n, (t.dev.winder w).rg n = if n = 0 then 0 else if n = rt then b else if n = rd then a else x.rg n) ∧
        x.SameRegs (t.dev.winder w) false true true true ∧ x.SameRun (t.dev.winder w) ∧ x.FellThrough (t.dev.winder w) c 1 ∧
        ∀ k, sget (fun _ => 0) (t.dev.winder w).ready k = if k ∈ kG rd ∨ k ∈ kG rt then c + 6 else sget (fun _ => 0) x.ready k) ∧
    (s.dev.Issues w (kG rd) noWait c →
      s.dev.Spells w (.rptcnt w rd) → ∃ t, exec (.rptcnt w rd) s = .next t ∧ s.OnlyG t w rd (BitVec.ofNat 32 set.length) c 6 1)

/-- R173, R174, R231, R232, R234 and R235: the instructions that build the map. RNGTAIL reads the tail of a lane's map. GRANT answers 1 for a grant
that does not fit its record, lane, profile or frame, 2 for one that meets what it may not displace, 3 for a full map; any other is accepted, and
displaces the grants that it meets. RNGWIN places the lane's oldest ranging request, else its oldest discovery request, where words are free,
and else defers it. PRECUT brings a list of demands to its budget. The results are ready after 20, 24 and 24 + 3n + 16c cycles (Table 7-2). -/
def Obligations.MapInstructions : Prop :=
  ∀ (s : State) (w : Fin 80) (rd rs rt : BitVec 5) (c : Nat), s.Settled →
    let x := s.dev.winder w
    let q := s.dev.port x.port
    let a := (x.rg rs).toNat
    let b := (x.rg rt).toNat
    let alone (t : State) : Prop := ∀ p, p ≠ x.port → t.dev.port p = s.dev.port p
    (s.dev.Issues w (kG rs ++ kG rd) noWait c → s.dev.Spells w (.rngtail w rd rs) → ∃ t, exec (.rngtail w rd rs) s = .next t ∧
      s.OnlyG t w rd (BitVec.ofNat 32 (q.lane (if a % 2 = 0 then .main else .comp)).map.tail) c 4 1) ∧
    (s.dev.Issues w (kG rs ++ kG rt ++ kG rd) noWait c → a / 2 ^ 20 = 0 → a / 2 ^ 14 % 4 = 0 → q.wnd.odd = false →
      let ri := a % 4096
      let l : Lane := if q.wnd.rLane ri = 0 then .main else .comp
      let y := q.lane l
      let pr := q.prof (a / 2 ^ 12 % 4)
      let flag (n : Nat) : Bool := bitOf (a / 2 ^ 16) n
      let start : Nat := b % 2 ^ 16
      let size : Nat := if flag 3 then 1 else b / 2 ^ 16
      let lo : Int := start * wordF y.gen - pr.hdrBits * bitF y.gen pr.rate
      let hi : Int := (start + size) * wordF y.gen + pr.guardBits * bitF y.gen pr.rate
      let clash (i : Int × Int) : Bool := decide (i.1 < hi ∧ lo < i.2)
      let hit := y.map.grants.filter fun g => clash (g.span y.gen)
      let fits : Prop := q.wnd.rValid ri = true ∧ (q.term (q.wnd.rTerm ri)).ranged = true ∧ y.live = true ∧ pr.valid = true ∧ pr.lane = l ∧
        0 ≤ lo ∧ hi ≤ frameF
      let meetsKept : Prop := clash (0, (y.map.tail * wordF y.gen : Nat)) = true ∨ (∃ v ∈ y.map.wins, clash (v.span y.gen) = true) ∨
        ∃ g ∈ hit, q.wnd.rClass ri = 0 ∨ classRank g.cls ≤ classRank (q.wnd.rClass ri)
      let full : Prop := 2048 ≤ y.map.entries - hit.length
      let g : Grant :=
        { ri := ri, allocId := q.wnd.rAllocId ri, term := q.wnd.rTerm ri, lane := l, cls := q.wnd.rClass ri, start := start, size := size
          profIx := a / 2 ^ 12 % 4, prof := pr, ploamUp := flag 0, rptReq := flag 1 || flag 3, wake := flag 2, witness := flag 3 }
      s.dev.Spells w (.grant w rd rs rt) → ∃ t, exec (.grant w rd rs rt) s = .next t ∧ alone t ∧
        (¬fits → s.WroteG t w rd 1 c 20 2 ∧ t.dev.port x.port = q) ∧
        (fits → meetsKept → s.WroteG t w rd 2 c 20 2 ∧ t.dev.port x.port = q) ∧
        (fits → ¬meetsKept → full → s.WroteG t w rd 3 c 20 2 ∧ t.dev.port x.port = q) ∧
        (fits → ¬meetsKept → ¬full → s.WroteG t w rd (BitVec.ofNat 32 (hit.length % 256 * 256)) c 20 2 ∧
          t.dev.port x.port = q.modLane l fun _ => { y with map := { y.map with
            grants := (y.map.grants.filter fun g => !clash (g.span y.gen)) ++ [g] } })) ∧
    (s.dev.Issues w (kG rs ++ kG rt ++ kG rd) noWait c → a / 2 % 2 ^ 15 = 0 → b / 2 ^ 16 = 0 → s.dev.Spells w (.rngwin w rd rs rt) →
      let l : Lane := if a % 2 = 0 then .main else .comp
      let y := q.lane l
      let n := wordsPerFrame y.gen
      (q.oldestReq l = none → ∃ t, exec (.rngwin w rd rs rt) s = .next t ∧ alone t ∧ s.WroteG t w rd 0 c 24 24 ∧ t.dev.port x.port = q) ∧
      ∀ req, q.oldestReq l = some req →
        let pr := q.prof req.prof
        let o := b - pr.hw y.gen
        let kind := if req.ranging then 2 ^ 19 else 2 ^ 18
        let last := 2 * n - min (a / 2 ^ 16) n
        let stop := match nextBlock y.gen y.map o with
          | some e => min e last
          | none => last
        let win : Win := { req := req, s := b, o := o, len := min ((req.wUs * n + 124) / 125) (stop - o), prof := pr }
        let clash (g : Grant) : Bool := meets (g.span y.gen) (win.span y.gen)
        let fits : Prop := pr.hw y.gen ≤ b ∧ y.live = true ∧ y.map.tail ≤ o ∧ o < n ∧ blocked y.gen y.map o = false ∧
          (16 * n + 124) / 125 ≤ win.len ∧ y.map.entries - (y.map.grants.filter clash).length < 2048
        ∃ t, exec (.rngwin w rd rs rt) s = .next t ∧ alone t ∧
          (¬fits → s.WroteG t w rd (BitVec.ofNat 32 (kind + 2 ^ 20)) c 24 24 ∧ t.dev.port x.port = q) ∧
          (fits → s.WroteG t w rd (BitVec.ofNat 32 (win.len + kind)) c 24 24 ∧
            t.dev.port x.port = { (q.modLane l fun _ => { y with
                map := { y.map with grants := y.map.grants.filter fun g => !clash g, wins := y.map.wins ++ [win] }
                disc := if req.ranging then y.disc else y.disc.onPlaced }) with
              rngReqs := dropFirst (fun r => r == req) q.rngReqs })) ∧
    (s.dev.Issues w (kG rs ++ kG rt ++ kG rd) precutAt c →
      let at0 := a / 4 * 4
      let h := (x.lw at0).toNat
      let ri (k : Nat) : Nat := (x.lw (at0 + 4 + 8 * k)).toNat
      let dem (k : Nat) : Nat := (x.lw (at0 + 8 + 8 * k)).toNat
      let l := (List.range h).map fun k => (⟨ri k, dem k % 2 ^ 16, dem k / 2 ^ 16⟩ : Demand)
      let cuts := precut q.wnd l b
      let cost := 24 + 3 * h + 16 * cuts.length
      h ≤ 4096 → at0 + 4 + 8 * h ≤ 0x10000 → (∀ k, k < h → ri k < 4096) → (∀ j k, j < h → k < h → ri j = ri k → j = k) →
      (at0 + 4 + 8 * h ≤ 0xE000 ∨ s.dev.calBusy x.port = false) →
      s.dev.Spells w (.precut w rd rs rt) → ∃ t, exec (.precut w rd rs rt) s = .next t ∧ alone t ∧
        (∀ n, (t.dev.winder w).rg n = if n = 0 then 0 else if n = rd then
          BitVec.ofNat 32 (cuts.foldl (fun m e => m + e.2.1) 0) else x.rg n) ∧
        (∀ k, k < h → (t.dev.winder w).lw (at0 + 8 + 8 * k) = match cuts.find? fun e => e.1 == ri k with
          | none => x.lw (at0 + 8 + 8 * k)
          | some e => BitVec.ofNat 32 (e.2.2 + if e.2.2 = 0 then 0 else dem k / 2 ^ 16 * 2 ^ 16)) ∧
        (∀ m, (∀ k, k < h → m / 4 ≠ (at0 + 8 + 8 * k) / 4) → (t.dev.winder w).lw m = x.lw m) ∧
        t.dev.port x.port = { q with wnd := { q.wnd with marks := cuts.foldl (fun m e => addMark m e.1 e.2.1) q.wnd.marks } } ∧
        x.SameRun (t.dev.winder w) ∧ x.SameRegs (t.dev.winder w) false true true false ∧
        x.FellThrough (t.dev.winder w) c cost ∧ (t.dev.winder w).portFree = c + cost ∧ (t.dev.winder w).localFree = c + cost)

/-- R237: SEAL closes the maps of every running lane of the tree port, the winder stops, and WND_SEAL_CYC records SEALREM at its issue. With
SEALREM below 16 the device may treat the map as missed (R161): `inTime` says which. -/
def Obligations.SealCloses : Prop :=
  ∀ (s : State) (w : Fin 80) (inTime : Bool) (c : Nat), s.Settled →
    let x := s.dev.winder w
    s.dev.Issues w [] noWait c → x.port < 64 → (s.dev.port x.port).wnd.winder = w → s.dev.Spells w (.sealMap w inTime) →
    ((16 ≤ x.rem0 - c ∨ inTime = true) → ∃ t, exec (.sealMap w inTime) s = .next t ∧ (t.dev.winder w).running = false ∧
      (∀ l : Lane, ((t.dev.port x.port).lane l).sealed.isSome = ((s.dev.port x.port).lane l).running) ∧
      (t.dev.port x.port).wnd.run = .sealedOk ∧ (t.dev.port x.port).wnd.sealCyc = x.rem0 - c ∧
      (t.dev.port x.port).wnd.lastMissed = false ∧ ∀ p, p ≠ x.port → t.dev.port p = s.dev.port p) ∧
    (x.rem0 - c < 16 → inTime = false → ∃ t, exec (.sealMap w inTime) s = .next t ∧ (t.dev.winder w).running = false ∧
      ∀ p, t.dev.port p = s.dev.port p)

/-- R218 and R240: the mistakes of Tables 6-21 and 7-9 that an instruction itself shows, and how far each may extend. A word with an RSV bit set, an
address outside its memory, a branch, a jump or a loop that may not stand where it does or leads out of the image: the maps of the tree port.
A store under the calendar: the calendar. A reserved operand bit of GRANT or RNGWIN, a bad PRECUT list: its own result. -/
def Obligations.ProgramMistakesAreBounded : Prop :=
  ∀ (s : State) (w : Fin 80) (rd rs rt : BitVec 5) (vd vs : BitVec 4) (pi : Bool) (disp : BitVec 15)
    (off : Half) (target count len : BitVec 12) (c : Nat), s.Settled →
    let x := s.dev.winder w
    let q := s.dev.port x.port
    let ea (b : Word) : Nat := (if pi then b else b + disp.signExtend 32).toNat
    let aw := ea (x.rg rs) / 4 * 4
    let av := ea (x.rg rs) / 32 * 32
    let inc (n : BitVec 5) : Word := if n = 0 then 0 else if pi ∧ n = rs then x.rg rs + disp.signExtend 32 else x.rg n
    let spoils (i : Instr) : Prop := s.dev.Spells w i → ∃ t, exec i s = .next t ∧ s.SpoiltMaps t x.port w
    let alone (t : State) : Prop := ∀ p, p ≠ x.port → t.dev.port p = s.dev.port p
    let underCalendar (a : Nat) : Prop := 0xE000 ≤ a ∧ a < 0x10000 ∧ s.dev.calBusy x.port = true
    let stored (t : State) : Prop := alone t ∧ t.dev.port x.port = { q with wnd := { q.wnd with cal := (t.dev.port x.port).wnd.cal } } ∧
      (∀ n, (t.dev.winder w).rg n = inc n) ∧ (∀ a, a < 0xE000 → (t.dev.winder w).lw a = x.lw a) ∧ x.FellThrough (t.dev.winder w) c 1
    let atEnd : Prop := ∃ e ∈ x.loops, e.stop = x.pc.toNat
    let image := s.dev.icount x.port
    let body (n : Nat) : Prop := 0 < len.toNat ∧ n ≤ 4096 ∧ x.pc.toNat + len.toNat ≤ 4095 ∧ x.pc.toNat + len.toNat < image ∧
      x.loops.length < 4 ∧ ∀ e ∈ x.loops, e.stop ≠ x.pc.toNat ∧ x.pc.toNat + len.toNat ≤ e.stop
    let a := (x.rg rs).toNat
    let b := (x.rg rt).toNat
    let at0 := a / 4 * 4
    let h := (x.lw at0).toNat
    let ri (k : Nat) : Nat := (x.lw (at0 + 4 + 8 * k)).toNat
    (s.dev.winderUp w = true → x.running = true → (wordInstr w (s.dev.wordAt w)).2 = true →
      ∃ t, exec (wordInstr w (s.dev.wordAt w)).1 s = .next t ∧ s.SpoiltMaps t x.port w) ∧
    (s.dev.Issues w (kG rs ++ kG rd) localAt c → 0x10000 ≤ aw → spoils (.ldw w rd rs pi disp) ∧ spoils (.stw w rd rs pi disp)) ∧
    (s.dev.Issues w (kG rs ++ kV vd) localAt c → 0x10000 ≤ av → spoils (.ldv w vd rs pi disp) ∧ spoils (.stv w vd rs pi disp)) ∧
    (s.dev.Issues w (kG rs ++ kG rd) localAt c → underCalendar aw → s.dev.Spells w (.stw w rd rs pi disp) →
      ∃ t, exec (.stw w rd rs pi disp) s = .next t ∧ stored t) ∧
    (s.dev.Issues w (kG rs ++ kV vd) localAt c → underCalendar av → s.dev.Spells w (.stv w vd rs pi disp) →
      ∃ t, exec (.stv w vd rs pi disp) s = .next t ∧ stored t) ∧
    (s.dev.Issues w (kG rs ++ kG rd) loadAt c → 0x40000 ≤ aw → spoils (.lda w rd rs pi disp)) ∧
    (s.dev.Issues w (kG rs ++ kG rd) portAt c → 0x40000 ≤ aw → spoils (.sta w rd rs pi disp)) ∧
    (s.dev.Issues w (kG rs ++ kV vd) loadAt c → 0x40000 ≤ av → spoils (.ldav w vd rs pi disp)) ∧
    (s.dev.Issues w (kV vs ++ kV vd) loadAt c → (∃ i, i < 8 ∧ 0x40000 ≤ ea (x.rv vs i) / 4 * 4) → spoils (.ldag w vd vs pi disp)) ∧
    (s.dev.Issues w (kG rs ++ kG rt) noWait c → (atEnd ∨ image ≤ (((x.pc.toNat : Int) + 1 + off.toInt) % 4096).toNat) →
      ∀ f ∈ [Instr.beq, .bne, .blt, .bge, .bltu, .bgeu], spoils (f w rs rt off)) ∧
    (s.dev.Issues w (kG rd) noWait c → (atEnd ∨ image ≤ target.toNat) → spoils (.jal w rd target)) ∧
    (s.dev.Issues w (kG rs ++ kG rd) noWait c → (atEnd ∨ image ≤ a % 4096) → spoils (.jalr w rd rs)) ∧
    (s.dev.Issues w (kG rs) noWait c → ¬body a → spoils (.loopR w rs len)) ∧
    (s.dev.Issues w [] noWait c → ¬body (if count = 0 then 4096 else count.toNat) → spoils (.loopi w count len)) ∧
    (s.dev.Issues w (kG rs ++ kG rt ++ kG rd) noWait c →
      ((a / 2 ^ 20 ≠ 0 ∨ a / 2 ^ 14 % 4 ≠ 0) → s.dev.Spells w (.grant w rd rs rt) →
        ∃ t v, exec (.grant w rd rs rt) s = .next t ∧ s.WroteG t w rd v c 20 2 ∧ alone t) ∧
      ((a / 2 % 2 ^ 15 ≠ 0 ∨ b / 2 ^ 16 ≠ 0) → s.dev.Spells w (.rngwin w rd rs rt) →
        ∃ t v, exec (.rngwin w rd rs rt) s = .next t ∧ s.WroteG t w rd v c 24 24 ∧ alone t)) ∧
    (s.dev.Issues w (kG rs ++ kG rt ++ kG rd) precutAt c →
      (4096 < h ∨ 0x10000 < at0 + 4 + 8 * h ∨ (∃ k, k < h ∧ 4096 ≤ ri k) ∨ ∃ j k, j < h ∧ k < h ∧ j ≠ k ∧ ri j = ri k) →
      s.dev.Spells w (.precut w rd rs rt) → ∃ t cost, exec (.precut w rd rs rt) s = .next t ∧ 24 ≤ cost ∧ alone t ∧
        t.dev.port x.port = { q with wnd := { q.wnd with marks := (t.dev.port x.port).wnd.marks } } ∧
        (∀ n, n ≠ rd → (t.dev.winder w).rg n = if n = 0 then 0 else x.rg n) ∧ x.FellThrough (t.dev.winder w) c cost)


/-! ### The block as a whole -/

/-- A step carries out the command at the front of the queue on the state with the queue's rest. -/
def Obligations.StepTakesTheFront : Prop :=
  ∀ (c : Instr) (rest : List Instr) (s : State), s.pending = c :: rest → step s = exec c { s with pending := rest }

/-- On an empty queue with no timeout put off one time-base cycle passes (the model's choice, log entry 1), and nothing but device time moves: by
1 ns and FREQ, which R404 gives, while RESET_N is not asserted. A timeout that gave way to the commands of the cycle, or a fault that waited for
a fail-over (R399), comes first, the oldest that need not wait on (the model's choice, log entry 33). -/
def Obligations.IdleStepIsOneCycle : Prop :=
  ∀ s : State, s.pending = [] →
    (∀ (early : List Instr) (i : Instr) (rest : List Instr), s.dev.late = early ++ i :: rest → (∀ j ∈ early, s.dev.blocked j = true) →
      s.dev.blocked i = false → step s = exec i { s with dev := { s.dev with late := early ++ rest } }) ∧
    ((∀ j ∈ s.dev.late, s.dev.blocked j = true) → ∃ t, step s = .next t ∧
      t = { s with dev := { s.dev with now := s.dev.now + 1, time := t.dev.time } } ∧
      (s.dev.board.resetN = true → t.dev.time = s.dev.time) ∧
      (s.dev.board.resetN = false → -4194304 ≤ s.dev.time.freq →
        (t.dev.devFine : Int) = ((s.dev.devFine : Int) + 2 ^ 32 + s.dev.time.freq) % (2 ^ 48 * 1000000000 * 2 ^ 32) ∧
        t.dev.time.ns < 1000000000 ∧ t.dev.time.frac < 2 ^ 32 ∧
        t.dev.time = { s.dev.time with sec := t.dev.time.sec, ns := t.dev.time.ns, frac := t.dev.time.frac }))

/-- Every command, in every state, goes on: it leaves the queue as it is and no request of the device undone. The release of RESET_N and a change
of a rail are the two exceptions: where Table 18-17 calls the result unpredictable without a bound, they stop. -/
def Obligations.CommandsKeepTheQueue : Prop :=
  ∀ (i : Instr) (s : State),
    (∃ t, exec i s = .next t ∧ t.pending = s.pending ∧ t.dev.outbox = [] ∧ t.dev.dma = []) ∨
    (exec i s = .fault .boardMistake ∧ ((∃ straps, i = .resetNDeassert straps) ∨ ∃ rail, i = .powerRailChange rail true))

/-- Every step, from any settled state, leaves a settled state: host memory stays canonical, no request of the device is left, and the events
that wait for the event ring are numbered in order without a gap (R66). -/
def Obligations.StepKeepsSettled : Prop :=
  ∀ s t : State, s.Settled → step s = .next t → t.Settled

/-- The state after reset is settled and idle; RESET_N is asserted in it (the model's choice, log entry 4). Registers of a tree port, a winder, a
decoder, a ring and the hub hold the reset values that their tables give. -/
def Obligations.ResetValues : Prop :=
  State.reset.Settled ∧ State.reset.pending = [] ∧ State.reset.dev.board.resetN = true ∧ State.reset.dev.board.bootDone = false ∧
  (∀ p, State.reset.dev.portReg p 0x000 = 0x08 ∧ State.reset.dev.portReg p 0x008 = 0 ∧ State.reset.dev.portReg p 0x00C = 0 ∧
    State.reset.dev.portReg p 0x010 = 0xC10 ∧ State.reset.dev.portReg p 0x014 = 0xC10 ∧ State.reset.dev.portReg p 0x01C = 0x640000 ∧
    State.reset.dev.portReg p 0x020 = 0 ∧ State.reset.dev.portReg p 0x100 = 3 ∧ State.reset.dev.portReg p 0x104 = 0x1E600000 ∧
    State.reset.dev.portReg p 0x204 = 0x0A01 ∧ State.reset.dev.portReg p 0x300 = 0x25800002) ∧
  (∀ w, w < 80 → State.reset.dev.winderReg w 0 = 0 ∧
    State.reset.dev.winderReg w 4 = if w % 5 = 4 then 0 else 1 + 256 * (4 * (w / 5) + w % 5)) ∧
  (∀ n, State.reset.dev.decReg n 0 = if n % 5 = 4 then 0 else 1) ∧
  (∀ c, (State.reset.dev.cluster c).iterMax = 0x0A) ∧
  (∀ r, State.reset.dev.cmdRing r = {} ∧ (State.reset.dev.punt r).ctrl = 0x100 ∧
    (State.reset.dev.injRing r).ctrl = 0x100) ∧
  State.reset.bank.modr = 1 ∧ State.reset.bank.seq = 0 ∧ State.reset.dev.time.ctrl = 0x3410 ∧ State.reset.dev.devFine = 0 ∧
  State.reset.dev.time.freq = 0 ∧ State.reset.dev.ddr.ctrl = 0x40C06 ∧ State.reset.dev.ddr.sramS = 60 ∧ State.reset.dev.ddr.dramH = 24 ∧
  State.reset.dev.tally.ctrl = 1 ∧ State.reset.dev.prot.ctrl = 1 ∧ State.reset.dev.board.padCtrl = 0x16E

/-- While RESET_N is asserted every unit of the package is held in reset: of the commands only the ball's own edges, the rails, FENCE_IN's level,
the boundary-scan clock and the non-volatile store's periodic write change anything. -/
def Obligations.ResetHoldsThePackage : Prop :=
  ∀ (i : Instr) (s : State), s.Settled → s.dev.board.resetN = true → s.dev.board.bootDone = false →
    (∀ w, (s.dev.winder w).running = false ∧ (s.dev.winder w).late = false) →
    i ≠ .resetNAssert → (∀ x, i ≠ .resetNDeassert x) → (∀ r u, i ≠ .powerRailChange r u) → i ≠ .fenceInAssert → i ≠ .fenceInDeassert →
    (∀ a b, i ≠ .tckEdge a b) → i ≠ .ledgerWrite → exec i s = .next s


/-! ### Host commands that nothing keeps waiting -/

/-- The commands of stream control and tree ports (chapters 02 and 03):
one that the device may start, whose object is free and whose unit is there takes effect at once and goes on; with a handle or an argument that
the manual calls a mistake of the host it completes, and the mistake does what its table bounds (R87). -/
def Obligations.StreamAndTreeCommands : Prop :=
  ∀ (s : State) (c : Tag) (obj : Word) (sec : BitVec 48) (ns limit off value mask' len : Word) (typ src mask : Half)
     (count lanes mainGen compGen gflags slot keyIdx op addr' ofs len' : Byte) (addr sfc : Dword) (a : ProfileArgs) (key : BitVec 128)
     (msg data : Bytes),
    ∀ e ∈ ([(.nop c obj, cmdNop c obj s.dev), (.waitTime c obj sec ns, cmdWaitTime c obj sec ns s.dev),
        (.waitEvent c obj typ src mask limit, cmdWaitEvent c obj limit s.dev),
        (.readReg c obj off count, cmdReadReg c obj off count s.env s.dev),
        (.writeReg c obj off value mask', cmdWriteReg c obj off value mask' s.env s.dev),
        (.readState c obj addr len, cmdReadState c obj addr len s.dev), (.resetScope c obj, cmdResetScope c obj s.dev),
        (.treeEnable c obj lanes, cmdTreeEnable c obj lanes s.dev), (.treeDisable c obj lanes, cmdTreeDisable c obj lanes s.dev),
        (.treeLaneSet c obj mainGen compGen gflags, cmdTreeLaneSet c obj mainGen compGen gflags s.dev),
        (.treeProfileSet c obj a, cmdTreeProfileSet c obj a s.dev),
        (.treeKeyLoad c obj slot key, mirrored (objTerm obj).1 (cmdTreeKeyLoad c obj slot key s.dev)),
        (.treeKeySwitch c obj slot sfc, cmdTreeKeySwitch c obj slot sfc s.dev),
        (.treeBcastKeyLoad c obj slot keyIdx key, cmdTreeBcastKeyLoad c obj slot keyIdx key s.dev),
        (.treePloamSend c obj msg, cmdTreePloamSend c obj msg s.dev),
        (.treeModuleI2c c obj op addr' ofs len' data, cmdTreeModuleI2c c obj op addr' ofs len' data s.dev)] : List (Instr × HostCmd)),
      (s.Free e.1 c obj e.2 → exec e.1 s = .next (s.after e.1 c obj e.2)) ∧
      (s.Ready e.1 c obj e.2 → e.2.good = false → exec e.1 s = .next (s.afterMistake e.1 c obj e.2))

/-- The commands of ranging, winders and the upstream path (chapters 04, 05 and 08):
one that the device may start, whose object is free and whose unit is there takes effect at once and goes on; with a handle or an argument that
the manual calls a mistake of the host it completes, and the mistake does what its table bounds (R87). -/
def Obligations.RangingWinderUpstreamCommands : Prop :=
  ∀ (s : State) (c : Tag) (obj : Word) (lane profile rflags tflags sflags en gap fflags slot pflags : Byte)
     (window far period limit wireId term : Half) (count hint tresp dly asymM asymC len cir cbs : Word) (serial addr sfc : Dword)
     (rec : Bytes),
    ∀ e ∈ ([(.rngDiscover c obj lane profile window far period count, cmdRngDiscover c obj lane profile window far period count s.dev),
        (.rngTerminalAdd c obj serial lane rflags profile hint tresp limit, mirrored (objTerm obj).1 (cmdRngTerminalAdd c obj serial lane rflags profile hint tresp limit s.dev)),
        (.rngTerminalRemove c obj, cmdRngTerminalRemove c obj s.dev),
        (.rngTrunkSet c obj dly asymM asymC tflags, cmdRngTrunkSet c obj dly asymM asymC tflags s.dev),
        (.rngTrunkConfirm c obj, cmdRngTrunkConfirm c obj s.dev), (.wndImageLoad c obj addr len, cmdWndImageLoad c obj addr len s.env s.dev),
        (.wndSwap c obj sflags sfc, cmdWndSwap c obj sflags sfc s.dev), (.wndAllocWrite c obj rec, cmdWndAllocWrite c obj rec s.dev),
        (.wndAllocRemove c obj, cmdWndAllocRemove c obj s.dev),
        (.wndWitnessSet c obj en gap profile, cmdWndWitnessSet c obj en gap profile s.dev),
        (.upsFlowSet c obj wireId term lane fflags slot, cmdUpsFlowSet c obj wireId term lane fflags slot s.dev),
        (.upsPolicerSet c obj cir cbs pflags, cmdUpsPolicerSet c obj cir cbs pflags s.dev)] : List (Instr × HostCmd)),
      (s.Free e.1 c obj e.2 → exec e.1 s = .next (s.after e.1 c obj e.2)) ∧
      (s.Ready e.1 c obj e.2 → e.2.good = false → exec e.1 s = .next (s.afterMistake e.1 c obj e.2))

/-- The commands of the classifier, the service tables, the traffic manager and the uplink ports (chapters 09 to 12):
one that the device may start, whose object is free and whose unit is there takes effect at once and goes on; with a handle or an argument that
the manual calls a mistake of the host it completes, and the mistake does what its table bounds (R87). -/
def Obligations.DataPathCommands : Prop :=
  ∀ (s : State) (c : Tag) (obj : Word) (kind lflags dflags bucket sflags wflags part count'' : Byte) (addr : Dword)
     (first count src hold rate burst node depthTh delayTh res max : Word) (action : Bytes) (first' count' limit : Half) (a : NodeArgs)
     (a' : PortArgs) (a'' : GateArgs) (a''' : PauseArgs),
    ∀ e ∈ ([(.clsRulesLoad c obj kind lflags addr first count, cmdClsRulesLoad c obj kind lflags addr first count s.env s.dev),
        (.clsRulesSwap c obj, cmdClsRulesSwap c obj s.dev), (.clsDefaultSet c obj action, cmdClsDefaultSet c obj action s.dev),
        (.clsIndirWrite c obj first' count' addr, cmdClsIndirWrite c obj first' count' addr s.env s.dev),
        (.tblWrite c obj addr count, cmdTblWrite c obj addr count s.env s.dev),
        (.tblDelete c obj addr count, cmdTblDelete c obj addr count s.env s.dev),
        (.tblDomainFlush c obj dflags src, cmdTblDomainFlush c obj dflags src s.dev),
        (.tblLpmLoad c obj addr count, cmdTblLpmLoad c obj addr count s.env s.dev),
        (.tblHolddownSet c obj hold, cmdTblHolddownSet c obj hold s.dev), (.dtmNodeSet c obj a, cmdDtmNodeSet c obj a s.dev),
        (.dtmShaperSet c obj bucket sflags rate burst, cmdDtmShaperSet c obj bucket sflags rate burst s.dev),
        (.dtmWatchSet c obj wflags node depthTh delayTh, cmdDtmWatchSet c obj wflags node depthTh delayTh s.dev),
        (.dtmPartitionSet c obj part res max, cmdDtmPartitionSet c obj part res max s.dev),
        (.ulkLaneEnable c obj limit, cmdUlkLaneEnable c obj limit s.dev), (.ulkLaneDisable c obj, cmdUlkLaneDisable c obj s.dev),
        (.ulkPortSet c obj a', cmdUlkPortSet c obj a' s.dev), (.ulkBitslip c obj count'', cmdUlkBitslip c obj count'' s.dev),
        (.ulkGateList c obj a'', cmdUlkGateList c obj a'' s.env s.dev),
        (.ulkPauseSet c obj a''', cmdUlkPauseSet c obj a''' s.dev)] : List (Instr × HostCmd)),
      (s.Free e.1 c obj e.2 → exec e.1 s = .next (s.after e.1 c obj e.2)) ∧
      (s.Ready e.1 c obj e.2 → e.2.good = false → exec e.1 s = .next (s.afterMistake e.1 c obj e.2))

/-- The commands of protection, time, memory integrity and the tally reader (chapters 13 to 16):
one that the device may start, whose object is free and whose unit is there takes effect at once and goes on; with a handle or an argument that
the manual calls a mistake of the host it completes, and the mistake does what its table bounds (R87). -/
def Obligations.PairTimeMemoryTallyCommands : Prop :=
  ∀ (s : State) (c : Tag) (obj : Word) (pkg mflags role mode sflags tflags dramH wflags : Byte) (active loc : Dword)
     (limit sramS winMs : Half) (sec : BitVec 48) (ns freq period width : Word) (a : SnapArgs) (a' : ProfArgs),
    ∀ e ∈ ([(.matPairJoin c obj pkg mflags active limit, cmdMatPairJoin c obj pkg mflags active limit s.dev),
        (.matRoleSet c obj role, cmdMatRoleSet c obj role s.dev), (.matDarkRelease c obj, cmdMatDarkRelease c obj s.dev),
        (.todStep c obj mode sec ns, cmdTodStep c obj mode sec ns s.dev), (.todSteer c obj freq sflags, cmdTodSteer c obj freq sflags s.dev),
        (.todTrigSet c obj tflags sec ns period width, cmdTodTrigSet c obj tflags sec ns period width s.dev),
        (.memThaw c obj, cmdMemThaw c obj s.dev), (.memRetire c obj, cmdMemRetire c obj s.dev),
        (.memRowRepair c obj loc, cmdMemRowRepair c obj loc s.dev), (.memScrubSet c obj sramS dramH, cmdMemScrubSet c obj sramS dramH s.dev),
        (.talSnapshot c obj a, cmdTalSnapshot c obj a s.dev), (.talWindowSet c obj wflags winMs, cmdTalWindowSet c obj wflags winMs s.dev),
        (.talProfileStart c obj a', cmdTalProfileStart c obj a' s.dev),
        (.talProfileStop c obj, cmdTalProfileStop c obj s.dev)] : List (Instr × HostCmd)),
      (s.Free e.1 c obj e.2 → exec e.1 s = .next (s.after e.1 c obj e.2)) ∧
      (s.Ready e.1 c obj e.2 → e.2.good = false → exec e.1 s = .next (s.afterMistake e.1 c obj e.2))


/-! ### Events: the package out of reset, the unit there or not -/

/-- Doorbells and the pointers of rings (R48, R49, R76, R77): what each leaves when the host keeps to Table 2-18. -/
def Obligations.DoorbellsAndRings : Prop :=
  ∀ (s : State) (v : Word) (b : Bool), s.Settled → s.booted →
    (∀ r : Fin 8, ((s.dev.cmdRing r).en = true → v.toNat % 2 ^ 20 < 2 ^ (s.dev.cmdRing r).size) →
      exec (.cmdDoorbell r v) s =
        .next { s with dev := s.dev.modCmdRing r fun x => { x with wptr := v.toNat % 2 ^ 20 % 2 ^ 16 } }) ∧
    (∀ r : Fin 16, ((s.dev.punt r).en = true → v.toNat % 2 ^ 20 < (s.dev.punt r).entries) →
      exec (.puntDoorbell r v) s = .next { s with dev := s.dev.modPunt r fun x => { x with wptr := v.toNat % 2 ^ 20 % 2 ^ 16 } }) ∧
    (∀ r : Fin 16, ((s.dev.injRing r).en = true → v.toNat % 2 ^ 20 < (s.dev.injRing r).entries) →
      exec (.injectDoorbell r v) s = .next { s with dev := s.dev.modInj r fun x => { x with wptr := v.toNat % 2 ^ 20 % 2 ^ 16 } }) ∧
    (v.toNat % 2 ^ 20 < s.bank.entries → (v.toNat % 2 ^ 20 + s.bank.entries - s.bank.rptr) % s.bank.entries ≤ s.bank.used →
      ∃ t, exec (.eventDoorbell v) s = .next t ∧ s.SameUnits t ∧ t.mem = s.mem ∧ t.bank.rptr = v.toNat % 2 ^ 20 ∧
        t.bank.wptr = s.bank.wptr ∧ t.bank.rseq = s.bank.rseq +
          BitVec.ofNat 32 ((v.toNat % 2 ^ 20 + s.bank.entries - s.bank.rptr) % s.bank.entries)) ∧
    (∀ r : Fin 8, exec (.ringResumeWrite r) s = .next { s with dev := s.dev.modCmdRing r fun x => { x with halted := false } } ∧
      exec (.ringPauseWrite r b) s = .next { s with dev := s.dev.modCmdRing r fun x => { x with pause := b, paused := b } } ∧
      ∃ t, exec (.expseqWrite r v) s = .next t ∧ (∀ k, k ≠ r.val → t.dev.cmdRing k = s.dev.cmdRing k) ∧
        (let x := s.dev.cmdRing r
         t.dev.cmdRing r = if x.en = false ∨ x.halted = true ∨ x.paused = true then { x with expSeq := v } else x))

/-- R49: a ring whose EN is 1 ignores writes to its base and size registers; EN going from 0 to 1 sets both pointers to 0, whatever the size, and EN
going to 0 leaves them. -/
def Obligations.RingEnableResetsPointers : Prop :=
  ∀ (s : State) (v : Word), s.Settled → s.booted →
    (∀ r : Fin 8, (s.dev.cmdRing r).en = false →
      exec (.ringEnWrite (.cmd r) true) s =
        .next { s with dev := s.dev.modCmdRing r fun x => { x with en := true, rptr := 0, wptr := 0 } }) ∧
    (∀ r : Fin 8, exec (.ringEnWrite (.cmd r) false) s = .next { s with dev := s.dev.modCmdRing r fun x => { x with en := false } }) ∧
    (∀ r : Fin 16, (s.dev.punt r).en = false →
      ∃ t, exec (.ringEnWrite (.punt r) true) s = .next t ∧ (∀ k, k ≠ r.val → t.dev.punt k = s.dev.punt k) ∧ (t.dev.punt r).en = true ∧
        t.dev.punt r = { s.dev.punt r with ctrl := (t.dev.punt r).ctrl, rptr := 0, wptr := 0 }) ∧
    (∀ r : Fin 16, (s.dev.injRing r).en = false →
      ∃ t, exec (.ringEnWrite (.inj r) true) s = .next t ∧ (∀ k, k ≠ r.val → t.dev.injRing k = s.dev.injRing k) ∧
        (t.dev.injRing r).en = true ∧ t.dev.injRing r = { s.dev.injRing r with ctrl := (t.dev.injRing r).ctrl, rptr := 0, wptr := 0 }) ∧
    (s.bank.en = false →
      ∃ t, exec (.ringEnWrite .evt true) s = .next t ∧ s.SameUnits t ∧ t.mem = s.mem ∧ t.bank.en = true ∧ t.bank.wptr = 0 ∧
        t.bank.rptr = 0) ∧
    ∀ o ∈ [0x0, 0x4, 0x8],
      (∀ r : Fin 8, (s.dev.cmdRing r).en = true →
        ∃ t, exec (.registerWrite (BitVec.ofNat 32 (0x10000 + 0x40 * r.val + o)) v) s = .next t ∧
          (∀ k, t.dev.cmdRing k = s.dev.cmdRing k) ∧ t.bank = s.bank) ∧
      (∀ r : Fin 16, (s.dev.punt r).en = true →
        ∃ t, exec (.registerWrite (BitVec.ofNat 32 (0x10400 + 0x20 * r.val + o)) v) s = .next t ∧
          (∀ k, t.dev.punt k = s.dev.punt k) ∧ t.bank = s.bank) ∧
      (∀ r : Fin 16, (s.dev.injRing r).en = true →
        ∃ t, exec (.registerWrite (BitVec.ofNat 32 (0x10600 + 0x20 * r.val + o)) v) s = .next t ∧
          (∀ k, t.dev.injRing k = s.dev.injRing k) ∧ t.bank = s.bank) ∧
      (s.bank.en = true → exec (.registerWrite (BitVec.ofNat 32 (0x10200 + o)) v) s = .next s)

/-- Events of the rings and reads with an effect go on; while RESET_N is asserted they change nothing. The limits of WAIT_EVENT and of a paused
inject send come after every other command of the cycle (R69, the model's way: log entry 33), and so does a punted frame that finds no buffer. -/
def Obligations.RingAndReadEvents : Prop :=
  ∀ (s : State) (r8 : Fin 8) (r16 : Fin 16) (vec : Fin 34) (x : Fin 96) (reason : Half) (ingress off v : Word) (data : Bytes)
    (stamp : Dword) (ofs : BitVec 24) (bad : Bool),
    let there := s.dev.board.resetN = false
    (∀ e ∈ ([(.commandEntryFetch r8, fun d => d.fetchEntry s.bank s.mem r8), (.eventRingWrite, fun d => d.evtRingWrite s.bank),
        (.cmdEvtLost, fun d => d.ask (.lostFlush d.stamp)), (.msixModerationTimer vec, fun d => d.msixTimer vec.val),
        (.waitTimeReached r8, fun d => d.waitReached r8), (.todNowNsRead, fun d => d.readBack s.bank 0x70008),
        (.talWinSeqRead x, fun d => d.readBack s.bank (0x91004 + 0x20 * x.val)),
        (.rcRead r16, fun d => d.readBack s.bank (poolBase r16.val + 0x4)), (.diagWindowRead ofs bad, fun d => d.diagRead ofs bad),
        (.servicePortWrite off v, fun d => d.svcWrite off v), (.servicePortSetPointer off, fun d => d.svcPointer off),
        (.servicePortRead, fun d => d.svcRead s.bank)] : List (Instr × (Dev → Dev))),
      (there → exec e.1 s = .next (s.run (e.2 s.dev))) ∧ (¬there → exec e.1 s = .next (s.run s.dev))) ∧
    (∀ e ∈ ([(.injectPauseTimeout r16, fun d => d.injTimeout r16.val), (.waitEventLimit r8, fun d => d.waitLimit r8),
        (.puntFrame r16 reason ingress data stamp, fun d => d.puntFrame s.mem r16.val reason.toNat ingress.toNat data stamp)] :
          List (Instr × (Dev → Dev))),
      (there → s.pending = [] → exec e.1 s = .next (s.run (e.2 s.dev))) ∧ (¬there → exec e.1 s = .next (s.run s.dev))) ∧
    (there → s.pending ≠ [] → ∀ i ∈ [Instr.injectPauseTimeout r16, .waitEventLimit r8],
      exec i s = .next (s.run { s.dev with late := s.dev.late ++ [i] })) ∧
    (there → s.pending ≠ [] → let i := Instr.puntFrame r16 reason ingress data stamp
      exec i s = .next (s.run
        (if s.dev.puntEmpty r16 = true ∨ s.dev.late.any (puntTo r16) = true then { s.dev with late := s.dev.late ++ [i] }
         else s.dev.puntFrame s.mem r16.val reason.toNat ingress.toNat data stamp)))

/-- Writes of registers that have rows of their own, an inject send and a command's start: each takes effect, whatever the value, the descriptors
or the arguments are; while RESET_N is asserted they change nothing. INJECT_FRAME (R82, R85) on a ring whose next descriptor is a whole send without
CSUM or SEG, for an uplink port that takes it: the frame, its bytes as they stand in host memory, goes to the tail of the egress queue that PRIO
names, and the descriptor is used up. -/
def Obligations.RegisterWritesAndStarts : Prop :=
  (∀ (s : State) (p : Fin 64) (r8 : Fin 8) (r16 : Fin 16) (ring : Ring) (en arm : Bool) (term : BitVec 10) (off v : Word) (reg : W1cReg),
    ∀ e ∈ ([(.commandStart r8, fun d => d.startNext s.env r8), (.ringEnWrite ring en, fun d => d.ringEn ring en),
        (.injectFrame r16, fun d => d.injectFrame s.mem r16.val), (.treeFrameOfsWrite p v, fun d => d.regWrite (portBase p.val + 0x00C) v),
        (.treeRssiArmWrite p term arm, fun d => d.rssiArmWrite p.val term arm),
        (.rngTeqdWrite p v, fun d => d.regWrite (portBase p.val + 0x104) v), (.todCtrlWrite v, fun d => d.regWrite 0x70000 v),
        (.w1cWrite reg v, fun d => d.w1cWrite reg v), (.localCounterWrite off v, fun d => d.ctrWrite off.toNat v),
        (.hubDiagSelWrite v, fun d => d.regWrite 0x10 v), (.dramEnWrite v, fun d => d.regWrite 0x80000 v),
        (.registerWrite off v, fun d => d.anyWrite off.toNat v)] : List (Instr × (Dev → Dev))),
      (s.dev.board.resetN = false → exec e.1 s = .next (s.run (e.2 s.dev))) ∧
      (s.dev.board.resetN = true → exec e.1 s = .next (s.run s.dev))) ∧
  ∀ (s : State) (r : Fin 16) (u : Fin 32), s.Settled → s.dev.board.resetN = false →
    let x := s.dev.injRing r
    let y := s.dev.uplink u
    let b := memRead s.mem (ringBase x.baseLo x.baseHi + x.rptr % x.entries * 32) 32
    let n := ofLe ((b.drop 8).take 2)
    let prio := ofLe ((b.drop 22).take 1) % 8
    x.en = true → 6 ≤ x.size → x.size ≤ 16 → x.posted ≠ 0 → ofLe ((b.drop 10).take 1) % 16 = 3 → 1 ≤ n → n ≤ 16383 →
    ofLe ((b.drop 12).take 4) = u → s.dev.ulkLive u = true → y.stage ≠ .draining → n + 4 ≤ y.cfg.maxFrame →
    (y.cfg.qlim = 0 ∨ y.qBytes prio + n ≤ y.cfg.qlim) → s.dev.dtm.takes 2 (cellsOf n) = true → s.dev.dtm.takes 1 (cellsOf n) = true →
    ∃ t, exec (.injectFrame r) s = .next t ∧ t.dev.injRing r = { x with rptr := (x.rptr + 1) % x.entries } ∧
      (t.dev.uplink u).q = y.q ++ [{ tc := prio, data := memRead s.mem (ofLe (b.take 8)) n, inj := some (r.val * 2 ^ 16 + x.rptr) }] ∧
      (∃ f ∈ t.dev.inj, f.ring = r.val ∧ f.first = x.rptr ∧ f.left = 1) ∧ ∀ k, k ≠ r.val → t.dev.injRing k = s.dev.injRing k

/-- Events of the tree side: on a tree port, winder, decoder or cluster that is fitted and reachable each has its effect; on another, or
while RESET_N is asserted, it changes nothing (R23, R472, R486). A timeout comes after every other command of the cycle, and the cutoff after
the bursts of its tree port (R69, R171; the model's way: log entry 33). -/
def Obligations.TreeSideEvents : Prop :=
  ∀ (s : State) (p : Fin 64) (n80 : Fin 80) (n16 : Fin 16) (cyc rem slot : Nat) (b : Bool) (o : BurstObs) (t : BitVec 10) (flow : BitVec 14)
    (lane : Lane) (found : List SnResponse) (resp : Option (Int × Bytes)) (dec : DecodeObs) (items : List PlacedItem) (i2c : I2cOutcome),
    let there := s.dev.board.resetN = false
    (∀ e ∈ ([(.frameStart p, fun d => (d.frameStart p.val).mirrorSince d p.val), (.dsFrameReceive p, fun d => d.dsReceive p.val),
        (.programStart p cyc rem, fun d => d.programStartRow p.val cyc rem),
        (.sealPoint p, fun d => (d.sealPoint p.val).mirrorSince d p.val),
        (.checkpointComplete p, fun d => d.modPort p.val fun q => { q with wnd := q.wnd.ckptDone }),
        (.wndSpareTakeover p cyc rem, fun d => d.spareTakeover p.val cyc rem), (.brstPulse p slot, fun d => d.brstPulse p.val slot),
        (.rssiTrigFire p slot, fun d => d.rssiFire p.val slot),
        (.burstAcquisition p slot o, fun d => (d.acquire p.val slot o).mirrorSince d p.val),
        (.stepWatchEnd p, fun d => (d.stepWatchEnd p.val).mirrorSince d p.val),
        (.correctionResend p t, fun d => (d.correctionResend p.val t.toNat).mirrorSince d p.val),
        (.discoveryRequest p lane, fun d => d.modPort p.val fun q => discoveryPost q lane),
        (.discoveryWindow p lane b found, fun d =>
          (d.puntResponses s.mem p.val lane false (found.map (·.msg))).discoveryWindow p.val lane b found),
        (.rangingWindow p lane resp, fun d => ((d.puntResponses s.mem p.val lane true (resp.toList.map (·.2))).rangingWindow p.val lane
          (resp.map (·.1))).mirrorSince d p.val),
        (.burstDelineation p slot items, fun d => d.burstDelineation s.mem p.val slot items),
        (.reassemblyTimeout p flow, fun d => d.reasmTimeout p.val flow.toNat),
        (.laneDrainEnd p lane, fun d => (d.drainEnd p.val lane).mirrorSince d p.val), (.dtmSelect p, fun d => d.dtmSelect p.val)] :
          List (Instr × (Dev → Dev))),
      (there → s.dev.portUp p = true → exec e.1 s = .next (s.run (e.2 s.dev))) ∧
      (¬there ∨ s.dev.portUp p = false → exec e.1 s = .next (s.run s.dev))) ∧
    (∀ e ∈ ([(.reportCutoff p, s.pending.any (bringsReport p), fun d => d.reportCutoff p.val),
        (.rangingLimitExpiry p t, !s.pending.isEmpty, fun d => (d.rangingLimit p.val t.toNat).mirrorSince d p.val)] :
          List (Instr × Bool × (Dev → Dev))),
      (there → e.2.1 = false → s.dev.portUp p = true → exec e.1 s = .next (s.run (e.2.2 s.dev))) ∧
      (there → e.2.1 = true → exec e.1 s = .next (s.run { s.dev with late := s.dev.late ++ [e.1] })) ∧
      (¬there ∨ (e.2.1 = false ∧ s.dev.portUp p = false) → exec e.1 s = .next (s.run s.dev))) ∧
    (∀ e ∈ ([(.winderWatchdogTrip n80, fun d => d.winderFault n80.val 3), (.winderFault n80 b, fun d => d.winderFault n80.val (if b then 2 else 1)),
        (.spareSelfTest n80 b, fun d => d.spareSelfTest n80.val b)] : List (Instr × (Dev → Dev))),
      (there → s.dev.winderUp n80 = true → exec e.1 s = .next (s.run (e.2 s.dev))) ∧
      (¬there ∨ s.dev.winderUp n80 = false → exec e.1 s = .next (s.run s.dev))) ∧
    (∀ e ∈ ([(.ldpcDecodeDone n80 dec, fun d => d.decodeDone n80.val dec), (.decoderFault n80, fun d => d.decoderFault n80.val 3),
        (.decoderHoldTimeout n80, fun d => if (d.dec n80.val).held.isSome then d.decoderFault n80.val 2 else d)] : List (Instr × (Dev → Dev))),
      (there → s.dev.variant ≠ .skx6410 → s.dev.winderUp n80 = true → exec e.1 s = .next (s.run (e.2 s.dev))) ∧
      (¬there ∨ s.dev.variant = .skx6410 ∨ s.dev.winderUp n80 = false → exec e.1 s = .next (s.run s.dev))) ∧
    (∀ e ∈ ([(.ldpcDispatch n16, fun d => d.ldpcDispatch n16.val), (.i2cMasterFault n16, fun d => d.i2cFault n16.val)] :
        List (Instr × (Dev → Dev))),
      (there → s.dev.portUp (4 * n16) = true → exec e.1 s = .next (s.run (e.2 s.dev))) ∧
      (¬there ∨ s.dev.portUp (4 * n16) = false → exec e.1 s = .next (s.run s.dev))) ∧
    (there → (i2c ≠ .noAnswer ∨ s.pending = []) → exec (.moduleI2cDone n16 i2c) s =
      .next (s.run (if s.dev.portUp (4 * n16) = true then s.dev.i2cDone n16.val i2c else s.dev))) ∧
    (there → i2c = .noAnswer → s.pending ≠ [] → exec (.moduleI2cDone n16 i2c) s =
      .next (s.run { s.dev with late := s.dev.late ++ [.moduleI2cDone n16 i2c] })) ∧
    (¬there → exec (.moduleI2cDone n16 i2c) s = .next (s.run s.dev))

/-- Events of the data path on the hub die (chapters 09 to 12), of its uplink ports and serial lanes. A learn comes after a host write of the same
cycle (R300), the limit of ULK_LANE_ENABLE after every other command of the cycle (R69; the model's way: log entry 33). -/
def Obligations.DataPathEvents : Prop :=
  ∀ (s : State) (f4 : Fin 4) (f2 : Fin 2) (table : TableId) (bucket : Nat) (mac : BitVec 48) (dom : BitVec 14) (slot : Fin 131072)
    (h : BitVec 20) (w : BitVec 12) (u : Fin 32) (l : SerialLane) (data : Bytes) (a b : Bool) (rx : RxState) (stamp : Dword)
    (q : Option (Fin 8)) (code : BitVec 3),
    let there := s.dev.board.resetN = false
    (∀ e ∈ ([(.classifierPass f4, fun d => d.classifierPass s.mem f4.val), (.recircPass f4, fun d => d.recircPass s.mem f4.val),
        (.generationRetire f2, fun d => d.retireGen f2.val),
        (.sumpMove table bucket, fun d => d.sumpMove table bucket), (.agerVisit mac dom, fun d => d.agerVisit (be 6 mac.toNat) dom.toNat),
        (.flushSweepEnd dom, fun d => d.flushEnd dom.toNat), (.dtmCalendarSlot slot, fun d => d.calSlot slot.val),
        (.dtmSweepSample h, fun d => d.sweepSample h.toNat), (.watchSample w, fun d => d.watchSample w.toNat)] : List (Instr × (Dev → Dev))),
      (there → exec e.1 s = .next (s.run (e.2 s.dev))) ∧ (¬there → exec e.1 s = .next (s.run s.dev))) ∧
    (there → s.pending.any hostWrites = false → exec .learnApply s = .next (s.run s.dev.learnApply)) ∧
    (there → s.pending.any hostWrites = true → exec .learnApply s = .next (s.run { s.dev with late := s.dev.late ++ [.learnApply] })) ∧
    (¬there → exec .learnApply s = .next (s.run s.dev)) ∧
    (∀ e ∈ ([(.uplinkFrameReceive u data a rx stamp, fun d => d.uplinkReceive u.val data a rx stamp), (.egressSelect u, fun d => d.egressSelect u.val),
        (.pauseHoldExpiry u q, fun d => d.holdExpiry u.val (q.map (·.val))), (.rxFifoThreshold u, fun d => d.rxThreshold u.val),
        (.pauseRepeat u, fun d => d.pauseRepeat u.val), (.preemptVerify u a, fun d => d.preemptVerify u.val a),
        (.gateEntryChange u, fun d => d.gateChange u.val), (.gateListStart u, fun d => d.gateStart u.val),
        (.cl73TrainingTimeout u, fun d => d.trainingTimeout u.val), (.liveHoldExpiry u, fun d => d.liveHold u.val),
        (.uplinkDrainEnd u, fun d => d.ulkDrainEnd u.val),
        (.rsFaultChange u a b, fun d => d.rsFault u.val a b), (.cl73AutonegDone u ⟨code, a⟩, fun d => d.autonegDone u.val code.toNat a)] :
          List (Instr × (Dev → Dev))),
      (there → s.dev.variant.hasLane u = true → exec e.1 s = .next (s.run (e.2 s.dev))) ∧
      (¬there ∨ s.dev.variant.hasLane u = false → exec e.1 s = .next (s.run s.dev))) ∧
    (there → s.pending = [] →
      exec (.ulkEnableLimit u) s = .next (s.run (if s.dev.variant.hasLane u = true then s.dev.enableLimit u.val else s.dev))) ∧
    (there → s.pending ≠ [] → exec (.ulkEnableLimit u) s = .next (s.run { s.dev with late := s.dev.late ++ [.ulkEnableLimit u] })) ∧
    (¬there → exec (.ulkEnableLimit u) s = .next (s.run s.dev)) ∧
    ∀ e ∈ ([(.laneSignalLoss l, fun d => d.signalLoss (laneKey l)), (.laneSignalReturn l, fun d => d.signalReturn (laneKey l)),
        (.laneLockLoss l, fun d => d.lockLoss (laneKey l)), (.relockTimeout l, fun d => d.relockTimeout (laneKey l)),
        (.ladderMessage l data, fun d => d.ladderReceive (laneKey l) data), (.ladderStepTimeout l a, fun d => d.stepTimeout (laneKey l) a),
        (.listenRetry l, fun d => d.listenRetry (laneKey l)), (.laneLock l, fun d => d.laneLock (laneKey l)),
        (.ladderMessageSend l, fun d => d.ladderSend (laneKey l))] : List (Instr × (Dev → Dev))),
      (there → s.dev.variant.hasSLane (laneKey l) = true → exec e.1 s = .next (s.run (e.2 s.dev))) ∧
      (¬there ∨ s.dev.variant.hasSLane (laneKey l) = false → exec e.1 s = .next (s.run s.dev))

/-- Events of faults, start-up, memory, counters and time (chapters 01 and 14 to 18). The end of the pulse window comes after every other
command of the cycle (R69, log entry 33). -/
def Obligations.BoardMemoryTimeEvents : Prop :=
  ∀ (s : State) (st : BootStep) (failed : Byte) (kind : PcieReset) (die : Fin 2) (lane : Fin 18) (f4 : Fin 4) (u : Fin 32) (s8 : Fin 8)
    (level : FaultLevel) (temps : List (BitVec 10)) (loc : Dword) (mem : OnChip) (raw : BitVec 39) (err : DramError) (parity mr4 : Byte)
    (cmdNow : Half) (word : ScrubWord) (n1 n2 n3 n4 : Nat) (bad : List Dword) (idx : BitVec 25) (x : Fin 96) (unit : RepairUnit)
    (msg : Bytes) (a : Bool),
    let there := s.dev.board.resetN = false
    (∀ e ∈ ([(.bootStepComplete st, fun d => d.bootStep st), (.dramReady failed, fun d => d.dramReady failed),
        (.pcieReset kind, fun d => d.pcieReset kind), (.driftLaneFault die lane, fun d => d.driftLaneFault die.val lane.val),
        (.driftSilence die, fun d => d.driftSilence die.val), (.driftBlockReceive die lane a, fun d => d.driftBlock die.val lane.val a),
        (.hubDieFault, fun d => d.hubDieFault), (.pipelineFault f4, fun d => d.pipelineFault f4.val),
        (.uplinkLaneFault u, fun d => d.uplinkLaneFault u.val), (.containedFault level, fun d => d.containedFault level),
        (.tempSensorRead temps, fun d => d.tempRead temps), (.sramReadError loc mem raw, fun d => d.chipRead loc mem raw),
        (.dramFreeze s8 err, fun d => d.dramError s8.val err), (.ddrAlert a parity cmdNow, fun d => d.ddrAlert a parity cmdNow),
        (.scrubPass loc word, fun d => d.scrub loc word), (.refreshTick s8, fun d => d.refreshTick s8.val),
        (.mr4Poll s8 mr4 a, fun d => d.mr4Poll s8.val mr4 a), (.realTimeBurst s8 n1 n2 n3 n4, fun d => d.realTimeBurst s8.val n1 n2 n3 n4),
        (.rowRepairDone loc, fun d => d.rowRepairDone loc), (.arrayRepairDone loc, fun d => d.arrayRepairDone loc),
        (.thawCopyDone s8 bad, fun d => d.thawDone s8.val bad), (.marchTestDone unit bad a, fun d => d.marchDone unit bad a),
        (.counterGather idx, fun d => d.counterGather idx.toNat), (.snapshotInstant, fun d => d.snapInstant),
        (.snapshotCopyDone, fun d => d.snapDone), (.ppsInEdge, fun d => d.ppsEdge),
        (.servoStep, fun d => d.servoStep), (.todInMessage msg, fun d => d.todIn msg), (.todInSecondsStep, fun d => d.todInStep),
        (.todStepInstant, fun d => d.todStepInstant), (.time10mLoss, fun d => d.loss10m), (.time10mQualified, fun d => d.qualified10m),
        (.pulseOutputFire s8, fun d => d.pulseFire s8.val)] : List (Instr × (Dev → Dev))),
      (there → exec e.1 s = .next (s.run (e.2 s.dev))) ∧ (¬there → exec e.1 s = .next (s.run s.dev))) ∧
    exec .ppsWindowEnd s = .next (s.run (if there then
      (if s.pending = [] then s.dev.ppsWindowEnd else { s.dev with late := s.dev.late ++ [.ppsWindowEnd] }) else s.dev)) ∧
    (there → (if x.val < 64 then s.dev.variant.hasPort x else s.dev.variant.hasLane (x - 64)) = true →
      exec (.windowEnd x) s = .next (s.run (s.dev.windowEnd x.val)))

/-- Events of protection pairs (chapter 13): with the protection unit, and the tree where there is one, each has its effect; the SKX6450N
carries no protection unit, and nothing changes there. A timeout comes after every other command of the cycle (R69, log entry 33). -/
def Obligations.ProtectionEvents : Prop :=
  ∀ (s : State) (path : Path) (msg : Bytes) (a : Bool) (p : Fin 64) (m : MirrorRecord), s.dev.board.resetN = false →
    (∀ e ∈ ([(.fenceInQualified, fun d => d.fenceInQualified), (.fenceInReleased, fun d => d.fenceInReleased),
        (.lampCheckSend path, fun d => d.lampSend path), (.lampCheckReceive path msg, fun d => d.lampReceive path msg),
        (.pathLoss path a, fun d => d.pathLoss path a), (.mateIsolated, fun d => d.mateIsolated)] : List (Instr × (Dev → Dev))),
      (s.dev.variant ≠ .skx6450n → exec e.1 s = .next (s.run (e.2 s.dev))) ∧
      (s.dev.variant = .skx6450n → exec e.1 s = .next (s.run s.dev))) ∧
    (∀ e ∈ ([(.noburstWatchdog p, fun d => d.noburst p.val), (.mirrorRecordReceive p m, fun d => d.mirrorReceive p.val m),
        (.failoverEnd p, fun d => d.failoverEnd p.val)] : List (Instr × (Dev → Dev))),
      (s.dev.variant ≠ .skx6450n → s.dev.variant.hasPort p = true → exec e.1 s = .next (s.run (e.2 s.dev))) ∧
      (s.dev.variant = .skx6450n ∨ s.dev.variant.hasPort p = false → exec e.1 s = .next (s.run s.dev))) ∧
    (∀ e ∈ ([(.promoteBySilence p, s.dev.variant.hasPort p, fun d => d.promoteBySilence p.val),
        (.plannedSwitchTimeout p, s.dev.variant.hasPort p, fun d => d.plannedTimeout p.val), (.pairJoinLimit, true, fun d => d.joinLimit)] :
          List (Instr × Bool × (Dev → Dev))),
      (s.pending = [] → s.dev.variant ≠ .skx6450n → e.2.1 = true → exec e.1 s = .next (s.run (e.2.2 s.dev))) ∧
      (s.pending = [] → (s.dev.variant = .skx6450n ∨ e.2.1 = false) → exec e.1 s = .next (s.run s.dev)) ∧
      (s.pending ≠ [] → exec e.1 s = .next (s.run { s.dev with late := s.dev.late ++ [e.1] }))) ∧
    exec .fenceInAssert s = .next (s.run s.dev.fenceInAssert) ∧ exec .fenceInDeassert s = .next (s.run s.dev.fenceInDeassert)

/-- RESET_N, the rails, the boundary-scan clock and the ledger's periodic write reach the package whatever RESET_N holds; the balls that
Table 18-17 bounds are used as it asks, and stop by name where it calls the result unpredictable. -/
def Obligations.BallEvents : Prop :=
  ∀ (s : State) (straps : BitVec 3) (rail : Rail) (tms tdi : Bool),
    exec .resetNAssert s = .next (s.run s.dev.resetAssert) ∧ exec .ledgerWrite s = .next (s.run s.dev.ledgerWrite) ∧
    exec (.tckEdge tms tdi) s = .next (s.run (s.dev.tckEdge tms tdi)) ∧
    (s.dev.board.resetN = true → s.dev.railsTo 5 = true → straps.getLsbD 2 = false →
      exec (.resetNDeassert straps) s = .next (s.run { s.dev with board :=
        { s.dev.board with resetN := false, since := s.dev.now, straps := straps } })) ∧
    (s.dev.board.resetN = true → (s.dev.railsTo 5 = false ∨ straps.getLsbD 2 = true) →
      exec (.resetNDeassert straps) s = .fault .boardMistake) ∧
    (s.dev.board.resetN = false → exec (.resetNDeassert straps) s = .next (s.run s.dev)) ∧
    (s.dev.board.rails.contains rail = true → exec (.powerRailChange rail false) s = .next (s.run (s.dev.packageReset.modBoard fun b =>
      { b with rails := b.rails.filter fun x => x != rail, tap := {} }))) ∧
    (s.dev.board.rails.contains rail = false → s.dev.board.resetN = true → s.dev.railsTo (railStep rail - 1) = true →
      exec (.powerRailChange rail true) s = .next (s.run (s.dev.modBoard fun b => { b with rails := b.rails ++ [rail] }))) ∧
    (s.dev.board.rails.contains rail = false → (s.dev.board.resetN = false ∨ s.dev.railsTo (railStep rail - 1) = false) →
      exec (.powerRailChange rail true) s = .fault .boardMistake) ∧
    ∀ up, s.dev.board.rails.contains rail = up → exec (.powerRailChange rail up) s = .next (s.run s.dev)


/-! ### Rules of the chapters, on every kind of state -/

/-- R57 to R60, R73, R87 and R466: before BOOT_DONE, or as the 257th of its ring, a host command has no effect; while its ring holds it, another
ring has the turn, or completions are held back for want of backlog, it is accepted and held; while its object is busy, or DRAM that it needs is not
ready, it is started and waits. With a mistake in its handle or its arguments it ends in one CMD_DONE, whose status is not GAP. COMMAND_START starts
the one command that waits, and it takes its effect; an opcode that Table 2-7 does not list ends FAILED. -/
def Obligations.CommandsWaitTheirTurn : Prop :=
  (∀ (s : State) (i : Instr) (c : Tag) (obj : Word) (h : HostCmd), s.Settled →
    let may : Prop := s.dev.board.bootDone = true ∧ s.dev.active s.bank c.ring < 256
    let waits : Prop := s.bank.stalled = true ∨ s.dev.ringHolds c = true ∨ s.dev.outOfTurn c.ring = true
    (¬may → s.host i c obj h = .next s) ∧
    (may → waits → s.host i c obj h = .next { s with dev := s.dev.accept i c obj h.opc .held }) ∧
    (may → ¬waits → (s.dev.objBusy i obj = true ∨ (s.dev.ddr.ready = false ∧ needsDram i obj = true)) →
      s.host i c obj h = .next { s with dev := { s.dev.accept i c obj h.opc .started with lastRing := c.ring.val } }) ∧
    (s.Open → s.New c → s.Ready i c obj h → h.good = false →
      ∃ t st res, s.host i c obj h = .next t ∧ st < 5 ∧ res.length = 8 ∧ s.Completes t c h.opc st res)) ∧
  (∀ (s : State) (r : Fin 8) (a : Active) (c : Tag) (obj : Word) (h : HostCmd), s.Settled → s.booted → s.bank.stalled = false →
    s.dev.cmds = [a] → a.tag.ring = r → a.phase = .held →
    let d : Dev := { s.dev with cmds := [{ a with phase := .running }], lastRing := r }
    (s.dev.ddr.ready = true ∨ needsDram a.cmd a.obj = false) → a.unknown = false → hostCmd a.cmd s.env
      { s.dev with cmds := [{ a with phase := .started }], lastRing := r } = some (c, obj, h) →
    objAbsent s.dev.variant obj = false → h.absent = false → (∀ x ∈ objDie obj, s.dev.dieLost x = false) → h.good = true →
    exec (.commandStart r) s = .next (s.run (h.body d))) ∧
  ∀ (s : State) (r : Fin 8) (a : Active), s.Open → s.booted → s.bank.stalled = false → s.dev.cmds = [a] → a.tag.ring = r → a.phase = .held →
    a.cmd = .nop a.tag 0 → ∃ t, exec (.commandStart r) s = .next t ∧
      s.Completes t a.tag a.opc (if a.opc = 1 then 0 else 2) [] ∧ t.dev = { s.dev with cmds := [], lastRing := r.val }

/-- The stream-control commands of Table 2-8 that touch no other unit: NOP; WAIT_TIME and WAIT_EVENT, which end at once or wait; READ_REG and
WRITE_REG, here on the scratch register, whose bits outside the mask stay. -/
def Obligations.StreamControlResults : Prop :=
  ∀ (s : State) (c : Tag) (sec : BitVec 48) (ns limit value mask : Word) (typ src m : Half), s.Open → s.New c → s.booted →
    (s.Free (.nop c 0) c 0 (cmdNop c 0 s.dev) → ∃ t, exec (.nop c 0) s = .next t ∧ s.Completes t c 1 0 [] ∧ s.SameUnits t) ∧
    (s.Free (.waitTime c 0 sec ns) c 0 (cmdWaitTime c 0 sec ns s.dev) →
      if sec.toNat * 1000000000 + ns.toNat % 2 ^ 30 ≤ s.dev.devNs then
        ∃ t, exec (.waitTime c 0 sec ns) s = .next t ∧ s.Completes t c 2 0 [] ∧ s.SameUnits t
      else exec (.waitTime c 0 sec ns) s =
        .next { s with dev := { s.dev.accept (.waitTime c 0 sec ns) c 0 2 .running with lastRing := c.ring.val } }) ∧
    (s.Free (.waitEvent c 0 typ src m limit) c 0 (cmdWaitEvent c 0 limit s.dev) →
      if limit = 0 then ∃ t, exec (.waitEvent c 0 typ src m limit) s = .next t ∧ s.Completes t c 3 4 [] ∧ s.SameUnits t
      else exec (.waitEvent c 0 typ src m limit) s =
        .next { s with dev := { s.dev.accept (.waitEvent c 0 typ src m limit) c 0 3 .running with lastRing := c.ring.val } }) ∧
    (s.Free (.readReg c 0 0xC 1) c 0 (cmdReadReg c 0 0xC 1 s.env s.dev) →
      ∃ t, exec (.readReg c 0 0xC 1) s = .next t ∧ s.Completes t c 4 0 (le 4 s.dev.board.scratch.toNat) ∧ s.SameUnits t) ∧
    (s.Free (.writeReg c 0 0xC value mask) c 0 (cmdWriteReg c 0 0xC value mask s.env s.dev) →
      ∃ t, exec (.writeReg c 0 0xC value mask) s = .next t ∧ s.Completes t c 5 0 [] ∧
        t.dev = { s.dev with
          cmds := t.dev.cmds
          lastRing := t.dev.lastRing
          board := { s.dev.board with scratch := (value &&& mask) ||| (s.dev.board.scratch &&& ~~~mask) } })

/-- R75 and R76: an entry whose SEQ is the expected one is accepted, RPTR and EXPSEQ move on; any other halts the ring on it with a GAP
completion, executes nothing, and leaves RPTR where it is. -/
def Obligations.FetchComparesSequenceNumbers : Prop :=
  ∀ (s : State) (r : Fin 8), s.Open → s.booted →
    let x := s.dev.cmdRing r
    x.en = true → x.halted = false → x.paused = false → 6 ≤ x.size → x.size ≤ 16 → s.dev.active s.bank r < 256 → x.rptr ≠ x.wptr →
    let entry := memRead s.mem (ringBase x.baseLo x.baseHi + x.rptr * 64) 64
    ∃ t, exec (.commandEntryFetch r) s = .next t ∧ t.mem = s.mem ∧ (∀ k, k ≠ r.val → t.dev.cmdRing k = s.dev.cmdRing k) ∧
      (ofLe (entry.take 4) = x.expSeq.toNat →
        t.dev.cmdRing r = { x with rptr := (x.rptr + 1) % 2 ^ x.size, expSeq := x.expSeq + 1 } ∧ t.bank = s.bank ∧
        ∃ a, t.dev.cmds = s.dev.cmds ++ [a] ∧ a.tag.ring = r ∧ a.tag.seq = x.expSeq ∧ a.opc = ofLe ((entry.drop 4).take 2) ∧
          a.obj.toNat = ofLe ((entry.drop 8).take 4) ∧ a.phase = .held) ∧
      (ofLe (entry.take 4) ≠ x.expSeq.toNat →
        t.dev.cmdRing r = { x with halted := true, gapSeq := BitVec.ofNat 32 (ofLe (entry.take 4)) } ∧
        (∀ a ∈ t.dev.cmds, a ∈ s.dev.cmds) ∧
        s.Raises t 1 (srcOf 0xA r.val) (entry.take 4 ++ [5, BitVec.ofNat 8 r.val] ++ (entry.drop 4).take 2 ++ le 4 x.expSeq.toNat))

/-- R66, R70 and R74: the device writes the oldest sequenced event into the event ring once there is room, 32 bytes at the write pointer and no
other byte of host memory; vector 1 is signalled at once for an urgent event, vector 0 when COUNT events have been written. -/
def Obligations.EventRingWriteGoesToMemory : Prop :=
  ∀ (s : State) (e : EvEntry) (rest : List EvEntry), s.Settled → s.dev.board.resetN = false → s.bank.backlog = e :: rest → s.bank.room ≠ 0 →
    e.bytes.length = 32 → 10 ≤ s.bank.size → s.bank.size ≤ 20 →
    let addr := ringBase s.bank.baseLo s.bank.baseHi + s.bank.wptr * 32
    let full := max 1 (s.bank.modr.toNat % 4096) ≤ s.bank.count0 + 1
    ∃ t, exec .eventRingWrite s = .next t ∧ t.dev = s.dev ∧ memRead t.mem addr 32 = e.bytes ∧
      (∀ a, a < addr ∨ addr + 32 ≤ a → t.byte a = s.byte a) ∧ t.bank.backlog = rest ∧ t.bank.wptr = (s.bank.wptr + 1) % s.bank.entries ∧
      t.bank.rptr = s.bank.rptr ∧ t.bank.seq = s.bank.seq ∧ t.bank.count0 = (if full then 0 else s.bank.count0 + 1) ∧
      t.bank.messages = s.bank.messages ++ (if full then [0] else []) ++ (if e.urgent then [1] else [])

/-- R38: a PCI Express reset leaves every register, ring, tree, lane and table as it is; HOST_RESET records it (R475). -/
def Obligations.PcieResetKeepsTheDevice : Prop :=
  ∀ (s : State) (kind : PcieReset), s.Settled → s.dev.board.resetN = false →
    exec (.pcieReset kind) s = .next { s with dev := { s.dev with board := { s.dev.board with hostReset := true, hostResetAt := some s.dev.now } } }

/-- R466: until BOOT_DONE is 1, reads of BAR0 return zero but for HUB_ID, HUB_UNIT_PRESENT and HUB_BOOT_STATUS, and writes to BAR0 and BAR2 are
ignored. -/
def Obligations.NothingBeforeBootDone : Prop :=
  ∀ (s : State), s.Settled → s.dev.board.bootDone = false →
    (∀ off, off ≠ 0 → off ≠ 4 → off ≠ 8 → s.dev.regRead s.bank off = 0) ∧
    (s.dev.board.resetN = false →
      s.dev.regRead s.bank 0 = s.dev.variant.part + 2 ^ 16 * Config.stepping.toNat ∧
      s.dev.regRead s.bank 4 = s.dev.variant.unitPresent.toNat ∧ s.dev.regRead s.bank 8 = s.dev.bootStatus) ∧
    (∀ off v : Word, exec (.registerWrite off v) s = .next s) ∧
    (∀ (p : Fin 64) (term : BitVec 10) (b : Bool) (off v : Word) (reg : W1cReg) (ring : Ring) (r8 : Fin 8) (r16 : Fin 16),
      ∀ i ∈ [Instr.treeFrameOfsWrite p v, .treeRssiArmWrite p term b, .rngTeqdWrite p v, .todCtrlWrite v, .w1cWrite reg v,
        .localCounterWrite off v, .hubDiagSelWrite v, .dramEnWrite v, .ringEnWrite ring b, .ringPauseWrite r8 b, .ringResumeWrite r8,
        .expseqWrite r8 v, .cmdDoorbell r8 v, .eventDoorbell v, .puntDoorbell r16 v, .injectDoorbell r16 v], exec i s = .next s)

/-- Registers of the hub, the memory unit and a tree port: a written 1 clears a W1C bit, unless the device set the bit in the same cycle (R504), and a
written 0 leaves it (R13, Table 0-7); OFS keeps what is written (R93); a written ARM changes nothing where ARM is 1 already, or was as RSSI_TRIG
fired in the same cycle (R114, R504); RNG_TEQD is kept while no terminal is ranged and ignored otherwise
(R128); MEM_CTRL keeps its defined bits, and MEM_DDR_CFG is ignored while DRAM_EN is 1 (Table 15-14); a reserved offset ignores a write (R501). -/
def Obligations.HubAndTreeRegisters : Prop :=
  ∀ (s : State) (p : Fin 64) (v : Word), s.Settled → s.booted → s.dev.portUp p = true →
    let q := s.dev.port p
    let fired : Prop := q.firedAt = some s.dev.now
    let port (t : State) (q' : Port) : Prop := t = { s with dev := { s.dev with ports := t.dev.ports } } ∧ t.dev.port p = q' ∧
      ∀ k, k ≠ p.val → t.dev.port k = s.dev.port k
    exec (.w1cWrite .bootStatus v) s =
      .next { s with dev := { s.dev with board := { s.dev.board with hostReset :=
        s.dev.board.hostReset && (!v.getLsbD 6 || s.dev.board.hostResetAt == some s.dev.now) } } } ∧
    exec (.w1cWrite .diagStatus v) s =
      .next { s with dev := { s.dev with board := { s.dev.board with ueSeen :=
        s.dev.board.ueSeen && (!v.getLsbD 0 || s.dev.board.ueAt == some s.dev.now) } } } ∧
    exec (.hubDiagSelWrite v) s = .next { s with dev := { s.dev with board := { s.dev.board with diagSel := v &&& 3 } } } ∧
    (∃ t, exec (.w1cWrite (.treeStatus p) v) s = .next t ∧ port t { q with fence := q.fence && (!v.getLsbD 4 || q.fenceAt == some s.dev.now) }) ∧
    (∃ t, exec (.w1cWrite (.treeRssi p) v) s = .next t ∧
      port t { q with
        rssiTerm := if (q.rssiArm = true ∨ fired) ∧ v.getLsbD 12 = true then q.rssiTerm else v.toNat % 2 ^ 10
        rssiArm := if fired ∧ v.getLsbD 12 = true then q.rssiArm else v.getLsbD 12
        rssiDone := q.rssiDone && (!v.getLsbD 13 || decide fired) }) ∧
    (∀ (term : BitVec 10) (arm : Bool), ∃ t, exec (.treeRssiArmWrite p term arm) s = .next t ∧
      port t { q with
        rssiTerm := if (q.rssiArm = true ∨ fired) ∧ arm = true then q.rssiTerm else term.toNat
        rssiArm := if fired ∧ arm = true then q.rssiArm else arm }) ∧
    (∃ t, exec (.treeFrameOfsWrite p v) s = .next t ∧ port t { q with ofs := v &&& 0x7FFFFF }) ∧
    exec (.dramEnWrite v) s = .next { s with dev := { s.dev with ddr := { s.dev.ddr with ctrl := v &&& 0xF1F07 } } } ∧
    (∀ k : Fin 4, ∃ t, exec (.registerWrite (BitVec.ofNat 32 (0x80010 + 4 * k.val)) v) s = .next t ∧
      t = { s with dev := { s.dev with ddr := { s.dev.ddr with cfg := t.dev.ddr.cfg } } } ∧
      ∀ j, sget (fun _ => 0) t.dev.ddr.cfg j =
        if j = k.val ∧ s.dev.ddr.ctrl.getLsbD 0 = false then v &&& 0xFF else sget (fun _ => 0) s.dev.ddr.cfg j) ∧
    exec (.registerWrite 0xC v) s = .next { s with dev := { s.dev with board := { s.dev.board with scratch := v } } } ∧
    exec (.registerWrite 0xA0004 v) s = .next { s with dev := { s.dev with board := { s.dev.board with padCtrl := v &&& 0x1FF } } } ∧
    exec (.registerWrite 0 v) s = .next s ∧
    ∃ t, exec (.rngTeqdWrite p v) s = .next t ∧ port t { q with teqd := if q.rangedCount = 0 then v else q.teqd }

/-- R162: at a program start the winder begins at the entry point of the active image with every scalar, vector and predicate register at zero;
local data memory, the records, the calendar wheel and the virtual-time unit keep their contents. -/
def Obligations.ProgramStartClearsRegisters : Prop :=
  ∀ (s : State) (p : Fin 64) (cyc rem : Nat), s.Settled → s.dev.board.resetN = false → s.dev.portUp p = true → s.dev.deputy p = false →
    let q := s.dev.port p
    let w := q.wnd.winder
    let x := s.dev.winder w
    q.counting = true → q.wnd.run = .none → q.wnd.takeover = none → q.wnd.swap = none → q.wnd.image = true → x.st = 1 →
    ∃ t, exec (.programStart p cyc rem) s = .next t ∧
      (let y := t.dev.winder w
       y.running = true ∧ y.pc = BitVec.ofNat 12 (q.wnd.img q.wnd.half).entry ∧ (∀ n, y.rg n = 0) ∧ (∀ n i, y.rv n i = 0) ∧
       (∀ n, y.rp n = 0) ∧ y.lmem = x.lmem ∧ y.imem = x.imem ∧ y.cyc0 = cyc ∧ y.rem0 = rem ∧ y.loops = [] ∧ y.sfc = q.sfc) ∧
      (let n := (t.dev.port p).wnd
       n.alloc = q.wnd.alloc ∧ n.cal = q.wnd.cal ∧ n.v = q.wnd.v ∧ n.shift = q.wnd.shift ∧ n.run = .running) ∧
      (∀ k, k ≠ w → t.dev.winder k = s.dev.winder k) ∧ ∀ k, k ≠ p.val → t.dev.port k = s.dev.port k

/-- R171 and R184: at the cutoff the entries of the report queue become the frame's report set, behind those of a set that no run has ended; when a checkpoint is complete it becomes the
newest of two, and the entries that the run fetched are released. -/
def Obligations.CutoffAndCheckpoint : Prop :=
  ∀ (s : State) (p : Fin 64), s.Settled → s.dev.board.resetN = false → s.dev.portUp p = true →
    let q := s.dev.port p
    (s.dev.deputy p = false → q.wnd.cutDone = false → s.pending.any (bringsReport p) = false → ∃ t, exec (.reportCutoff p) s = .next t ∧
      t.dev.port p = { q with wnd := { q.wnd with rptSet := (t.dev.port p).wnd.rptSet, rptQ := [], rptFetched := [], cutDone := true } } ∧
      (q.wnd.rptFetched = [] → q.wnd.rptSet = [] → (t.dev.port p).wnd.rptSet = q.wnd.rptQ) ∧
      (∀ r ∈ q.wnd.rptQ, ∃ n ∈ (t.dev.port p).wnd.rptSet, n.ri = r.ri) ∧
      (∀ r ∈ q.wnd.rptSet, (∀ n ∈ q.wnd.rptQ, n.ri ≠ r.ri) → r ∈ (t.dev.port p).wnd.rptSet) ∧
      (∀ k, k ≠ p.val → t.dev.port k = s.dev.port k) ∧ t.dev.winders = s.dev.winders ∧ t.bank = s.bank) ∧
    (∀ k, q.wnd.ckptPend = some k → ∃ t, exec (.checkpointComplete p) s = .next t ∧
      t.dev.port p = { q with wnd := { q.wnd with ckpts := (k :: q.wnd.ckpts).take 2, ckptPend := none, ckptRpts := [] } } ∧
      ∀ j, j ≠ p.val → t.dev.port j = s.dev.port j)

/-- R245: the oldest codeword of a cluster's pool goes to the lowest-numbered decoder of the cluster that serves and is idle, and works under the cap then
in force (R246); the queue never holds more than 64 codewords. -/
def Obligations.DispatchTakesLowestIdleDecoder : Prop :=
  ∀ (s : State) (c : Fin 16) (w : Codeword) (ws : List Codeword) (n : Nat), s.Settled → s.dev.board.resetN = false →
    s.dev.portUp (4 * c) = true → (s.dev.cluster c).queue = w :: ws → (s.dev.cluster c).queue.length ≤ 64 → n < 5 → (s.dev.dec (5 * c + n)).st = 1 →
    (s.dev.dec (5 * c + n)).held = none → (∀ k, k < n → (s.dev.dec (5 * c + k)).st ≠ 1 ∨ (s.dev.dec (5 * c + k)).held ≠ none) →
    ∃ t, exec (.ldpcDispatch c) s = .next t ∧
      t.dev.dec (5 * c + n) = { s.dev.dec (5 * c + n) with held := some w, cap := (t.dev.dec (5 * c + n)).cap } ∧
      (∀ k, k ≠ 5 * c.val + n → t.dev.dec k = s.dev.dec k) ∧ (∃ more, (t.dev.cluster c).queue = ws ++ more) ∧
      (t.dev.cluster c).queue.length < 64 ∧ ((s.dev.cluster c).arriving = [] → (t.dev.cluster c).queue = ws) ∧
      ∀ k, k ≠ c.val → t.dev.cluster k = s.dev.cluster k

/-- R257 and R258: UPS_POLICER_SET sets CIR, CBS and the token count of one flow at once and completes OK; a frame of a policed flow conforms when
the tokens reach its length, which is then taken from them, and a flow whose policer was never set passes no frame with a byte in it. -/
def Obligations.UpstreamPolicer : Prop :=
  (∀ (s : State) (c : Tag) (obj cir cbs : Word) (pflags : Byte), s.Open → s.New c →
    s.Free (.upsPolicerSet c obj cir cbs pflags) c obj (cmdUpsPolicerSet c obj cir cbs pflags s.dev) →
    let p := (objFlow obj).1
    let k := (objFlow obj).2
    ∃ t, exec (.upsPolicerSet c obj cir cbs pflags) s = .next t ∧ s.Completes t c 0x0402 0 [] ∧
      t.dev = { s.dev with cmds := t.dev.cmds, lastRing := t.dev.lastRing, ports := t.dev.ports } ∧ (∀ j, j ≠ p → t.dev.port j = s.dev.port j) ∧
      (∀ j, j ≠ k → (t.dev.port p).flow j = (s.dev.port p).flow j) ∧
      (t.dev.port p).flow k = { (s.dev.port p).flow k with
        cir := cir.toNat % 2 ^ 24, cbs := cbs.toNat % 2 ^ 24
        t := if pflags.getLsbD 0 then cbs.toNat % 2 ^ 24 * 1000000 else 0, tAt := s.dev.now }) ∧
  (∀ (x : Flow) (now len : Nat), x.flags.getLsbD 4 = true →
    (len * 1000000 ≤ x.tNow now → x.judge now len = (true, { x with t := x.tNow now - len * 1000000, tAt := now })) ∧
    (x.tNow now < len * 1000000 → (x.judge now len).1 = false ∧ (x.judge now len).2.tNow now = x.tNow now) ∧
    x.tNow now ≤ x.cbs * 1000000 ∧
    (x.cbs = 0 → 0 < len → (x.judge now len).1 = false)) ∧
  ∀ p k, (State.reset.dev.port p).flow k = {}

/-- R282, R283 and R278: CLS_RULES_SWAP moves the generation on by one modulo 16 at once; the swap completes, with the new and the retired
generation, when no recirculating frame carries the old one; CLS_DEFAULT_SET writes one port's default action. -/
def Obligations.ClassifierSwapAndDefaults : Prop :=
  ∀ (s : State) (c : Tag) (obj : Word) (action : Bytes) (n : Fin 2), s.Open → s.New c →
    (s.Free (.clsRulesSwap c obj) c obj (cmdClsRulesSwap c obj s.dev) → objIndex obj = n.val →
      ∃ t, exec (.clsRulesSwap c obj) s = .next t ∧ t.bank = s.bank ∧
        t.dev.ruleSet n = { s.dev.ruleSet n with gen := ((s.dev.ruleSet n).gen + 1) % 16, old := (s.dev.ruleSet n).gen, swap := some c } ∧
        ∀ k : Fin 2, k ≠ n → t.dev.ruleSet k = s.dev.ruleSet k) ∧
    (s.dev.board.resetN = false → (s.dev.ruleSet n).swap = none → exec (.generationRetire n) s = .next s) ∧
    (s.dev.board.resetN = false → ∀ (w : Tag) (a : Active), (s.dev.ruleSet n).swap = some w → (s.dev.cmds.find? fun a => a.tag == w) = some a →
      if (s.dev.cls.recQ.any fun r => r.fr.dir == n.val && r.gen == (s.dev.ruleSet n).old) = true then exec (.generationRetire n) s = .next s
      else ∃ t, exec (.generationRetire n) s = .next t ∧ t.dev.ruleSet n = { s.dev.ruleSet n with swap := none } ∧
        s.Completes t w a.opc 0 (le 1 (s.dev.ruleSet n).gen ++ le 1 (s.dev.ruleSet n).old)) ∧
    (s.Free (.clsDefaultSet c obj action) c obj (cmdClsDefaultSet c obj action s.dev) →
      ∃ t, exec (.clsDefaultSet c obj action) s = .next t ∧ s.Completes t c 0x0503 0 [] ∧
        t.dev = { s.dev with
          cmds := t.dev.cmds, lastRing := t.dev.lastRing
          cls := { s.dev.cls with upDflt := t.dev.cls.upDflt, dnDflt := t.dev.cls.dnDflt } } ∧
        (∀ k, sget (fun _ => ([] : Bytes)) t.dev.cls.upDflt k =
          if objClass obj = 1 ∧ k = objIndex obj then action else sget (fun _ => []) s.dev.cls.upDflt k) ∧
        ∀ k, sget (fun _ => ([] : Bytes)) t.dev.cls.dnDflt k =
          if objClass obj ≠ 1 ∧ k = objIndex obj then action else sget (fun _ => []) s.dev.cls.dnDflt k)

/-- R307 and R323: TBL_HOLDDOWN_SET sets the hold-down of one domain, rounded up to whole ticks of 25 us, 40 ticks after reset;
DTM_PARTITION_SET sets reserve and maximum of one partition and removes no frame; where it leaves the shared pool without a free cell, after the pool
last had 32,768, DTM_SHARED_EMPTY is raised (R322). -/
def Obligations.HoldDownAndPartitions : Prop :=
  ∀ (s : State) (c : Tag) (obj hold res max : Word) (part : Byte), s.Open → s.New c →
    (s.Free (.tblHolddownSet c obj hold) c obj (cmdTblHolddownSet c obj hold s.dev) →
      ∃ t, exec (.tblHolddownSet c obj hold) s = .next t ∧ s.Completes t c 0x0605 0 [] ∧
        t.dev = { s.dev with
          cmds := t.dev.cmds, lastRing := t.dev.lastRing
          tbl := { s.dev.tbl with hold := t.dev.tbl.hold, oddHold := t.dev.tbl.oddHold } } ∧
        ∀ k, sget (fun _ => 40) t.dev.tbl.hold k =
          if k = objIndex obj % 2 ^ 20 then (hold.toNat + 24) / 25 else sget (fun _ => 40) s.dev.tbl.hold k) ∧
    (∀ k, sget (fun _ => 40) State.reset.dev.tbl.hold k = 40) ∧
    (s.Free (.dtmPartitionSet c obj part res max) c obj (cmdDtmPartitionSet c obj part res max s.dev) →
      let new := s.dev.dtm.modPart part.toNat fun q => { q with res := res.toNat, max := max.toNat }
      let emptied : Prop := new.shared = 0 ∧ s.dev.dtm.poolHigh = true
      ∃ t, exec (.dtmPartitionSet c obj part res max) s = .next t ∧ (¬emptied → s.Completes t c 0x0704 0 []) ∧
        (emptied → s.Raises t 0x8704 (srcOf 0 3) (le 4 part.toNat ++ le 4 (s.dev.ctr (ctrIdx 0x40098)).val.toNat)) ∧
        (∀ k, k < 3 → t.dev.dtm.part k =
          if k = part.toNat then { s.dev.dtm.part k with res := res.toNat, max := max.toNat } else s.dev.dtm.part k) ∧
        t.dev.dtm.flows = s.dev.dtm.flows)

/-- R385 and R392: the loss of a path raises MAT_PATH_LOST and changes nothing else; MAT_MATE_ISOLATED is raised once. -/
def Obligations.PathLossAndIsolation : Prop :=
  ∀ (s : State) (valid : Bool), s.Open → s.dev.board.resetN = false → s.dev.variant ≠ .skx6450n →
    (s.dev.prot.hb.lost = true → exec (.pathLoss .hb valid) s = .next s) ∧
    (s.dev.prot.hb.lost = false → ∃ t, exec (.pathLoss .hb valid) s = .next t ∧
      t.dev = { s.dev with cmds := t.dev.cmds, prot := { s.dev.prot with hb := { s.dev.prot.hb with lost := true, good := 0 } } } ∧
      s.Raises t 0x8901 (srcOf 0xD 0) (le 1 1 ++ le 1 (if valid then 2 else 1))) ∧
    (s.dev.prot.dmp.lost = true → exec (.pathLoss .dmp valid) s = .next s) ∧
    (s.dev.prot.dmp.lost = false → ∃ t, exec (.pathLoss .dmp valid) s = .next t ∧
      t.dev = { s.dev with cmds := t.dev.cmds, prot := { s.dev.prot with dmp := { s.dev.prot.dmp with lost := true, good := 0 } } } ∧
      s.Raises t 0x8901 (srcOf 0xD 0) (le 1 0 ++ le 1 (if valid then 2 else 1))) ∧
    (s.dev.prot.isolated = true → exec .mateIsolated s = .next s) ∧
    (s.dev.prot.joined = true → s.dev.prot.dmp.lost = true → s.dev.prot.hb.lost = true → s.dev.prot.isolated = false →
      ∃ t, exec .mateIsolated s = .next t ∧ t.dev = { s.dev with cmds := t.dev.cmds, prot := { s.dev.prot with isolated := true } } ∧
        ∃ b, b.length = 8 ∧ s.Raises t 0x8903 (srcOf 0xD 0) b)

/-- R410: changing MODE clears LOCKED and HOLDOVER. On entry to mode 1 or 2, I starts at the FREQ in force in ppb (I counts 2^-32 ppb, FREQ 2^-32 ns
per ns); on entry to mode 0 FREQ keeps its value, as it does in every mode. -/
def Obligations.ModeChangeOfDeviceTime : Prop :=
  ∀ (s : State) (v : Word), s.Settled → s.booted → v.toNat % 4 ≠ 3 → 1 ≤ v.toNat / 16 % 16 → v.toNat / 16 % 16 ≤ 8 → 2 ≤ v.toNat / 256 % 16 →
    ∃ t, exec (.todCtrlWrite v) s = .next t ∧ t = { s with dev := { s.dev with time := t.dev.time } } ∧
      t.dev.time.ctrl = v &&& 0x3FF3 ∧ t.dev.time.freq = s.dev.time.freq ∧ t.dev.devFine = s.dev.devFine ∧
      (v.toNat % 4 ≠ s.dev.time.ctrl.toNat % 4 → t.dev.time.locked = false ∧ t.dev.time.holdover = false ∧
        (v.toNat % 4 ≠ 0 → t.dev.time.integ = s.dev.time.freq * 1000000000)) ∧
      (v.toNat % 4 = s.dev.time.ctrl.toNat % 4 → t.dev.time = { s.dev.time with ctrl := v &&& 0x3FF3 })

/-- R413, R405 and R416: TOD_STEER sets FREQ or adds to it in mode 0 and fails without effect in the others; loss and return of the 10 MHz input
move the time base's reference; a read of TOD_NOW_NS latches fraction and seconds of the same instant, which the passing of time leaves. -/
def Obligations.SteerReferenceAndLatch : Prop :=
  ∀ (s : State) (c : Tag) (freq : Word) (sflags : Byte), s.Open → s.New c → s.dev.board.resetN = false →
    (s.Free (.todSteer c 0 freq sflags) c 0 (cmdTodSteer c 0 freq sflags s.dev) →
      ∃ t, exec (.todSteer c 0 freq sflags) s = .next t ∧
        if s.dev.time.ctrl.toNat % 4 = 0 then s.Completes t c 0x0A02 0 [] ∧ t.dev = { s.dev with cmds := t.dev.cmds, lastRing := t.dev.lastRing, time := { s.dev.time with
          freq := if sflags.getLsbD 0 then s.dev.time.freq + freq.toInt else freq.toInt } }
        else s.Completes t c 0x0A02 2 [1] ∧ s.SameUnits t) ∧
    (s.dev.time.sysRef = false → ∃ t, exec .time10mLoss s = .next t ∧ s.Raises t 0x8A04 (srcOf 0xE 0) (le 1 1) ∧
      t.dev = { s.dev with cmds := t.dev.cmds, time := { s.dev.time with sysRef := true, lost10m := true } }) ∧
    (s.dev.time.sysRef = true → ∃ t, exec .time10mQualified s = .next t ∧
      t.dev = { s.dev with cmds := t.dev.cmds, time := { s.dev.time with sysRef := false, lost10m := false } } ∧
      (s.dev.time.lost10m = true → s.Raises t 0x8A04 (srcOf 0xE 0) (le 1 2))) ∧
    (s.dev.board.bootDone = true → ∃ t, exec .todNowNsRead s = .next t ∧ t.dev.sent = s.dev.sent ++ [.readData false (BitVec.ofNat 32 s.dev.time.ns)] ∧
      t.dev.time = { s.dev.time with latFrac := s.dev.time.frac / 2 ^ 16, latSec := s.dev.time.sec } ∧
      t.dev.todReg 0x0C = s.dev.time.frac / 2 ^ 16 ∧ t.dev.todReg 0x10 = s.dev.time.sec % 2 ^ 32 ∧
      t.dev.todReg 0x14 = s.dev.time.sec / 2 ^ 32 % 2 ^ 16) ∧
    ∀ o ∈ [0x0C, 0x10, 0x14], s.dev.cycle.todReg o = s.dev.todReg o

/-- R407 and R408: an edge of PPS_IN in a disciplined mode is refused and counted, or accepted: e is its distance from the nearest whole second, I
moves by -e / 2^GI, and FREQ is I - e / 2^GP to the nearest unit within the range of R404; the third edge in a row beyond 1,000 ns leaves I
and asks for a step by -e. I counts 2^-32 ppb. -/
def Obligations.ServoFollowsThePulse : Prop :=
  ∀ s : State, s.Settled → s.dev.board.resetN = false → s.dev.time.ctrl.toNat % 4 ≠ 0 →
    let x := s.dev.time
    let stamp : Int := (s.dev.devNs : Int) + x.adj.toInt
    let late := x.locked = true ∨ x.holdover = true
    let ok := ∀ p, x.last = some p → (late → p + 999000000 ≤ stamp ∧ stamp ≤ p + 1001000000) ∧ (¬late → p + 500000000 ≤ stamp)
    ∃ t, exec .ppsInEdge s = .next t ∧
      (¬ok → t.dev.time = { x with seen := some s.dev.now } ∧ (t.dev.ctr (ctrIdx 0x70040)).val = (s.dev.ctr (ctrIdx 0x70040)).val + 1) ∧
      (ok → ∃ e : Int, -500000000 < e ∧ e ≤ 500000000 ∧ (stamp - e) % 1000000000 = 0 ∧
        t.dev.time.last = some stamp ∧ t.dev.time.err = e ∧ t.dev.time.holdover = false ∧
        (let third := x.big = 2 ∧ 1000 < e.natAbs
         let i := t.dev.time.integ
         let rate := i - e * 2 ^ (32 - x.ctrl.toNat / 16 % 16)
         (third → i = x.integ ∧ t.dev.time.servo = some e ∧ t.dev.time.big = 0) ∧
         (¬third → i = x.integ - e * 2 ^ (32 - x.ctrl.toNat / 256 % 16) ∧ t.dev.time.servo = x.servo) ∧
         -4194304 ≤ t.dev.time.freq ∧ t.dev.time.freq ≤ 4194304 ∧
         (-4194304 < t.dev.time.freq → t.dev.time.freq < 4194304 → (t.dev.time.freq * 1000000000 - rate).natAbs ≤ 500000000)) ∧
        (x.locked = false → e.natAbs ≤ 20 → 7 ≤ x.good → t.dev.time.locked = true) ∧
        (100 < e.natAbs → t.dev.time.locked = false) ∧
        (x.locked = true → e.natAbs ≤ 100 → t.dev.time.locked = true))

/-- R423 to R425 with Table 15-1: in an on-chip word of 39 bits, and in a DRAM word of 40 lines, every single error is found at its bit and every
double error is uncorrectable; for every 32 data bits there is exactly one choice of check bits that reads without error. -/
def Obligations.CheckCodesCorrectOneFindTwo : Prop :=
  (∀ e ∈ [(chipCols, 39), (dramCols, 40)], ∀ raw, raw < 2 ^ e.2 → secded e.1 raw = .good →
    (∀ i, i < e.2 → secded e.1 (raw ^^^ 2 ^ i) = .fixed i) ∧
    ∀ i j, i < e.2 → j < e.2 → i ≠ j → secded e.1 (raw ^^^ 2 ^ i ^^^ 2 ^ j) = .bad) ∧
  (∀ d : Word, ∃ k : BitVec 7, secded chipCols (d.toNat + 2 ^ 32 * k.toNat) = .good ∧
    ∀ j : BitVec 7, secded chipCols (d.toNat + 2 ^ 32 * j.toNat) = .good → j = k) ∧
  ∀ (d : Word) (f : Bool), ∃ k : BitVec 7, secded dramCols (d.toNat + 2 ^ 32 * b2n f + 2 ^ 33 * k.toNat) = .good ∧
    ∀ j : BitVec 7, secded dramCols (d.toNat + 2 ^ 32 * b2n f + 2 ^ 33 * j.toNat) = .good → j = k

/-- R447 and R441: MEM_SCRUB_SET sets the scrub periods, 0 keeping one; MEM_RETIRE retires a frozen subchannel and writes it into the ledger, and
fails without effect on one that is not frozen. -/
def Obligations.ScrubAndRetirement : Prop :=
  ∀ (s : State) (c : Tag) (sramS : Half) (dramH : Byte) (n : Fin 8), s.Open → s.New c →
    let obj : Word := BitVec.ofNat 32 (0x0C * 2 ^ 24 + n.val)
    (s.Free (.memScrubSet c 0 sramS dramH) c 0 (cmdMemScrubSet c 0 sramS dramH s.dev) →
      ∃ t, exec (.memScrubSet c 0 sramS dramH) s = .next t ∧ s.Completes t c 0x0B04 0 [] ∧
        t.dev = { s.dev with cmds := t.dev.cmds, lastRing := t.dev.lastRing, ddr := { s.dev.ddr with
          sramS := if sramS = 0 then s.dev.ddr.sramS else sramS.toNat, dramH := if dramH = 0 then s.dev.ddr.dramH else dramH.toNat } }) ∧
    (s.Free (.memRetire c obj) c obj (cmdMemRetire c obj s.dev) →
      ∃ t, exec (.memRetire c obj) s = .next t ∧
        ((s.dev.sub n).st ≠ 1 → s.Completes t c 0x0B02 2 [3] ∧ s.SameUnits t) ∧
        ((s.dev.sub n).st = 1 → s.Completes t c 0x0B02 0 [] ∧ (t.dev.sub n).st = 3 ∧ (∀ k, k ≠ n.val → t.dev.sub k = s.dev.sub k) ∧
          t.dev.ddr.nv.subs = s.dev.ddr.nv.subs ++ [n.val] ∧
          t.dev = { s.dev with cmds := t.dev.cmds, lastRing := t.dev.lastRing, free := t.dev.free, ddr := t.dev.ddr }))

/-- R451 and R453: an increment that takes VAL past its end wraps it and sets CP; a gather adds VAL and CP * 2^32 less R to B, keeps VAL in R and
clears CP; a host write changes VAL alone of the counter, and what the next gather will make of B stays the same. -/
def Obligations.CountersAreGathered : Prop :=
  (∀ (d : Dev) (i n : Nat), n < 2 ^ 32 → ((d.bump i n).ctr i).val.toNat = ((d.ctr i).val.toNat + n) % 2 ^ 32 ∧
    ((d.bump i n).ctr i).cp = ((d.ctr i).cp || decide (2 ^ 32 ≤ (d.ctr i).val.toNat + n)) ∧
    ∀ k, k ≠ i → (d.bump i n).ctr k = d.ctr k) ∧
  (∀ (s : State) (idx : BitVec 25), s.Settled → s.dev.board.resetN = false → s.dev.ddr.ready = true →
    isGathered s.dev.variant idx.toNat = true → s.dev.backOk idx.toNat = true →
    let c := s.dev.ctr idx.toNat
    let x := s.dev.back idx.toNat
    ∃ t, exec (.counterGather idx) s = .next t ∧ (t.dev.back idx.toNat).b = x.b + c.val.setWidth 64 + (if c.cp then 0x100000000#64 else 0) - x.r ∧
      (t.dev.back idx.toNat).r = c.val.setWidth 64 ∧ t.dev.ctr idx.toNat = { val := c.val, cp := false } ∧
      ∀ k, k ≠ idx.toNat → t.dev.ctr k = s.dev.ctr k ∧ t.dev.back k = s.dev.back k) ∧
  ∀ (s : State) (off v : Word), s.Settled → s.booted → off.toNat < 0x1000000 → isCtrReg s.dev.variant off.toNat = true →
    let i := ctrIdx off.toNat
    ∃ t, exec (.localCounterWrite off v) s = .next t ∧ t.dev.ctr i = { s.dev.ctr i with val := v } ∧
      (t.dev.back i).b = (s.dev.back i).b ∧
      (t.dev.back i).b + (t.dev.ctr i).wide - (t.dev.back i).r = (s.dev.back i).b + (s.dev.ctr i).wide - (s.dev.back i).r ∧
      ∀ k, k ≠ i → t.dev.ctr k = s.dev.ctr k ∧ t.dev.back k = s.dev.back k

/-- R457 and R458: at a window's end its counts become the results, SEQ counts, and TAL_WINDOW is raised with EVT set; the other registers show
what the last read of TAL_WIN_SEQ latched, whatever ends later. -/
def Obligations.BandwidthWindows : Prop :=
  ∀ (s : State) (x : Fin 96), s.Open → s.dev.board.resetN = false →
    (if x.val < 64 then s.dev.variant.hasPort x else s.dev.variant.hasLane (x - 64)) = true →
    let w := s.dev.win x
    (w.en = false → ∃ t, exec (.windowEnd x) s = .next t ∧ t = s) ∧
    (w.en = true → ∃ t, exec (.windowEnd x) s = .next t ∧ (∀ k, k ≠ x.val → t.dev.win k = s.dev.win k) ∧
      t.dev.win x = { w with last := w.cur, cur := {}, seq := w.seq + 1, start := w.start + w.ms * 1000000 } ∧
      (∀ o ∈ [0x08, 0x0C, 0x10, 0x14, 0x18, 0x1C], t.dev.winReg x o = s.dev.winReg x o) ∧
      (w.evt = true → s.Raises t 0x0C02 (srcOf 0xF 0) (le 1 (x / 64) ++ le 1 (x % 64) ++ le 2 (w.seq + 1).toNat ++ le 4 w.cur.outB ++
        le 4 w.cur.inB ++ le 4 w.ms)) ∧
      (w.evt = false → t.bank = s.bank)) ∧
    (s.dev.board.bootDone = true → ∃ t, exec (.talWinSeqRead x) s = .next t ∧ t.dev.win x = { w with latched := w.last } ∧
      (∀ k, k ≠ x.val → t.dev.win k = s.dev.win k) ∧ t.dev.sent = s.dev.sent ++ [.readData false w.seq] ∧
      t.dev.winReg x 0x08 = w.last.outB % 2 ^ 32 ∧ t.dev.winReg x 0x10 = w.last.inB % 2 ^ 32 ∧
      t.dev.winReg x 0x18 = w.last.outF % 2 ^ 32 ∧ t.dev.winReg x 0x1C = w.last.inF % 2 ^ 32)
end

