-- ==== Sys2Proof/Laws/Sparse.lean ====
section
/-! SUPPORT. Sparse storage: what a key reads as after a write, and that a write keeps the canonical form. -/
namespace Sys2Proof.Machine
open Sys2Proof

variable {α : Type}

/-- Putting a value at a key: that key reads as the value, every other as before. -/
theorem sget_sput (dflt : Nat → α) : ∀ (m : Sparse α) (k : Nat) (v : α) (j : Nat),
    sget dflt (sput m k v) j = if j = k then v else sget dflt m j
  | [], k, v, j => by
    simp only [sput, sget]
    by_cases h : j = k
    · simp [h]
    · simp [h, Ne.symm h]
  | (i, w) :: m, k, v, j => by
    have ih := sget_sput dflt m k v j
    simp only [sput]
    split
    · simp only [sget]
      by_cases h : j = k
      · simp [h]
      · simp [h, Ne.symm h]
    · split
      · subst k
        simp only [sget]
        by_cases h : j = i
        · simp [h]
        · simp [h, Ne.symm h]
      · rename_i h1 h2
        simp only [sget]
        by_cases h : i = j
        · subst h; simp [Ne.symm h2]
        · simp [h, ih]

/-- Removing a key: it reads as an unlisted key does, every other as before. -/
theorem sget_sdel (dflt : Nat → α) : ∀ (m : Sparse α) (k j : Nat),
    sget dflt (sdel m k) j = if j = k then dflt k else sget dflt m j
  | [], k, j => by
    by_cases h : j = k <;> simp [sdel, sget, h]
  | (i, w) :: m, k, j => by
    have ih := sget_sdel dflt m k j
    simp only [sdel]
    split
    · subst k
      by_cases h : j = i
      · subst h; simp [ih]
      · simp [ih, h, sget, Ne.symm h]
    · rename_i h1
      simp only [sget]
      by_cases h : i = j
      · subst h; simp [h1]
      · simp [h, ih]

theorem swfFrom_sput [DecidableEq α] (dflt : Nat → α) : ∀ (m : Sparse α) (k : Nat) (v : α) (lo : Option Nat),
    swfFrom dflt lo m = true → (∀ i ∈ lo, i < k) → v ≠ dflt k → swfFrom dflt lo (sput m k v) = true
  | [], k, v, lo, _, hl, hv => by
    cases lo <;> simp_all [sput, swfFrom]
  | (i, w) :: m, k, v, lo, hm, hl, hv => by
    simp only [swfFrom, Bool.and_eq_true] at hm
    simp only [sput]
    split
    · rename_i h
      cases lo <;> simp_all [swfFrom]
    · split
      · subst k
        cases lo <;> simp_all [swfFrom]
      · rename_i h1 h2
        simp only [swfFrom, Bool.and_eq_true]
        exact ⟨hm.1, swfFrom_sput dflt m k v (some i) hm.2 (fun x hx => by cases hx; omega) hv⟩

theorem swfFrom_weaken [DecidableEq α] (dflt : Nat → α) (m : Sparse α) (j : Nat) (lo : Option Nat)
    (h : swfFrom dflt (some j) m = true) (hl : ∀ i ∈ lo, i < j) : swfFrom dflt lo m = true := by
  cases m with
  | nil => rfl
  | cons e m =>
    obtain ⟨k, w⟩ := e
    simp only [swfFrom, Bool.and_eq_true] at h ⊢
    refine ⟨⟨?_, h.1.2⟩, h.2⟩
    have hk : j < k := by simpa using h.1.1
    cases lo with
    | none => rfl
    | some i =>
      have : i < j := hl i rfl
      simp only [Option.all_some, decide_eq_true_eq]
      omega

theorem swfFrom_sdel [DecidableEq α] (dflt : Nat → α) : ∀ (m : Sparse α) (k : Nat) (lo : Option Nat),
    swfFrom dflt lo m = true → swfFrom dflt lo (sdel m k) = true
  | [], _, _, _ => rfl
  | (i, w) :: m, k, lo, hm => by
    simp only [swfFrom, Bool.and_eq_true] at hm
    simp only [sdel]
    split
    · refine swfFrom_weaken dflt _ i lo (swfFrom_sdel dflt m k (some i) hm.2) (fun x hx => ?_)
      have := hm.1.1
      cases hx
      simpa using this
    · simp only [swfFrom, Bool.and_eq_true]
      exact ⟨hm.1, swfFrom_sdel dflt m k (some i) hm.2⟩

/-- A write keeps the canonical form. -/
theorem swf_sset [DecidableEq α] (dflt : Nat → α) (m : Sparse α) (k : Nat) (v : α) (h : swf dflt m = true) :
    swf dflt (sset dflt m k v) = true := by
  unfold sset swf at *
  split
  · exact swfFrom_sdel dflt m k none h
  · exact swfFrom_sput dflt m k v none h (by simp) ‹_›

/-- What every key reads as after a write. -/
theorem sget_sset [DecidableEq α] (dflt : Nat → α) (m : Sparse α) (k : Nat) (v : α) (j : Nat) :
    sget dflt (sset dflt m k v) j = if j = k then v else sget dflt m j := by
  unfold sset
  split
  · rename_i hv
    rw [sget_sdel dflt m k j, hv]
  · exact sget_sput dflt m k v j

@[simp] theorem sget_sset_same [DecidableEq α] (dflt : Nat → α) (m : Sparse α) (k : Nat) (v : α) :
    sget dflt (sset dflt m k v) k = v := by simp [sget_sset dflt m k v k]

/-- A write changes no other key. -/
theorem sget_sset_ne [DecidableEq α] (dflt : Nat → α) (m : Sparse α) (k : Nat) (v : α) (j : Nat) (hj : j ≠ k) :
    sget dflt (sset dflt m k v) j = sget dflt m j := by simp [sget_sset dflt m k v j, hj]

end Sys2Proof.Machine
end

