-- ==== Sys2Proof/Laws/Run.lean ====
section
/-! SUPPORT. What ends every command (State.run): host memory keeps its canonical form, the queue and every unit of the device stay,
and no request is left over. -/
namespace Sys2Proof.Machine
open Sys2Proof

/-- The canonical form of host memory. -/
abbrev memWf (m : Sparse Byte) : Prop := swf memDflt m = true

theorem memWrite_wf (bs : Bytes) : ∀ (m : Sparse Byte) (a : Nat), memWf m → memWf (memWrite m a bs) := by
  induction bs with
  | nil => exact fun _ _ h => h
  | cons b bs ih => exact fun m a h => ih _ _ (swf_sset _ _ _ _ h)

/-- A byte below the bytes written. -/
theorem memWrite_below (bs : Bytes) : ∀ (m : Sparse Byte) (a k : Nat), k < a → sget memDflt (memWrite m a bs) k = sget memDflt m k := by
  induction bs with
  | nil => exact fun _ _ _ _ => rfl
  | cons b bs ih =>
    intro m a k h
    rw [memWrite, ih _ _ _ (by omega), sget_sset_ne _ _ _ _ _ (by omega)]

/-- A byte outside the bytes written. -/
theorem memWrite_outside (bs : Bytes) : ∀ (m : Sparse Byte) (a k : Nat), (k < a ∨ a + bs.length ≤ k) →
    sget memDflt (memWrite m a bs) k = sget memDflt m k := by
  induction bs with
  | nil => exact fun _ _ _ _ => rfl
  | cons b bs ih =>
    intro m a k h
    simp only [List.length_cons] at h
    rw [memWrite, ih _ _ _ (by omega), sget_sset_ne _ _ _ _ _ (by omega)]

/-- The bytes written. -/
theorem memWrite_inside (bs : Bytes) : ∀ (m : Sparse Byte) (a i : Nat), i < bs.length →
    sget memDflt (memWrite m a bs) (a + i) = bs.getD i 0 := by
  induction bs with
  | nil => intro m a i h; simp at h
  | cons b bs ih =>
    intro m a i h
    cases i with
    | zero => simp [memWrite, memWrite_below bs _ _ a (by omega : a < a + 1), sget_sset_same memDflt m a b]
    | succ i =>
      have := ih (sset memDflt m a b) (a + 1) i (by simpa using h)
      rw [show a + (i + 1) = a + 1 + i by omega, memWrite, this]
      simp

/-- Writes in order keep the canonical form. -/
theorem memWrites_wf (ws : List (Nat × Bytes)) : ∀ (m : Sparse Byte), memWf m →
    memWf (ws.foldl (fun m (w : Nat × Bytes) => memWrite m w.1 w.2) m) := by
  induction ws with
  | nil => exact fun _ h => h
  | cons w ws ih => exact fun m h => ih _ (memWrite_wf _ _ _ h)

/-- The device without its accepted commands and its requests: what the end of a command leaves alone. -/
def Dev.units (d : Dev) : Dev := { d with cmds := [], outbox := [], dma := [] }

@[simp] theorem Dev.complete_units (d : Dev) (c : Tag) (st : Nat) (r : Bytes) : (d.complete c st r).units = d.units := by
  unfold Dev.complete
  split <;> rfl

@[simp] theorem Dev.complete_dma (d : Dev) (c : Tag) (st : Nat) (r : Bytes) : (d.complete c st r).dma = d.dma := by
  unfold Dev.complete
  split <;> rfl

theorem foldl_units {β : Type} (f : Dev → β → Dev) (h : ∀ d b, (f d b).units = d.units) :
    ∀ (l : List β) (d : Dev), (l.foldl f d).units = d.units
  | [], _ => rfl
  | b :: l, d => by rw [List.foldl_cons, foldl_units f h l, h]

theorem foldl_dma {β : Type} (f : Dev → β → Dev) (h : ∀ d b, (f d b).dma = d.dma) :
    ∀ (l : List β) (d : Dev), (l.foldl f d).dma = d.dma
  | [], _ => rfl
  | b :: l, d => by rw [List.foldl_cons, foldl_dma f h l, h]

theorem Dev.matchWaits_units (d : Dev) (e : EvEntry) : (d.matchWaits e).units = d.units :=
  foldl_units _ (fun d c => Dev.complete_units d c _ _) _ _

theorem Dev.matchWaits_dma (d : Dev) (e : EvEntry) : (d.matchWaits e).dma = d.dma :=
  foldl_dma _ (fun d c => Dev.complete_dma d c _ _) _ _

theorem State.deliver_units : ∀ (n : Nat) (s : State), (s.deliver n).dev.units = s.dev.units
  | 0, _ => rfl
  | n + 1, s => by
    unfold State.deliver
    split
    · rfl
    · rw [State.deliver_units n]
      exact foldl_units _ Dev.matchWaits_units _ _

theorem State.deliver_dma : ∀ (n : Nat) (s : State), (s.deliver n).dev.dma = s.dev.dma
  | 0, _ => rfl
  | n + 1, s => by
    unfold State.deliver
    split
    · rfl
    · rw [State.deliver_dma n]
      exact foldl_dma _ Dev.matchWaits_dma _ _

theorem State.deliver_outbox : ∀ (n : Nat) (s : State), (s.deliver n).dev.outbox = []
  | 0, _ => rfl
  | n + 1, s => by
    unfold State.deliver
    split
    · assumption
    · exact State.deliver_outbox n _

theorem State.deliver_pending : ∀ (n : Nat) (s : State), (s.deliver n).pending = s.pending
  | 0, _ => rfl
  | n + 1, s => by
    unfold State.deliver
    split
    · rfl
    · rw [State.deliver_pending n]

theorem State.deliver_mem : ∀ (n : Nat) (s : State), memWf s.mem → memWf (s.deliver n).mem
  | 0, _, h => h
  | n + 1, s, h => by
    unfold State.deliver
    split
    · exact h
    · exact State.deliver_mem n _ (memWrites_wf _ _ h)

/-- With nothing asked and nothing to write, the end of a command changes nothing. -/
theorem State.run_quiet (s : State) (d : Dev) (ho : d.outbox = []) (hd : d.dma = []) : s.run d = { s with dev := d } := by
  obtain ⟨⟩ := d
  subst ho
  subst hd
  rfl

@[simp] theorem State.run_pending (s : State) (d : Dev) : (s.run d).pending = s.pending := by
  simp [State.run, State.deliver_pending]

@[simp] theorem State.run_outbox (s : State) (d : Dev) : (s.run d).dev.outbox = [] := State.deliver_outbox _ _

@[simp] theorem State.run_dma (s : State) (d : Dev) : (s.run d).dev.dma = [] := by simp [State.run, State.deliver_dma]

theorem State.run_mem (s : State) (d : Dev) (h : memWf s.mem) : memWf (s.run d).mem :=
  State.deliver_mem _ _ (memWrites_wf _ _ h)

/-- The end of a command leaves every unit of the device as the command left it. -/
theorem State.run_units (s : State) (d : Dev) : (s.run d).dev.units = d.units := State.deliver_units _ _

@[simp] theorem State.run_board (s : State) (d : Dev) : (s.run d).dev.board = d.board := (congrArg Dev.board (s.run_units d) :)
@[simp] theorem State.run_variant (s : State) (d : Dev) : (s.run d).dev.variant = d.variant := (congrArg Dev.variant (s.run_units d) :)
@[simp] theorem State.run_free (s : State) (d : Dev) : (s.run d).dev.free = d.free := (congrArg Dev.free (s.run_units d) :)
@[simp] theorem State.run_now (s : State) (d : Dev) : (s.run d).dev.now = d.now := (congrArg Dev.now (s.run_units d) :)
@[simp] theorem State.run_sent (s : State) (d : Dev) : (s.run d).dev.sent = d.sent := (congrArg Dev.sent (s.run_units d) :)
@[simp] theorem State.run_drifts (s : State) (d : Dev) : (s.run d).dev.drifts = d.drifts := (congrArg Dev.drifts (s.run_units d) :)
@[simp] theorem State.run_ports (s : State) (d : Dev) : (s.run d).dev.ports = d.ports := (congrArg Dev.ports (s.run_units d) :)
@[simp] theorem State.run_winders (s : State) (d : Dev) : (s.run d).dev.winders = d.winders := (congrArg Dev.winders (s.run_units d) :)
@[simp] theorem State.run_decs (s : State) (d : Dev) : (s.run d).dev.decs = d.decs := (congrArg Dev.decs (s.run_units d) :)
@[simp] theorem State.run_clusters (s : State) (d : Dev) : (s.run d).dev.clusters = d.clusters := (congrArg Dev.clusters (s.run_units d) :)
@[simp] theorem State.run_cmdRings (s : State) (d : Dev) : (s.run d).dev.cmdRings = d.cmdRings := (congrArg Dev.cmdRings (s.run_units d) :)
@[simp] theorem State.run_puntRings (s : State) (d : Dev) : (s.run d).dev.puntRings = d.puntRings := (congrArg Dev.puntRings (s.run_units d) :)
@[simp] theorem State.run_injRings (s : State) (d : Dev) : (s.run d).dev.injRings = d.injRings := (congrArg Dev.injRings (s.run_units d) :)
@[simp] theorem State.run_inj (s : State) (d : Dev) : (s.run d).dev.inj = d.inj := (congrArg Dev.inj (s.run_units d) :)
@[simp] theorem State.run_lastRing (s : State) (d : Dev) : (s.run d).dev.lastRing = d.lastRing := (congrArg Dev.lastRing (s.run_units d) :)
@[simp] theorem State.run_ctrs (s : State) (d : Dev) : (s.run d).dev.ctrs = d.ctrs := (congrArg Dev.ctrs (s.run_units d) :)
@[simp] theorem State.run_time (s : State) (d : Dev) : (s.run d).dev.time = d.time := (congrArg Dev.time (s.run_units d) :)
@[simp] theorem State.run_prot (s : State) (d : Dev) : (s.run d).dev.prot = d.prot := (congrArg Dev.prot (s.run_units d) :)
@[simp] theorem State.run_cls (s : State) (d : Dev) : (s.run d).dev.cls = d.cls := (congrArg Dev.cls (s.run_units d) :)
@[simp] theorem State.run_tbl (s : State) (d : Dev) : (s.run d).dev.tbl = d.tbl := (congrArg Dev.tbl (s.run_units d) :)
@[simp] theorem State.run_dtm (s : State) (d : Dev) : (s.run d).dev.dtm = d.dtm := (congrArg Dev.dtm (s.run_units d) :)
@[simp] theorem State.run_ulk (s : State) (d : Dev) : (s.run d).dev.ulk = d.ulk := (congrArg Dev.ulk (s.run_units d) :)
@[simp] theorem State.run_lanes (s : State) (d : Dev) : (s.run d).dev.lanes = d.lanes := (congrArg Dev.lanes (s.run_units d) :)
@[simp] theorem State.run_ddr (s : State) (d : Dev) : (s.run d).dev.ddr = d.ddr := (congrArg Dev.ddr (s.run_units d) :)
@[simp] theorem State.run_tally (s : State) (d : Dev) : (s.run d).dev.tally = d.tally := (congrArg Dev.tally (s.run_units d) :)

end Sys2Proof.Machine
end

