-- ==== Sys2Proof/Laws/Ends.lean ====
section
/-! SUPPORT. How every command ends: in State.run of what it did to the device, or, of the two commands of the board, in a fault. -/
namespace Sys2Proof.Machine
open Sys2Proof

/-- The outcome is a fault, or State.run of some device. -/
inductive Ends (s : State) : Host.Outcome State Fault Refusal → Prop
  | next (d : Dev) : Ends s (s.next d)
  | fault (f : Fault) : Ends s (.fault f)

theorem ends_boardEvent (s : State) (f : Dev → Option Dev) : Ends s (s.boardEvent f) := by
  unfold State.boardEvent
  split
  · exact .next _
  · exact .fault _

/-- Every command ends in a fault or in State.run of what it did to the device. -/
theorem exec_ends (i : Instr) (s : State) : Ends s (exec i s) := by
  cases i <;> first
    | exact .next _
    | exact ends_boardEvent s fun d => d.resetDeassert _
    | exact ends_boardEvent s fun d => d.railChange _ _

/-- No command is refused. -/
theorem exec_not_refused (i : Instr) (s : State) (r : Refusal) : exec i s ≠ .refused r := by
  have h := exec_ends i s
  intro e
  rw [e] at h
  cases h

/-- What a command does, when it goes on. -/
theorem exec_run {i : Instr} {s t : State} (h : exec i s = .next t) : ∃ d, t = s.run d := by
  have e := exec_ends i s
  rw [h] at e
  cases e with
  | next d => exact ⟨d, rfl⟩

end Sys2Proof.Machine
end

