-- ==== Sys2Proof/Laws/Host.lean ====
section
/-! SUPPORT. What reaches the banksman: the first event or completion of a command; the life of a host command that nothing keeps waiting. -/
namespace Sys2Proof.Machine
open Sys2Proof

theorem padTo_padTo (n : Nat) (b : Bytes) : padTo n (padTo n b) = padTo n b := by
  simp only [padTo, bslice, List.drop_zero]
  have h (l : Bytes) : (l.take n ++ List.replicate (n - (l.take n).length) 0).length = n := by
    rw [List.length_append, List.length_take, List.length_replicate]
    omega
  rw [List.take_of_length_le (Nat.le_of_eq (h b)), h, Nat.sub_self, List.replicate_zero, List.append_nil]

/-! ### Requests that raise events and nothing else -/

/-- The request raises an event or a completion. -/
def raising : BankOp → Prop
  | .event .. => True
  | .done _ => True
  | _ => False

theorem Bank.sequence_prefix (b : Bank) (ty src : Nat) (u : Bool) (tm : Dword) (pl : Bytes) :
    b.backlog <+: (b.sequence ty src u tm pl).backlog := List.prefix_append _ _

theorem Bank.flushLost_prefix (b : Bank) (tm : Dword) : b.backlog <+: (b.flushLost tm).backlog := by
  unfold Bank.flushLost
  split
  · exact List.prefix_rfl
  · split
    · exact List.prefix_rfl
    · exact List.prefix_append _ _

/-- A raising request takes nothing out of the backlog. -/
theorem BankOp.apply_prefix (op : BankOp) (b : Bank) (h : raising op) : b.backlog <+: (op.apply b).1.backlog := by
  cases op <;> try cases h
  · show b.backlog <+: (b.offer ..).backlog
    unfold Bank.offer
    split
    · exact List.prefix_rfl
    · exact (b.flushLost_prefix _).trans (Bank.sequence_prefix ..)
  · show b.backlog <+: (b.offerDone _).backlog
    unfold Bank.offerDone
    dsimp only
    split
    · exact b.flushLost_prefix _
    · exact (b.flushLost_prefix _).trans (Bank.sequence_prefix ..)

theorem Dev.complete_raising (d : Dev) (c : Tag) (st : Nat) (r : Bytes) (h : ∀ op ∈ d.outbox, raising op) :
    ∀ op ∈ (d.complete c st r).outbox, raising op := by
  unfold Dev.complete
  split
  · exact h
  · intro op ho
    rcases List.mem_append.1 ho with ho | ho
    · exact h op ho
    · rw [List.mem_singleton.1 ho]; trivial

theorem foldl_raising {β : Type} (f : Dev → β → Dev)
    (h : ∀ d b, (∀ op ∈ d.outbox, raising op) → ∀ op ∈ (f d b).outbox, raising op) :
    ∀ (l : List β) (d : Dev), (∀ op ∈ d.outbox, raising op) → ∀ op ∈ (l.foldl f d).outbox, raising op
  | [], _, hd => hd
  | b :: l, d, hd => foldl_raising f h l (f d b) (h d b hd)

/-- While only events are raised, the backlog only grows at its end. -/
theorem State.deliver_prefix : ∀ (n : Nat) (s : State), (∀ op ∈ s.dev.outbox, raising op) → s.bank.backlog <+: (s.deliver n).bank.backlog
  | 0, _, _ => List.prefix_rfl
  | n + 1, s, h => by
    unfold State.deliver
    split
    · exact List.prefix_rfl
    · rename_i op rest e
      rw [e] at h
      have h1 : raising op := h op (by simp)
      have hp := op.apply_prefix s.bank h1
      revert hp
      rcases op.apply s.bank with ⟨b, ws⟩
      intro hp
      dsimp only at hp ⊢
      refine List.IsPrefix.trans hp (State.deliver_prefix n { dev := _, bank := _, mem := _, pending := _ } ?_)
      refine foldl_raising _ (fun d ev hd => ?_) _ _ (fun o ho => h o (by simp [ho]))
      exact foldl_raising _ (fun d c hd => Dev.complete_raising d c _ _ hd) _ _ hd

/-- The first request of a command is applied to the bank as the command found it. -/
theorem State.run_first (s : State) (d : Dev) (op : BankOp) (rest : List BankOp) (ho : d.outbox = op :: rest)
    (hr : ∀ op ∈ rest, raising op) : (op.apply s.bank).1.backlog <+: (s.run d).bank.backlog := by
  unfold State.run
  dsimp only
  unfold State.deliver
  split
  · rename_i e; simp [ho] at e
  · rename_i op' rest' e
    simp only [ho, List.cons.injEq] at e
    obtain ⟨rfl, rfl⟩ := e
    dsimp only
    rcases op.apply s.bank with ⟨b, ws⟩
    dsimp only
    refine State.deliver_prefix _ { dev := _, bank := _, mem := _, pending := _ } ?_
    refine foldl_raising _ (fun d ev hd => ?_) _ _ (fun o ho => hr o (by simpa using ho))
    exact foldl_raising _ (fun d c hd => Dev.complete_raising d c _ _ hd) _ _ hd

theorem Bank.flushLost_none (b : Bank) (tm : Dword) (h : b.lost = none) : b.flushLost tm = b := by
  unfold Bank.flushLost
  rw [h]

theorem prefix_at {α : Type} (l m : List α) (e : α) (h : l ++ [e] <+: m) : m[l.length]? = some e := by
  obtain ⟨r, rfl⟩ := h
  simp

/-- The event at the head of a command's requests. -/
theorem State.run_raises (s : State) (hs : s.Open) (d : Dev) (typ src : Nat) (pl : Bytes) (rest : List BankOp)
    (ho : d.outbox = .event typ src (padTo 16 pl) s.dev.stamp :: rest) (hr : ∀ op ∈ rest, raising op) : s.Raises (s.run d) typ src pl := by
  have hp := s.run_first d _ rest ho hr
  have ha : (BankOp.apply (.event typ src (padTo 16 pl) s.dev.stamp) s.bank).1 =
      s.bank.sequence typ src (decide (0x8000 ≤ typ)) s.dev.stamp (padTo 16 pl) := by
    show s.bank.offer .. = _
    rw [Bank.offer, if_neg (by simp [hs.room]), Bank.flushLost_none _ _ hs.lost]
  rw [ha] at hp
  exact ⟨_, prefix_at _ _ _ hp, rfl, rfl, rfl, rfl⟩

/-- The completion at the head of a command's requests. -/
theorem State.run_completes (s : State) (hs : s.Open) (d : Dev) (c : Tag) (opc st : Nat) (res : Bytes) (rest : List BankOp)
    (ho : d.outbox = .done { tag := c, opc := opc, status := st, result := padTo 8 res, time := s.dev.stamp } :: rest)
    (hr : ∀ op ∈ rest, raising op) : s.Completes (s.run d) c opc st res := by
  have hp := s.run_first d _ rest ho hr
  have hf : s.bank.full = false := by
    have := hs.room
    simp only [Bank.unreservedFull, Bank.full, decide_eq_false_iff_not] at this ⊢
    omega
  have ha : (BankOp.apply (.done { tag := c, opc := opc, status := st, result := padTo 8 res, time := s.dev.stamp }) s.bank).1 =
      s.bank.sequence 1 (srcOf 0xA c.ring.val) (c.urgent || st == stGap) s.dev.stamp
        (le 4 c.seq.toNat ++ le 1 st ++ le 1 c.ring.val ++ le 2 opc ++ padTo 8 (padTo 8 res)) := by
    show s.bank.offerDone _ = _
    unfold Bank.offerDone
    dsimp only
    rw [Bank.flushLost_none _ _ hs.lost, hs.held, hf]
    rfl
  rw [ha, padTo_padTo] at hp
  refine ⟨_, prefix_at _ _ _ hp, rfl, rfl, rfl, ?_⟩
  simp only [eventBytes, padTo_padTo]

/-- The device at the end of a command, but for its accepted commands. -/
theorem State.run_dev (s : State) (d : Dev) : (s.run d).dev = { d with cmds := (s.run d).dev.cmds, outbox := [], dma := [] } := by
  have h1 := s.run_units d
  have h2 := s.run_outbox d
  have h3 := s.run_dma d
  revert h1 h2 h3
  generalize (s.run d).dev = e
  intro h1 h2 h3
  obtain ⟨⟩ := e
  obtain ⟨⟩ := d
  simp only [Dev.units, Dev.mk.injEq] at h1 h2 h3 ⊢
  simp_all

/-! ### The life of a host command -/

/-- A host command that nothing keeps waiting begins at once. -/
theorem State.start_ready (s : State) (i : Instr) (c : Tag) (obj : Word) (h : HostCmd) (hf : s.Ready i c obj h) :
    s.dev.start s.bank i c obj h =
      if h.good then h.body (s.dev.startOn i c obj h.opc .running) else (s.dev.startOn i c obj h.opc .running).mistaken c h.reach := by
  obtain ⟨h1, h2, hn, h3, ht, h4, h5, ⟨h6, h7⟩, h8⟩ := hf
  unfold Dev.start
  rw [if_neg (by simp [h1, hn]), if_neg (by simp [h2, h3, ht]), if_neg (by simp only [h4]; rcases h5 with h5 | h5 <;> simp [h5])]
  unfold Dev.effect
  rw [if_neg (by simp [Dev.startOn, Dev.accept, h6, h7])]
  cases ho : objDie obj with
  | none => simp
  | some x =>
    have h8 := h8 x (by simp [ho])
    have hd : (s.dev.startOn i c obj h.opc .running).drift x = s.dev.drift x := rfl
    rw [if_neg (by simp [hd, h8.1])]
    rw [if_neg (by rcases h8.2 with h8 | h8 <;> simp [hd, h8])]

/-- A host command that nothing keeps waiting takes effect at once. -/
theorem State.host_free (s : State) (i : Instr) (c : Tag) (obj : Word) (h : HostCmd) (hf : s.Free i c obj h) :
    s.host i c obj h = .next (s.after i c obj h) := by
  unfold State.host
  rw [s.start_ready i c obj h hf.toReady, if_pos hf.good]
  rfl

/-- A host command with a mistake of the host in it completes, and the mistake is made. -/
theorem State.host_mistaken (s : State) (i : Instr) (c : Tag) (obj : Word) (h : HostCmd) (hr : s.Ready i c obj h) (hg : h.good = false) :
    s.host i c obj h = .next (s.afterMistake i c obj h) := by
  unfold State.host
  rw [s.start_ready i c obj h hr, if_neg (by simp [hg])]
  rfl

/-- A completion of the newest command, whose tag is new. -/
theorem Dev.complete_new (d : Dev) (cs : List Active) (a : Active) (hc : d.cmds = cs ++ [a]) (hn : ∀ x ∈ cs, x.tag ≠ a.tag)
    (st : Nat) (r : Bytes) : d.complete a.tag st r =
      { d with
        cmds := cs
        outbox := d.outbox ++ [.done { tag := a.tag, opc := a.opc, status := st, result := padTo 8 r, time := d.stamp }] } := by
  have hf : d.cmds.find? (fun x => x.tag == a.tag) = some a := by
    rw [hc, List.find?_append, List.find?_eq_none.2 (by simpa using hn)]
    simp
  have hd : dropFirst (fun x : Active => x.tag == a.tag) d.cmds = cs := by
    rw [hc]
    clear hc hf
    induction cs with
    | nil => simp [dropFirst]
    | cons y l ih =>
      have hy : y.tag ≠ a.tag := hn y (by simp)
      simp [dropFirst, hy, ih fun x hx => hn x (by simp [hx])]
  unfold Dev.complete
  rw [hf]
  simp [hd]

/-- A command whose effect ends in its completion, with no event before it: the completion, and the device. -/
theorem State.after_completes (s : State) (ho : s.Open) (i : Instr) (c : Tag) (obj : Word) (hn : s.New c) (h : HostCmd) (g : Dev)
    (st : Nat) (r : Bytes) (hb : h.body (s.dev.startOn i c obj h.opc .running) = g.complete c st r)
    (hc : g.cmds = (s.dev.startOn i c obj h.opc .running).cmds) (hx : g.outbox = s.dev.outbox) (ht : g.stamp = s.dev.stamp) :
    s.Completes (s.after i c obj h) c h.opc st r ∧
      (s.after i c obj h).dev = { g with cmds := (s.after i c obj h).dev.cmds, outbox := [], dma := [] } := by
  have e := Dev.complete_new g s.dev.cmds ⟨c, obj, h.opc, i, .running, 0⟩ hc hn st r
  dsimp only at e
  unfold State.after
  rw [hb, e]
  refine ⟨s.run_completes ho _ c h.opc st r [] ?_ (by simp), ?_⟩
  · simp [hx, ho.settled.outbox, ht]
  · rw [State.run_dev]

end Sys2Proof.Machine
end

