-- ==== Sys2Proof/Laws/Events.lean ====
section
/-! SUPPORT. How an event meets the package: one lemma per shared operation for a unit that is there, one for a unit that is not or that
RESET_N holds. -/
namespace Sys2Proof.Machine
open Sys2Proof

/-- A settled state whose device is not changed. -/
theorem State.run_self (s : State) (hs : s.Settled) : s.run s.dev = s := by rw [State.run_quiet s s.dev hs.outbox hs.dma]

/-- A change of the device that raises nothing. -/
theorem State.run_silent (s : State) (hs : s.Settled) (d : Dev) (ho : d.outbox = s.dev.outbox) (hd : d.dma = s.dev.dma) :
    s.run d = { s with dev := d } := State.run_quiet s d (ho.trans hs.outbox) (hd.trans hs.dma)

theorem State.event_on (s : State) (f : Dev → Dev) (h : s.dev.board.resetN = false) : s.event f = .next (s.run (f s.dev)) := by
  simp [State.event, State.next, h]

theorem State.event_held (s : State) (f : Dev → Dev) (h : s.dev.board.resetN = true) : s.event f = .next (s.run s.dev) := by
  simp [State.event, State.next, h]

/-- An event that gives way, with nothing in the cycle to give way to. -/
theorem State.yielding_now (s : State) (p : Instr → Bool) (i : Instr) (f : Dev → Dev) (h : s.pending.any p = false) :
    s.yielding p i f = s.event f := by simp [State.yielding, h]

/-- An event that gives way waits for the end of the cycle. -/
theorem State.yielding_late (s : State) (p : Instr → Bool) (i : Instr) (f : Dev → Dev) (h : s.pending.any p = true) :
    s.yielding p i f = s.event fun d => { d with late := d.late ++ [i] } := by simp [State.yielding, h]

theorem State.timeout_now (s : State) (i : Instr) (f : Dev → Dev) (h : s.pending = []) : s.timeout i f = s.event f :=
  s.yielding_now _ i f (by simp [h])

/-- An event that a condition on the device guards. -/
theorem State.event_if (s : State) (f : Dev → Dev) (g : Dev → Bool) :
    (s.event fun d => if g d = true then f d else d) =
      .next (s.run (if s.dev.board.resetN = false ∧ g s.dev = true then f s.dev else s.dev)) := by
  cases h : s.dev.board.resetN <;> cases hg : g s.dev <;> simp [State.event, State.next, h, hg]

theorem State.atPort_eq (s : State) (p : Nat) (f : Dev → Dev) :
    s.atPort p f = .next (s.run (if s.dev.board.resetN = false ∧ s.dev.portUp p = true then f s.dev else s.dev)) :=
  s.event_if f fun d => d.portUp p

theorem State.atWinder_eq (s : State) (w : Nat) (f : Dev → Dev) :
    s.atWinder w f = .next (s.run (if s.dev.board.resetN = false ∧ s.dev.winderUp w = true then f s.dev else s.dev)) :=
  s.event_if f fun d => d.winderUp w

theorem State.atCluster_eq (s : State) (c : Nat) (f : Dev → Dev) :
    s.atCluster c f = .next (s.run (if s.dev.board.resetN = false ∧ s.dev.portUp (4 * c) = true then f s.dev else s.dev)) :=
  s.event_if f fun d => d.portUp (4 * c)

theorem State.atDecoder_eq (s : State) (n : Nat) (f : Dev → Dev) :
    s.atDecoder n f = .next (s.run
      (if s.dev.board.resetN = false ∧ (s.dev.variant.hasDecoders && s.dev.winderUp n) = true then f s.dev else s.dev)) :=
  s.event_if f fun d => d.variant.hasDecoders && d.winderUp n

theorem State.atUplink_eq (s : State) (u : Nat) (f : Dev → Dev) :
    s.atUplink u f = .next (s.run (if s.dev.board.resetN = false ∧ s.dev.variant.hasLane u = true then f s.dev else s.dev)) :=
  s.event_if f fun d => d.variant.hasLane u

theorem State.atLane_eq (s : State) (l : SerialLane) (f : Dev → Dev) :
    s.atLane l f = .next (s.run (if s.dev.board.resetN = false ∧ s.dev.variant.hasSLane (laneKey l) = true then f s.dev else s.dev)) :=
  s.event_if f fun d => d.variant.hasSLane (laneKey l)

theorem State.protEvent_eq (s : State) (f : Dev → Dev) :
    s.protEvent f = .next (s.run (if s.dev.board.resetN = false ∧ s.dev.variant.hasProt = true then f s.dev else s.dev)) :=
  s.event_if f fun d => d.variant.hasProt

theorem State.treeEvent_eq (s : State) (p : Nat) (f : Dev → Dev) :
    s.treeEvent p f = .next (s.run
      (if s.dev.board.resetN = false ∧ (s.dev.variant.hasProt && s.dev.variant.hasPort p) = true then f s.dev else s.dev)) :=
  s.event_if f fun d => d.variant.hasProt && d.variant.hasPort p

theorem State.atWindow_eq (s : State) (x : Nat) (f : Dev → Dev) :
    s.atWindow x f = .next (s.run (if s.dev.board.resetN = false ∧
      (if x < 64 then s.dev.variant.hasPort x else s.dev.variant.hasLane (x - 64)) = true then f s.dev else s.dev)) :=
  s.event_if f fun d => if x < 64 then d.variant.hasPort x else d.variant.hasLane (x - 64)

end Sys2Proof.Machine
end

