-- ==== Sys2Proof/Laws/State.lean ====
section
/-! SUPPORT. One lemma per field per update of the device, true by rfl; what a unit reads as after an update. -/
namespace Sys2Proof.Machine
open Sys2Proof

@[simp] theorem Dev.setPort_variant (d : Dev) (p : Nat) (q : Port) : (d.setPort p q).variant = d.variant := rfl
@[simp] theorem Dev.setPort_free (d : Dev) (p : Nat) (q : Port) : (d.setPort p q).free = d.free := rfl
@[simp] theorem Dev.setPort_now (d : Dev) (p : Nat) (q : Port) : (d.setPort p q).now = d.now := rfl
@[simp] theorem Dev.setPort_outbox (d : Dev) (p : Nat) (q : Port) : (d.setPort p q).outbox = d.outbox := rfl
@[simp] theorem Dev.setPort_dma (d : Dev) (p : Nat) (q : Port) : (d.setPort p q).dma = d.dma := rfl
@[simp] theorem Dev.setPort_sent (d : Dev) (p : Nat) (q : Port) : (d.setPort p q).sent = d.sent := rfl
@[simp] theorem Dev.setPort_board (d : Dev) (p : Nat) (q : Port) : (d.setPort p q).board = d.board := rfl
@[simp] theorem Dev.setPort_drifts (d : Dev) (p : Nat) (q : Port) : (d.setPort p q).drifts = d.drifts := rfl
@[simp] theorem Dev.setPort_winders (d : Dev) (p : Nat) (q : Port) : (d.setPort p q).winders = d.winders := rfl
@[simp] theorem Dev.setPort_decs (d : Dev) (p : Nat) (q : Port) : (d.setPort p q).decs = d.decs := rfl
@[simp] theorem Dev.setPort_clusters (d : Dev) (p : Nat) (q : Port) : (d.setPort p q).clusters = d.clusters := rfl
@[simp] theorem Dev.setPort_cmdRings (d : Dev) (p : Nat) (q : Port) : (d.setPort p q).cmdRings = d.cmdRings := rfl
@[simp] theorem Dev.setPort_puntRings (d : Dev) (p : Nat) (q : Port) : (d.setPort p q).puntRings = d.puntRings := rfl
@[simp] theorem Dev.setPort_injRings (d : Dev) (p : Nat) (q : Port) : (d.setPort p q).injRings = d.injRings := rfl
@[simp] theorem Dev.setPort_inj (d : Dev) (p : Nat) (q : Port) : (d.setPort p q).inj = d.inj := rfl
@[simp] theorem Dev.setPort_lastRing (d : Dev) (p : Nat) (q : Port) : (d.setPort p q).lastRing = d.lastRing := rfl
@[simp] theorem Dev.setPort_cmds (d : Dev) (p : Nat) (q : Port) : (d.setPort p q).cmds = d.cmds := rfl
@[simp] theorem Dev.setPort_ctrs (d : Dev) (p : Nat) (q : Port) : (d.setPort p q).ctrs = d.ctrs := rfl
@[simp] theorem Dev.setPort_time (d : Dev) (p : Nat) (q : Port) : (d.setPort p q).time = d.time := rfl
@[simp] theorem Dev.setPort_prot (d : Dev) (p : Nat) (q : Port) : (d.setPort p q).prot = d.prot := rfl
@[simp] theorem Dev.setPort_cls (d : Dev) (p : Nat) (q : Port) : (d.setPort p q).cls = d.cls := rfl
@[simp] theorem Dev.setPort_tbl (d : Dev) (p : Nat) (q : Port) : (d.setPort p q).tbl = d.tbl := rfl
@[simp] theorem Dev.setPort_dtm (d : Dev) (p : Nat) (q : Port) : (d.setPort p q).dtm = d.dtm := rfl
@[simp] theorem Dev.setPort_ulk (d : Dev) (p : Nat) (q : Port) : (d.setPort p q).ulk = d.ulk := rfl
@[simp] theorem Dev.setPort_lanes (d : Dev) (p : Nat) (q : Port) : (d.setPort p q).lanes = d.lanes := rfl
@[simp] theorem Dev.setPort_ddr (d : Dev) (p : Nat) (q : Port) : (d.setPort p q).ddr = d.ddr := rfl
@[simp] theorem Dev.setPort_tally (d : Dev) (p : Nat) (q : Port) : (d.setPort p q).tally = d.tally := rfl

@[simp] theorem Dev.modPort_variant (d : Dev) (p : Nat) (f : Port → Port) : (d.modPort p f).variant = d.variant := rfl
@[simp] theorem Dev.modPort_free (d : Dev) (p : Nat) (f : Port → Port) : (d.modPort p f).free = d.free := rfl
@[simp] theorem Dev.modPort_now (d : Dev) (p : Nat) (f : Port → Port) : (d.modPort p f).now = d.now := rfl
@[simp] theorem Dev.modPort_outbox (d : Dev) (p : Nat) (f : Port → Port) : (d.modPort p f).outbox = d.outbox := rfl
@[simp] theorem Dev.modPort_dma (d : Dev) (p : Nat) (f : Port → Port) : (d.modPort p f).dma = d.dma := rfl
@[simp] theorem Dev.modPort_sent (d : Dev) (p : Nat) (f : Port → Port) : (d.modPort p f).sent = d.sent := rfl
@[simp] theorem Dev.modPort_board (d : Dev) (p : Nat) (f : Port → Port) : (d.modPort p f).board = d.board := rfl
@[simp] theorem Dev.modPort_drifts (d : Dev) (p : Nat) (f : Port → Port) : (d.modPort p f).drifts = d.drifts := rfl
@[simp] theorem Dev.modPort_winders (d : Dev) (p : Nat) (f : Port → Port) : (d.modPort p f).winders = d.winders := rfl
@[simp] theorem Dev.modPort_decs (d : Dev) (p : Nat) (f : Port → Port) : (d.modPort p f).decs = d.decs := rfl
@[simp] theorem Dev.modPort_clusters (d : Dev) (p : Nat) (f : Port → Port) : (d.modPort p f).clusters = d.clusters := rfl
@[simp] theorem Dev.modPort_cmdRings (d : Dev) (p : Nat) (f : Port → Port) : (d.modPort p f).cmdRings = d.cmdRings := rfl
@[simp] theorem Dev.modPort_puntRings (d : Dev) (p : Nat) (f : Port → Port) : (d.modPort p f).puntRings = d.puntRings := rfl
@[simp] theorem Dev.modPort_injRings (d : Dev) (p : Nat) (f : Port → Port) : (d.modPort p f).injRings = d.injRings := rfl
@[simp] theorem Dev.modPort_inj (d : Dev) (p : Nat) (f : Port → Port) : (d.modPort p f).inj = d.inj := rfl
@[simp] theorem Dev.modPort_lastRing (d : Dev) (p : Nat) (f : Port → Port) : (d.modPort p f).lastRing = d.lastRing := rfl
@[simp] theorem Dev.modPort_cmds (d : Dev) (p : Nat) (f : Port → Port) : (d.modPort p f).cmds = d.cmds := rfl
@[simp] theorem Dev.modPort_ctrs (d : Dev) (p : Nat) (f : Port → Port) : (d.modPort p f).ctrs = d.ctrs := rfl
@[simp] theorem Dev.modPort_time (d : Dev) (p : Nat) (f : Port → Port) : (d.modPort p f).time = d.time := rfl
@[simp] theorem Dev.modPort_prot (d : Dev) (p : Nat) (f : Port → Port) : (d.modPort p f).prot = d.prot := rfl
@[simp] theorem Dev.modPort_cls (d : Dev) (p : Nat) (f : Port → Port) : (d.modPort p f).cls = d.cls := rfl
@[simp] theorem Dev.modPort_tbl (d : Dev) (p : Nat) (f : Port → Port) : (d.modPort p f).tbl = d.tbl := rfl
@[simp] theorem Dev.modPort_dtm (d : Dev) (p : Nat) (f : Port → Port) : (d.modPort p f).dtm = d.dtm := rfl
@[simp] theorem Dev.modPort_ulk (d : Dev) (p : Nat) (f : Port → Port) : (d.modPort p f).ulk = d.ulk := rfl
@[simp] theorem Dev.modPort_lanes (d : Dev) (p : Nat) (f : Port → Port) : (d.modPort p f).lanes = d.lanes := rfl
@[simp] theorem Dev.modPort_ddr (d : Dev) (p : Nat) (f : Port → Port) : (d.modPort p f).ddr = d.ddr := rfl
@[simp] theorem Dev.modPort_tally (d : Dev) (p : Nat) (f : Port → Port) : (d.modPort p f).tally = d.tally := rfl

@[simp] theorem Dev.setWinder_variant (d : Dev) (w : Nat) (x : Winder) : (d.setWinder w x).variant = d.variant := rfl
@[simp] theorem Dev.setWinder_free (d : Dev) (w : Nat) (x : Winder) : (d.setWinder w x).free = d.free := rfl
@[simp] theorem Dev.setWinder_now (d : Dev) (w : Nat) (x : Winder) : (d.setWinder w x).now = d.now := rfl
@[simp] theorem Dev.setWinder_outbox (d : Dev) (w : Nat) (x : Winder) : (d.setWinder w x).outbox = d.outbox := rfl
@[simp] theorem Dev.setWinder_dma (d : Dev) (w : Nat) (x : Winder) : (d.setWinder w x).dma = d.dma := rfl
@[simp] theorem Dev.setWinder_sent (d : Dev) (w : Nat) (x : Winder) : (d.setWinder w x).sent = d.sent := rfl
@[simp] theorem Dev.setWinder_board (d : Dev) (w : Nat) (x : Winder) : (d.setWinder w x).board = d.board := rfl
@[simp] theorem Dev.setWinder_drifts (d : Dev) (w : Nat) (x : Winder) : (d.setWinder w x).drifts = d.drifts := rfl
@[simp] theorem Dev.setWinder_ports (d : Dev) (w : Nat) (x : Winder) : (d.setWinder w x).ports = d.ports := rfl
@[simp] theorem Dev.setWinder_decs (d : Dev) (w : Nat) (x : Winder) : (d.setWinder w x).decs = d.decs := rfl
@[simp] theorem Dev.setWinder_clusters (d : Dev) (w : Nat) (x : Winder) : (d.setWinder w x).clusters = d.clusters := rfl
@[simp] theorem Dev.setWinder_cmdRings (d : Dev) (w : Nat) (x : Winder) : (d.setWinder w x).cmdRings = d.cmdRings := rfl
@[simp] theorem Dev.setWinder_puntRings (d : Dev) (w : Nat) (x : Winder) : (d.setWinder w x).puntRings = d.puntRings := rfl
@[simp] theorem Dev.setWinder_injRings (d : Dev) (w : Nat) (x : Winder) : (d.setWinder w x).injRings = d.injRings := rfl
@[simp] theorem Dev.setWinder_inj (d : Dev) (w : Nat) (x : Winder) : (d.setWinder w x).inj = d.inj := rfl
@[simp] theorem Dev.setWinder_lastRing (d : Dev) (w : Nat) (x : Winder) : (d.setWinder w x).lastRing = d.lastRing := rfl
@[simp] theorem Dev.setWinder_cmds (d : Dev) (w : Nat) (x : Winder) : (d.setWinder w x).cmds = d.cmds := rfl
@[simp] theorem Dev.setWinder_ctrs (d : Dev) (w : Nat) (x : Winder) : (d.setWinder w x).ctrs = d.ctrs := rfl
@[simp] theorem Dev.setWinder_time (d : Dev) (w : Nat) (x : Winder) : (d.setWinder w x).time = d.time := rfl
@[simp] theorem Dev.setWinder_prot (d : Dev) (w : Nat) (x : Winder) : (d.setWinder w x).prot = d.prot := rfl
@[simp] theorem Dev.setWinder_cls (d : Dev) (w : Nat) (x : Winder) : (d.setWinder w x).cls = d.cls := rfl
@[simp] theorem Dev.setWinder_tbl (d : Dev) (w : Nat) (x : Winder) : (d.setWinder w x).tbl = d.tbl := rfl
@[simp] theorem Dev.setWinder_dtm (d : Dev) (w : Nat) (x : Winder) : (d.setWinder w x).dtm = d.dtm := rfl
@[simp] theorem Dev.setWinder_ulk (d : Dev) (w : Nat) (x : Winder) : (d.setWinder w x).ulk = d.ulk := rfl
@[simp] theorem Dev.setWinder_lanes (d : Dev) (w : Nat) (x : Winder) : (d.setWinder w x).lanes = d.lanes := rfl
@[simp] theorem Dev.setWinder_ddr (d : Dev) (w : Nat) (x : Winder) : (d.setWinder w x).ddr = d.ddr := rfl
@[simp] theorem Dev.setWinder_tally (d : Dev) (w : Nat) (x : Winder) : (d.setWinder w x).tally = d.tally := rfl

@[simp] theorem Dev.modWinder_variant (d : Dev) (w : Nat) (f : Winder → Winder) : (d.modWinder w f).variant = d.variant := rfl
@[simp] theorem Dev.modWinder_free (d : Dev) (w : Nat) (f : Winder → Winder) : (d.modWinder w f).free = d.free := rfl
@[simp] theorem Dev.modWinder_now (d : Dev) (w : Nat) (f : Winder → Winder) : (d.modWinder w f).now = d.now := rfl
@[simp] theorem Dev.modWinder_outbox (d : Dev) (w : Nat) (f : Winder → Winder) : (d.modWinder w f).outbox = d.outbox := rfl
@[simp] theorem Dev.modWinder_dma (d : Dev) (w : Nat) (f : Winder → Winder) : (d.modWinder w f).dma = d.dma := rfl
@[simp] theorem Dev.modWinder_sent (d : Dev) (w : Nat) (f : Winder → Winder) : (d.modWinder w f).sent = d.sent := rfl
@[simp] theorem Dev.modWinder_board (d : Dev) (w : Nat) (f : Winder → Winder) : (d.modWinder w f).board = d.board := rfl
@[simp] theorem Dev.modWinder_drifts (d : Dev) (w : Nat) (f : Winder → Winder) : (d.modWinder w f).drifts = d.drifts := rfl
@[simp] theorem Dev.modWinder_ports (d : Dev) (w : Nat) (f : Winder → Winder) : (d.modWinder w f).ports = d.ports := rfl
@[simp] theorem Dev.modWinder_decs (d : Dev) (w : Nat) (f : Winder → Winder) : (d.modWinder w f).decs = d.decs := rfl
@[simp] theorem Dev.modWinder_clusters (d : Dev) (w : Nat) (f : Winder → Winder) : (d.modWinder w f).clusters = d.clusters := rfl
@[simp] theorem Dev.modWinder_cmdRings (d : Dev) (w : Nat) (f : Winder → Winder) : (d.modWinder w f).cmdRings = d.cmdRings := rfl
@[simp] theorem Dev.modWinder_puntRings (d : Dev) (w : Nat) (f : Winder → Winder) : (d.modWinder w f).puntRings = d.puntRings := rfl
@[simp] theorem Dev.modWinder_injRings (d : Dev) (w : Nat) (f : Winder → Winder) : (d.modWinder w f).injRings = d.injRings := rfl
@[simp] theorem Dev.modWinder_inj (d : Dev) (w : Nat) (f : Winder → Winder) : (d.modWinder w f).inj = d.inj := rfl
@[simp] theorem Dev.modWinder_lastRing (d : Dev) (w : Nat) (f : Winder → Winder) : (d.modWinder w f).lastRing = d.lastRing := rfl
@[simp] theorem Dev.modWinder_cmds (d : Dev) (w : Nat) (f : Winder → Winder) : (d.modWinder w f).cmds = d.cmds := rfl
@[simp] theorem Dev.modWinder_ctrs (d : Dev) (w : Nat) (f : Winder → Winder) : (d.modWinder w f).ctrs = d.ctrs := rfl
@[simp] theorem Dev.modWinder_time (d : Dev) (w : Nat) (f : Winder → Winder) : (d.modWinder w f).time = d.time := rfl
@[simp] theorem Dev.modWinder_prot (d : Dev) (w : Nat) (f : Winder → Winder) : (d.modWinder w f).prot = d.prot := rfl
@[simp] theorem Dev.modWinder_cls (d : Dev) (w : Nat) (f : Winder → Winder) : (d.modWinder w f).cls = d.cls := rfl
@[simp] theorem Dev.modWinder_tbl (d : Dev) (w : Nat) (f : Winder → Winder) : (d.modWinder w f).tbl = d.tbl := rfl
@[simp] theorem Dev.modWinder_dtm (d : Dev) (w : Nat) (f : Winder → Winder) : (d.modWinder w f).dtm = d.dtm := rfl
@[simp] theorem Dev.modWinder_ulk (d : Dev) (w : Nat) (f : Winder → Winder) : (d.modWinder w f).ulk = d.ulk := rfl
@[simp] theorem Dev.modWinder_lanes (d : Dev) (w : Nat) (f : Winder → Winder) : (d.modWinder w f).lanes = d.lanes := rfl
@[simp] theorem Dev.modWinder_ddr (d : Dev) (w : Nat) (f : Winder → Winder) : (d.modWinder w f).ddr = d.ddr := rfl
@[simp] theorem Dev.modWinder_tally (d : Dev) (w : Nat) (f : Winder → Winder) : (d.modWinder w f).tally = d.tally := rfl

@[simp] theorem Dev.modDec_variant (d : Dev) (n : Nat) (f : Decoder → Decoder) : (d.modDec n f).variant = d.variant := rfl
@[simp] theorem Dev.modDec_free (d : Dev) (n : Nat) (f : Decoder → Decoder) : (d.modDec n f).free = d.free := rfl
@[simp] theorem Dev.modDec_now (d : Dev) (n : Nat) (f : Decoder → Decoder) : (d.modDec n f).now = d.now := rfl
@[simp] theorem Dev.modDec_outbox (d : Dev) (n : Nat) (f : Decoder → Decoder) : (d.modDec n f).outbox = d.outbox := rfl
@[simp] theorem Dev.modDec_dma (d : Dev) (n : Nat) (f : Decoder → Decoder) : (d.modDec n f).dma = d.dma := rfl
@[simp] theorem Dev.modDec_sent (d : Dev) (n : Nat) (f : Decoder → Decoder) : (d.modDec n f).sent = d.sent := rfl
@[simp] theorem Dev.modDec_board (d : Dev) (n : Nat) (f : Decoder → Decoder) : (d.modDec n f).board = d.board := rfl
@[simp] theorem Dev.modDec_drifts (d : Dev) (n : Nat) (f : Decoder → Decoder) : (d.modDec n f).drifts = d.drifts := rfl
@[simp] theorem Dev.modDec_ports (d : Dev) (n : Nat) (f : Decoder → Decoder) : (d.modDec n f).ports = d.ports := rfl
@[simp] theorem Dev.modDec_winders (d : Dev) (n : Nat) (f : Decoder → Decoder) : (d.modDec n f).winders = d.winders := rfl
@[simp] theorem Dev.modDec_clusters (d : Dev) (n : Nat) (f : Decoder → Decoder) : (d.modDec n f).clusters = d.clusters := rfl
@[simp] theorem Dev.modDec_cmdRings (d : Dev) (n : Nat) (f : Decoder → Decoder) : (d.modDec n f).cmdRings = d.cmdRings := rfl
@[simp] theorem Dev.modDec_puntRings (d : Dev) (n : Nat) (f : Decoder → Decoder) : (d.modDec n f).puntRings = d.puntRings := rfl
@[simp] theorem Dev.modDec_injRings (d : Dev) (n : Nat) (f : Decoder → Decoder) : (d.modDec n f).injRings = d.injRings := rfl
@[simp] theorem Dev.modDec_inj (d : Dev) (n : Nat) (f : Decoder → Decoder) : (d.modDec n f).inj = d.inj := rfl
@[simp] theorem Dev.modDec_lastRing (d : Dev) (n : Nat) (f : Decoder → Decoder) : (d.modDec n f).lastRing = d.lastRing := rfl
@[simp] theorem Dev.modDec_cmds (d : Dev) (n : Nat) (f : Decoder → Decoder) : (d.modDec n f).cmds = d.cmds := rfl
@[simp] theorem Dev.modDec_ctrs (d : Dev) (n : Nat) (f : Decoder → Decoder) : (d.modDec n f).ctrs = d.ctrs := rfl
@[simp] theorem Dev.modDec_time (d : Dev) (n : Nat) (f : Decoder → Decoder) : (d.modDec n f).time = d.time := rfl
@[simp] theorem Dev.modDec_prot (d : Dev) (n : Nat) (f : Decoder → Decoder) : (d.modDec n f).prot = d.prot := rfl
@[simp] theorem Dev.modDec_cls (d : Dev) (n : Nat) (f : Decoder → Decoder) : (d.modDec n f).cls = d.cls := rfl
@[simp] theorem Dev.modDec_tbl (d : Dev) (n : Nat) (f : Decoder → Decoder) : (d.modDec n f).tbl = d.tbl := rfl
@[simp] theorem Dev.modDec_dtm (d : Dev) (n : Nat) (f : Decoder → Decoder) : (d.modDec n f).dtm = d.dtm := rfl
@[simp] theorem Dev.modDec_ulk (d : Dev) (n : Nat) (f : Decoder → Decoder) : (d.modDec n f).ulk = d.ulk := rfl
@[simp] theorem Dev.modDec_lanes (d : Dev) (n : Nat) (f : Decoder → Decoder) : (d.modDec n f).lanes = d.lanes := rfl
@[simp] theorem Dev.modDec_ddr (d : Dev) (n : Nat) (f : Decoder → Decoder) : (d.modDec n f).ddr = d.ddr := rfl
@[simp] theorem Dev.modDec_tally (d : Dev) (n : Nat) (f : Decoder → Decoder) : (d.modDec n f).tally = d.tally := rfl

@[simp] theorem Dev.modCluster_variant (d : Dev) (c : Nat) (f : Cluster → Cluster) : (d.modCluster c f).variant = d.variant := rfl
@[simp] theorem Dev.modCluster_free (d : Dev) (c : Nat) (f : Cluster → Cluster) : (d.modCluster c f).free = d.free := rfl
@[simp] theorem Dev.modCluster_now (d : Dev) (c : Nat) (f : Cluster → Cluster) : (d.modCluster c f).now = d.now := rfl
@[simp] theorem Dev.modCluster_outbox (d : Dev) (c : Nat) (f : Cluster → Cluster) : (d.modCluster c f).outbox = d.outbox := rfl
@[simp] theorem Dev.modCluster_dma (d : Dev) (c : Nat) (f : Cluster → Cluster) : (d.modCluster c f).dma = d.dma := rfl
@[simp] theorem Dev.modCluster_sent (d : Dev) (c : Nat) (f : Cluster → Cluster) : (d.modCluster c f).sent = d.sent := rfl
@[simp] theorem Dev.modCluster_board (d : Dev) (c : Nat) (f : Cluster → Cluster) : (d.modCluster c f).board = d.board := rfl
@[simp] theorem Dev.modCluster_drifts (d : Dev) (c : Nat) (f : Cluster → Cluster) : (d.modCluster c f).drifts = d.drifts := rfl
@[simp] theorem Dev.modCluster_ports (d : Dev) (c : Nat) (f : Cluster → Cluster) : (d.modCluster c f).ports = d.ports := rfl
@[simp] theorem Dev.modCluster_winders (d : Dev) (c : Nat) (f : Cluster → Cluster) : (d.modCluster c f).winders = d.winders := rfl
@[simp] theorem Dev.modCluster_decs (d : Dev) (c : Nat) (f : Cluster → Cluster) : (d.modCluster c f).decs = d.decs := rfl
@[simp] theorem Dev.modCluster_cmdRings (d : Dev) (c : Nat) (f : Cluster → Cluster) : (d.modCluster c f).cmdRings = d.cmdRings := rfl
@[simp] theorem Dev.modCluster_puntRings (d : Dev) (c : Nat) (f : Cluster → Cluster) : (d.modCluster c f).puntRings = d.puntRings := rfl
@[simp] theorem Dev.modCluster_injRings (d : Dev) (c : Nat) (f : Cluster → Cluster) : (d.modCluster c f).injRings = d.injRings := rfl
@[simp] theorem Dev.modCluster_inj (d : Dev) (c : Nat) (f : Cluster → Cluster) : (d.modCluster c f).inj = d.inj := rfl
@[simp] theorem Dev.modCluster_lastRing (d : Dev) (c : Nat) (f : Cluster → Cluster) : (d.modCluster c f).lastRing = d.lastRing := rfl
@[simp] theorem Dev.modCluster_cmds (d : Dev) (c : Nat) (f : Cluster → Cluster) : (d.modCluster c f).cmds = d.cmds := rfl
@[simp] theorem Dev.modCluster_ctrs (d : Dev) (c : Nat) (f : Cluster → Cluster) : (d.modCluster c f).ctrs = d.ctrs := rfl
@[simp] theorem Dev.modCluster_time (d : Dev) (c : Nat) (f : Cluster → Cluster) : (d.modCluster c f).time = d.time := rfl
@[simp] theorem Dev.modCluster_prot (d : Dev) (c : Nat) (f : Cluster → Cluster) : (d.modCluster c f).prot = d.prot := rfl
@[simp] theorem Dev.modCluster_cls (d : Dev) (c : Nat) (f : Cluster → Cluster) : (d.modCluster c f).cls = d.cls := rfl
@[simp] theorem Dev.modCluster_tbl (d : Dev) (c : Nat) (f : Cluster → Cluster) : (d.modCluster c f).tbl = d.tbl := rfl
@[simp] theorem Dev.modCluster_dtm (d : Dev) (c : Nat) (f : Cluster → Cluster) : (d.modCluster c f).dtm = d.dtm := rfl
@[simp] theorem Dev.modCluster_ulk (d : Dev) (c : Nat) (f : Cluster → Cluster) : (d.modCluster c f).ulk = d.ulk := rfl
@[simp] theorem Dev.modCluster_lanes (d : Dev) (c : Nat) (f : Cluster → Cluster) : (d.modCluster c f).lanes = d.lanes := rfl
@[simp] theorem Dev.modCluster_ddr (d : Dev) (c : Nat) (f : Cluster → Cluster) : (d.modCluster c f).ddr = d.ddr := rfl
@[simp] theorem Dev.modCluster_tally (d : Dev) (c : Nat) (f : Cluster → Cluster) : (d.modCluster c f).tally = d.tally := rfl

@[simp] theorem Dev.modDrift_variant (d : Dev) (x : Nat) (f : Drift → Drift) : (d.modDrift x f).variant = d.variant := rfl
@[simp] theorem Dev.modDrift_free (d : Dev) (x : Nat) (f : Drift → Drift) : (d.modDrift x f).free = d.free := rfl
@[simp] theorem Dev.modDrift_now (d : Dev) (x : Nat) (f : Drift → Drift) : (d.modDrift x f).now = d.now := rfl
@[simp] theorem Dev.modDrift_outbox (d : Dev) (x : Nat) (f : Drift → Drift) : (d.modDrift x f).outbox = d.outbox := rfl
@[simp] theorem Dev.modDrift_dma (d : Dev) (x : Nat) (f : Drift → Drift) : (d.modDrift x f).dma = d.dma := rfl
@[simp] theorem Dev.modDrift_sent (d : Dev) (x : Nat) (f : Drift → Drift) : (d.modDrift x f).sent = d.sent := rfl
@[simp] theorem Dev.modDrift_board (d : Dev) (x : Nat) (f : Drift → Drift) : (d.modDrift x f).board = d.board := rfl
@[simp] theorem Dev.modDrift_ports (d : Dev) (x : Nat) (f : Drift → Drift) : (d.modDrift x f).ports = d.ports := rfl
@[simp] theorem Dev.modDrift_winders (d : Dev) (x : Nat) (f : Drift → Drift) : (d.modDrift x f).winders = d.winders := rfl
@[simp] theorem Dev.modDrift_decs (d : Dev) (x : Nat) (f : Drift → Drift) : (d.modDrift x f).decs = d.decs := rfl
@[simp] theorem Dev.modDrift_clusters (d : Dev) (x : Nat) (f : Drift → Drift) : (d.modDrift x f).clusters = d.clusters := rfl
@[simp] theorem Dev.modDrift_cmdRings (d : Dev) (x : Nat) (f : Drift → Drift) : (d.modDrift x f).cmdRings = d.cmdRings := rfl
@[simp] theorem Dev.modDrift_puntRings (d : Dev) (x : Nat) (f : Drift → Drift) : (d.modDrift x f).puntRings = d.puntRings := rfl
@[simp] theorem Dev.modDrift_injRings (d : Dev) (x : Nat) (f : Drift → Drift) : (d.modDrift x f).injRings = d.injRings := rfl
@[simp] theorem Dev.modDrift_inj (d : Dev) (x : Nat) (f : Drift → Drift) : (d.modDrift x f).inj = d.inj := rfl
@[simp] theorem Dev.modDrift_lastRing (d : Dev) (x : Nat) (f : Drift → Drift) : (d.modDrift x f).lastRing = d.lastRing := rfl
@[simp] theorem Dev.modDrift_cmds (d : Dev) (x : Nat) (f : Drift → Drift) : (d.modDrift x f).cmds = d.cmds := rfl
@[simp] theorem Dev.modDrift_ctrs (d : Dev) (x : Nat) (f : Drift → Drift) : (d.modDrift x f).ctrs = d.ctrs := rfl
@[simp] theorem Dev.modDrift_time (d : Dev) (x : Nat) (f : Drift → Drift) : (d.modDrift x f).time = d.time := rfl
@[simp] theorem Dev.modDrift_prot (d : Dev) (x : Nat) (f : Drift → Drift) : (d.modDrift x f).prot = d.prot := rfl
@[simp] theorem Dev.modDrift_cls (d : Dev) (x : Nat) (f : Drift → Drift) : (d.modDrift x f).cls = d.cls := rfl
@[simp] theorem Dev.modDrift_tbl (d : Dev) (x : Nat) (f : Drift → Drift) : (d.modDrift x f).tbl = d.tbl := rfl
@[simp] theorem Dev.modDrift_dtm (d : Dev) (x : Nat) (f : Drift → Drift) : (d.modDrift x f).dtm = d.dtm := rfl
@[simp] theorem Dev.modDrift_ulk (d : Dev) (x : Nat) (f : Drift → Drift) : (d.modDrift x f).ulk = d.ulk := rfl
@[simp] theorem Dev.modDrift_lanes (d : Dev) (x : Nat) (f : Drift → Drift) : (d.modDrift x f).lanes = d.lanes := rfl
@[simp] theorem Dev.modDrift_ddr (d : Dev) (x : Nat) (f : Drift → Drift) : (d.modDrift x f).ddr = d.ddr := rfl
@[simp] theorem Dev.modDrift_tally (d : Dev) (x : Nat) (f : Drift → Drift) : (d.modDrift x f).tally = d.tally := rfl

@[simp] theorem Dev.modTree_variant (d : Dev) (p : Nat) (f : TreeProt → TreeProt) : (d.modTree p f).variant = d.variant := rfl
@[simp] theorem Dev.modTree_free (d : Dev) (p : Nat) (f : TreeProt → TreeProt) : (d.modTree p f).free = d.free := rfl
@[simp] theorem Dev.modTree_now (d : Dev) (p : Nat) (f : TreeProt → TreeProt) : (d.modTree p f).now = d.now := rfl
@[simp] theorem Dev.modTree_outbox (d : Dev) (p : Nat) (f : TreeProt → TreeProt) : (d.modTree p f).outbox = d.outbox := rfl
@[simp] theorem Dev.modTree_dma (d : Dev) (p : Nat) (f : TreeProt → TreeProt) : (d.modTree p f).dma = d.dma := rfl
@[simp] theorem Dev.modTree_sent (d : Dev) (p : Nat) (f : TreeProt → TreeProt) : (d.modTree p f).sent = d.sent := rfl
@[simp] theorem Dev.modTree_board (d : Dev) (p : Nat) (f : TreeProt → TreeProt) : (d.modTree p f).board = d.board := rfl
@[simp] theorem Dev.modTree_drifts (d : Dev) (p : Nat) (f : TreeProt → TreeProt) : (d.modTree p f).drifts = d.drifts := rfl
@[simp] theorem Dev.modTree_ports (d : Dev) (p : Nat) (f : TreeProt → TreeProt) : (d.modTree p f).ports = d.ports := rfl
@[simp] theorem Dev.modTree_winders (d : Dev) (p : Nat) (f : TreeProt → TreeProt) : (d.modTree p f).winders = d.winders := rfl
@[simp] theorem Dev.modTree_decs (d : Dev) (p : Nat) (f : TreeProt → TreeProt) : (d.modTree p f).decs = d.decs := rfl
@[simp] theorem Dev.modTree_clusters (d : Dev) (p : Nat) (f : TreeProt → TreeProt) : (d.modTree p f).clusters = d.clusters := rfl
@[simp] theorem Dev.modTree_cmdRings (d : Dev) (p : Nat) (f : TreeProt → TreeProt) : (d.modTree p f).cmdRings = d.cmdRings := rfl
@[simp] theorem Dev.modTree_puntRings (d : Dev) (p : Nat) (f : TreeProt → TreeProt) : (d.modTree p f).puntRings = d.puntRings := rfl
@[simp] theorem Dev.modTree_injRings (d : Dev) (p : Nat) (f : TreeProt → TreeProt) : (d.modTree p f).injRings = d.injRings := rfl
@[simp] theorem Dev.modTree_inj (d : Dev) (p : Nat) (f : TreeProt → TreeProt) : (d.modTree p f).inj = d.inj := rfl
@[simp] theorem Dev.modTree_lastRing (d : Dev) (p : Nat) (f : TreeProt → TreeProt) : (d.modTree p f).lastRing = d.lastRing := rfl
@[simp] theorem Dev.modTree_cmds (d : Dev) (p : Nat) (f : TreeProt → TreeProt) : (d.modTree p f).cmds = d.cmds := rfl
@[simp] theorem Dev.modTree_ctrs (d : Dev) (p : Nat) (f : TreeProt → TreeProt) : (d.modTree p f).ctrs = d.ctrs := rfl
@[simp] theorem Dev.modTree_time (d : Dev) (p : Nat) (f : TreeProt → TreeProt) : (d.modTree p f).time = d.time := rfl
@[simp] theorem Dev.modTree_cls (d : Dev) (p : Nat) (f : TreeProt → TreeProt) : (d.modTree p f).cls = d.cls := rfl
@[simp] theorem Dev.modTree_tbl (d : Dev) (p : Nat) (f : TreeProt → TreeProt) : (d.modTree p f).tbl = d.tbl := rfl
@[simp] theorem Dev.modTree_dtm (d : Dev) (p : Nat) (f : TreeProt → TreeProt) : (d.modTree p f).dtm = d.dtm := rfl
@[simp] theorem Dev.modTree_ulk (d : Dev) (p : Nat) (f : TreeProt → TreeProt) : (d.modTree p f).ulk = d.ulk := rfl
@[simp] theorem Dev.modTree_lanes (d : Dev) (p : Nat) (f : TreeProt → TreeProt) : (d.modTree p f).lanes = d.lanes := rfl
@[simp] theorem Dev.modTree_ddr (d : Dev) (p : Nat) (f : TreeProt → TreeProt) : (d.modTree p f).ddr = d.ddr := rfl
@[simp] theorem Dev.modTree_tally (d : Dev) (p : Nat) (f : TreeProt → TreeProt) : (d.modTree p f).tally = d.tally := rfl

@[simp] theorem Dev.modProt_variant (d : Dev) (f : Prot → Prot) : (d.modProt f).variant = d.variant := rfl
@[simp] theorem Dev.modProt_free (d : Dev) (f : Prot → Prot) : (d.modProt f).free = d.free := rfl
@[simp] theorem Dev.modProt_now (d : Dev) (f : Prot → Prot) : (d.modProt f).now = d.now := rfl
@[simp] theorem Dev.modProt_outbox (d : Dev) (f : Prot → Prot) : (d.modProt f).outbox = d.outbox := rfl
@[simp] theorem Dev.modProt_dma (d : Dev) (f : Prot → Prot) : (d.modProt f).dma = d.dma := rfl
@[simp] theorem Dev.modProt_sent (d : Dev) (f : Prot → Prot) : (d.modProt f).sent = d.sent := rfl
@[simp] theorem Dev.modProt_board (d : Dev) (f : Prot → Prot) : (d.modProt f).board = d.board := rfl
@[simp] theorem Dev.modProt_drifts (d : Dev) (f : Prot → Prot) : (d.modProt f).drifts = d.drifts := rfl
@[simp] theorem Dev.modProt_ports (d : Dev) (f : Prot → Prot) : (d.modProt f).ports = d.ports := rfl
@[simp] theorem Dev.modProt_winders (d : Dev) (f : Prot → Prot) : (d.modProt f).winders = d.winders := rfl
@[simp] theorem Dev.modProt_decs (d : Dev) (f : Prot → Prot) : (d.modProt f).decs = d.decs := rfl
@[simp] theorem Dev.modProt_clusters (d : Dev) (f : Prot → Prot) : (d.modProt f).clusters = d.clusters := rfl
@[simp] theorem Dev.modProt_cmdRings (d : Dev) (f : Prot → Prot) : (d.modProt f).cmdRings = d.cmdRings := rfl
@[simp] theorem Dev.modProt_puntRings (d : Dev) (f : Prot → Prot) : (d.modProt f).puntRings = d.puntRings := rfl
@[simp] theorem Dev.modProt_injRings (d : Dev) (f : Prot → Prot) : (d.modProt f).injRings = d.injRings := rfl
@[simp] theorem Dev.modProt_inj (d : Dev) (f : Prot → Prot) : (d.modProt f).inj = d.inj := rfl
@[simp] theorem Dev.modProt_lastRing (d : Dev) (f : Prot → Prot) : (d.modProt f).lastRing = d.lastRing := rfl
@[simp] theorem Dev.modProt_cmds (d : Dev) (f : Prot → Prot) : (d.modProt f).cmds = d.cmds := rfl
@[simp] theorem Dev.modProt_ctrs (d : Dev) (f : Prot → Prot) : (d.modProt f).ctrs = d.ctrs := rfl
@[simp] theorem Dev.modProt_time (d : Dev) (f : Prot → Prot) : (d.modProt f).time = d.time := rfl
@[simp] theorem Dev.modProt_cls (d : Dev) (f : Prot → Prot) : (d.modProt f).cls = d.cls := rfl
@[simp] theorem Dev.modProt_tbl (d : Dev) (f : Prot → Prot) : (d.modProt f).tbl = d.tbl := rfl
@[simp] theorem Dev.modProt_dtm (d : Dev) (f : Prot → Prot) : (d.modProt f).dtm = d.dtm := rfl
@[simp] theorem Dev.modProt_ulk (d : Dev) (f : Prot → Prot) : (d.modProt f).ulk = d.ulk := rfl
@[simp] theorem Dev.modProt_lanes (d : Dev) (f : Prot → Prot) : (d.modProt f).lanes = d.lanes := rfl
@[simp] theorem Dev.modProt_ddr (d : Dev) (f : Prot → Prot) : (d.modProt f).ddr = d.ddr := rfl
@[simp] theorem Dev.modProt_tally (d : Dev) (f : Prot → Prot) : (d.modProt f).tally = d.tally := rfl

@[simp] theorem Dev.modCmdRing_variant (d : Dev) (r : Nat) (f : CmdRing → CmdRing) : (d.modCmdRing r f).variant = d.variant := rfl
@[simp] theorem Dev.modCmdRing_free (d : Dev) (r : Nat) (f : CmdRing → CmdRing) : (d.modCmdRing r f).free = d.free := rfl
@[simp] theorem Dev.modCmdRing_now (d : Dev) (r : Nat) (f : CmdRing → CmdRing) : (d.modCmdRing r f).now = d.now := rfl
@[simp] theorem Dev.modCmdRing_outbox (d : Dev) (r : Nat) (f : CmdRing → CmdRing) : (d.modCmdRing r f).outbox = d.outbox := rfl
@[simp] theorem Dev.modCmdRing_dma (d : Dev) (r : Nat) (f : CmdRing → CmdRing) : (d.modCmdRing r f).dma = d.dma := rfl
@[simp] theorem Dev.modCmdRing_sent (d : Dev) (r : Nat) (f : CmdRing → CmdRing) : (d.modCmdRing r f).sent = d.sent := rfl
@[simp] theorem Dev.modCmdRing_board (d : Dev) (r : Nat) (f : CmdRing → CmdRing) : (d.modCmdRing r f).board = d.board := rfl
@[simp] theorem Dev.modCmdRing_drifts (d : Dev) (r : Nat) (f : CmdRing → CmdRing) : (d.modCmdRing r f).drifts = d.drifts := rfl
@[simp] theorem Dev.modCmdRing_ports (d : Dev) (r : Nat) (f : CmdRing → CmdRing) : (d.modCmdRing r f).ports = d.ports := rfl
@[simp] theorem Dev.modCmdRing_winders (d : Dev) (r : Nat) (f : CmdRing → CmdRing) : (d.modCmdRing r f).winders = d.winders := rfl
@[simp] theorem Dev.modCmdRing_decs (d : Dev) (r : Nat) (f : CmdRing → CmdRing) : (d.modCmdRing r f).decs = d.decs := rfl
@[simp] theorem Dev.modCmdRing_clusters (d : Dev) (r : Nat) (f : CmdRing → CmdRing) : (d.modCmdRing r f).clusters = d.clusters := rfl
@[simp] theorem Dev.modCmdRing_puntRings (d : Dev) (r : Nat) (f : CmdRing → CmdRing) : (d.modCmdRing r f).puntRings = d.puntRings := rfl
@[simp] theorem Dev.modCmdRing_injRings (d : Dev) (r : Nat) (f : CmdRing → CmdRing) : (d.modCmdRing r f).injRings = d.injRings := rfl
@[simp] theorem Dev.modCmdRing_inj (d : Dev) (r : Nat) (f : CmdRing → CmdRing) : (d.modCmdRing r f).inj = d.inj := rfl
@[simp] theorem Dev.modCmdRing_lastRing (d : Dev) (r : Nat) (f : CmdRing → CmdRing) : (d.modCmdRing r f).lastRing = d.lastRing := rfl
@[simp] theorem Dev.modCmdRing_cmds (d : Dev) (r : Nat) (f : CmdRing → CmdRing) : (d.modCmdRing r f).cmds = d.cmds := rfl
@[simp] theorem Dev.modCmdRing_ctrs (d : Dev) (r : Nat) (f : CmdRing → CmdRing) : (d.modCmdRing r f).ctrs = d.ctrs := rfl
@[simp] theorem Dev.modCmdRing_time (d : Dev) (r : Nat) (f : CmdRing → CmdRing) : (d.modCmdRing r f).time = d.time := rfl
@[simp] theorem Dev.modCmdRing_prot (d : Dev) (r : Nat) (f : CmdRing → CmdRing) : (d.modCmdRing r f).prot = d.prot := rfl
@[simp] theorem Dev.modCmdRing_cls (d : Dev) (r : Nat) (f : CmdRing → CmdRing) : (d.modCmdRing r f).cls = d.cls := rfl
@[simp] theorem Dev.modCmdRing_tbl (d : Dev) (r : Nat) (f : CmdRing → CmdRing) : (d.modCmdRing r f).tbl = d.tbl := rfl
@[simp] theorem Dev.modCmdRing_dtm (d : Dev) (r : Nat) (f : CmdRing → CmdRing) : (d.modCmdRing r f).dtm = d.dtm := rfl
@[simp] theorem Dev.modCmdRing_ulk (d : Dev) (r : Nat) (f : CmdRing → CmdRing) : (d.modCmdRing r f).ulk = d.ulk := rfl
@[simp] theorem Dev.modCmdRing_lanes (d : Dev) (r : Nat) (f : CmdRing → CmdRing) : (d.modCmdRing r f).lanes = d.lanes := rfl
@[simp] theorem Dev.modCmdRing_ddr (d : Dev) (r : Nat) (f : CmdRing → CmdRing) : (d.modCmdRing r f).ddr = d.ddr := rfl
@[simp] theorem Dev.modCmdRing_tally (d : Dev) (r : Nat) (f : CmdRing → CmdRing) : (d.modCmdRing r f).tally = d.tally := rfl

@[simp] theorem Dev.modPunt_variant (d : Dev) (r : Nat) (f : PktRing → PktRing) : (d.modPunt r f).variant = d.variant := rfl
@[simp] theorem Dev.modPunt_free (d : Dev) (r : Nat) (f : PktRing → PktRing) : (d.modPunt r f).free = d.free := rfl
@[simp] theorem Dev.modPunt_now (d : Dev) (r : Nat) (f : PktRing → PktRing) : (d.modPunt r f).now = d.now := rfl
@[simp] theorem Dev.modPunt_outbox (d : Dev) (r : Nat) (f : PktRing → PktRing) : (d.modPunt r f).outbox = d.outbox := rfl
@[simp] theorem Dev.modPunt_dma (d : Dev) (r : Nat) (f : PktRing → PktRing) : (d.modPunt r f).dma = d.dma := rfl
@[simp] theorem Dev.modPunt_sent (d : Dev) (r : Nat) (f : PktRing → PktRing) : (d.modPunt r f).sent = d.sent := rfl
@[simp] theorem Dev.modPunt_board (d : Dev) (r : Nat) (f : PktRing → PktRing) : (d.modPunt r f).board = d.board := rfl
@[simp] theorem Dev.modPunt_drifts (d : Dev) (r : Nat) (f : PktRing → PktRing) : (d.modPunt r f).drifts = d.drifts := rfl
@[simp] theorem Dev.modPunt_ports (d : Dev) (r : Nat) (f : PktRing → PktRing) : (d.modPunt r f).ports = d.ports := rfl
@[simp] theorem Dev.modPunt_winders (d : Dev) (r : Nat) (f : PktRing → PktRing) : (d.modPunt r f).winders = d.winders := rfl
@[simp] theorem Dev.modPunt_decs (d : Dev) (r : Nat) (f : PktRing → PktRing) : (d.modPunt r f).decs = d.decs := rfl
@[simp] theorem Dev.modPunt_clusters (d : Dev) (r : Nat) (f : PktRing → PktRing) : (d.modPunt r f).clusters = d.clusters := rfl
@[simp] theorem Dev.modPunt_cmdRings (d : Dev) (r : Nat) (f : PktRing → PktRing) : (d.modPunt r f).cmdRings = d.cmdRings := rfl
@[simp] theorem Dev.modPunt_injRings (d : Dev) (r : Nat) (f : PktRing → PktRing) : (d.modPunt r f).injRings = d.injRings := rfl
@[simp] theorem Dev.modPunt_inj (d : Dev) (r : Nat) (f : PktRing → PktRing) : (d.modPunt r f).inj = d.inj := rfl
@[simp] theorem Dev.modPunt_lastRing (d : Dev) (r : Nat) (f : PktRing → PktRing) : (d.modPunt r f).lastRing = d.lastRing := rfl
@[simp] theorem Dev.modPunt_cmds (d : Dev) (r : Nat) (f : PktRing → PktRing) : (d.modPunt r f).cmds = d.cmds := rfl
@[simp] theorem Dev.modPunt_ctrs (d : Dev) (r : Nat) (f : PktRing → PktRing) : (d.modPunt r f).ctrs = d.ctrs := rfl
@[simp] theorem Dev.modPunt_time (d : Dev) (r : Nat) (f : PktRing → PktRing) : (d.modPunt r f).time = d.time := rfl
@[simp] theorem Dev.modPunt_prot (d : Dev) (r : Nat) (f : PktRing → PktRing) : (d.modPunt r f).prot = d.prot := rfl
@[simp] theorem Dev.modPunt_cls (d : Dev) (r : Nat) (f : PktRing → PktRing) : (d.modPunt r f).cls = d.cls := rfl
@[simp] theorem Dev.modPunt_tbl (d : Dev) (r : Nat) (f : PktRing → PktRing) : (d.modPunt r f).tbl = d.tbl := rfl
@[simp] theorem Dev.modPunt_dtm (d : Dev) (r : Nat) (f : PktRing → PktRing) : (d.modPunt r f).dtm = d.dtm := rfl
@[simp] theorem Dev.modPunt_ulk (d : Dev) (r : Nat) (f : PktRing → PktRing) : (d.modPunt r f).ulk = d.ulk := rfl
@[simp] theorem Dev.modPunt_lanes (d : Dev) (r : Nat) (f : PktRing → PktRing) : (d.modPunt r f).lanes = d.lanes := rfl
@[simp] theorem Dev.modPunt_ddr (d : Dev) (r : Nat) (f : PktRing → PktRing) : (d.modPunt r f).ddr = d.ddr := rfl
@[simp] theorem Dev.modPunt_tally (d : Dev) (r : Nat) (f : PktRing → PktRing) : (d.modPunt r f).tally = d.tally := rfl

@[simp] theorem Dev.modInj_variant (d : Dev) (r : Nat) (f : PktRing → PktRing) : (d.modInj r f).variant = d.variant := rfl
@[simp] theorem Dev.modInj_free (d : Dev) (r : Nat) (f : PktRing → PktRing) : (d.modInj r f).free = d.free := rfl
@[simp] theorem Dev.modInj_now (d : Dev) (r : Nat) (f : PktRing → PktRing) : (d.modInj r f).now = d.now := rfl
@[simp] theorem Dev.modInj_outbox (d : Dev) (r : Nat) (f : PktRing → PktRing) : (d.modInj r f).outbox = d.outbox := rfl
@[simp] theorem Dev.modInj_dma (d : Dev) (r : Nat) (f : PktRing → PktRing) : (d.modInj r f).dma = d.dma := rfl
@[simp] theorem Dev.modInj_sent (d : Dev) (r : Nat) (f : PktRing → PktRing) : (d.modInj r f).sent = d.sent := rfl
@[simp] theorem Dev.modInj_board (d : Dev) (r : Nat) (f : PktRing → PktRing) : (d.modInj r f).board = d.board := rfl
@[simp] theorem Dev.modInj_drifts (d : Dev) (r : Nat) (f : PktRing → PktRing) : (d.modInj r f).drifts = d.drifts := rfl
@[simp] theorem Dev.modInj_ports (d : Dev) (r : Nat) (f : PktRing → PktRing) : (d.modInj r f).ports = d.ports := rfl
@[simp] theorem Dev.modInj_winders (d : Dev) (r : Nat) (f : PktRing → PktRing) : (d.modInj r f).winders = d.winders := rfl
@[simp] theorem Dev.modInj_decs (d : Dev) (r : Nat) (f : PktRing → PktRing) : (d.modInj r f).decs = d.decs := rfl
@[simp] theorem Dev.modInj_clusters (d : Dev) (r : Nat) (f : PktRing → PktRing) : (d.modInj r f).clusters = d.clusters := rfl
@[simp] theorem Dev.modInj_cmdRings (d : Dev) (r : Nat) (f : PktRing → PktRing) : (d.modInj r f).cmdRings = d.cmdRings := rfl
@[simp] theorem Dev.modInj_puntRings (d : Dev) (r : Nat) (f : PktRing → PktRing) : (d.modInj r f).puntRings = d.puntRings := rfl
@[simp] theorem Dev.modInj_inj (d : Dev) (r : Nat) (f : PktRing → PktRing) : (d.modInj r f).inj = d.inj := rfl
@[simp] theorem Dev.modInj_lastRing (d : Dev) (r : Nat) (f : PktRing → PktRing) : (d.modInj r f).lastRing = d.lastRing := rfl
@[simp] theorem Dev.modInj_cmds (d : Dev) (r : Nat) (f : PktRing → PktRing) : (d.modInj r f).cmds = d.cmds := rfl
@[simp] theorem Dev.modInj_ctrs (d : Dev) (r : Nat) (f : PktRing → PktRing) : (d.modInj r f).ctrs = d.ctrs := rfl
@[simp] theorem Dev.modInj_time (d : Dev) (r : Nat) (f : PktRing → PktRing) : (d.modInj r f).time = d.time := rfl
@[simp] theorem Dev.modInj_prot (d : Dev) (r : Nat) (f : PktRing → PktRing) : (d.modInj r f).prot = d.prot := rfl
@[simp] theorem Dev.modInj_cls (d : Dev) (r : Nat) (f : PktRing → PktRing) : (d.modInj r f).cls = d.cls := rfl
@[simp] theorem Dev.modInj_tbl (d : Dev) (r : Nat) (f : PktRing → PktRing) : (d.modInj r f).tbl = d.tbl := rfl
@[simp] theorem Dev.modInj_dtm (d : Dev) (r : Nat) (f : PktRing → PktRing) : (d.modInj r f).dtm = d.dtm := rfl
@[simp] theorem Dev.modInj_ulk (d : Dev) (r : Nat) (f : PktRing → PktRing) : (d.modInj r f).ulk = d.ulk := rfl
@[simp] theorem Dev.modInj_lanes (d : Dev) (r : Nat) (f : PktRing → PktRing) : (d.modInj r f).lanes = d.lanes := rfl
@[simp] theorem Dev.modInj_ddr (d : Dev) (r : Nat) (f : PktRing → PktRing) : (d.modInj r f).ddr = d.ddr := rfl
@[simp] theorem Dev.modInj_tally (d : Dev) (r : Nat) (f : PktRing → PktRing) : (d.modInj r f).tally = d.tally := rfl

@[simp] theorem Dev.emit_variant (d : Dev) (ty src : Nat) (pl : Bytes) : (d.emit ty src pl).variant = d.variant := rfl
@[simp] theorem Dev.emit_free (d : Dev) (ty src : Nat) (pl : Bytes) : (d.emit ty src pl).free = d.free := rfl
@[simp] theorem Dev.emit_now (d : Dev) (ty src : Nat) (pl : Bytes) : (d.emit ty src pl).now = d.now := rfl
@[simp] theorem Dev.emit_dma (d : Dev) (ty src : Nat) (pl : Bytes) : (d.emit ty src pl).dma = d.dma := rfl
@[simp] theorem Dev.emit_sent (d : Dev) (ty src : Nat) (pl : Bytes) : (d.emit ty src pl).sent = d.sent := rfl
@[simp] theorem Dev.emit_board (d : Dev) (ty src : Nat) (pl : Bytes) : (d.emit ty src pl).board = d.board := rfl
@[simp] theorem Dev.emit_drifts (d : Dev) (ty src : Nat) (pl : Bytes) : (d.emit ty src pl).drifts = d.drifts := rfl
@[simp] theorem Dev.emit_ports (d : Dev) (ty src : Nat) (pl : Bytes) : (d.emit ty src pl).ports = d.ports := rfl
@[simp] theorem Dev.emit_winders (d : Dev) (ty src : Nat) (pl : Bytes) : (d.emit ty src pl).winders = d.winders := rfl
@[simp] theorem Dev.emit_decs (d : Dev) (ty src : Nat) (pl : Bytes) : (d.emit ty src pl).decs = d.decs := rfl
@[simp] theorem Dev.emit_clusters (d : Dev) (ty src : Nat) (pl : Bytes) : (d.emit ty src pl).clusters = d.clusters := rfl
@[simp] theorem Dev.emit_cmdRings (d : Dev) (ty src : Nat) (pl : Bytes) : (d.emit ty src pl).cmdRings = d.cmdRings := rfl
@[simp] theorem Dev.emit_puntRings (d : Dev) (ty src : Nat) (pl : Bytes) : (d.emit ty src pl).puntRings = d.puntRings := rfl
@[simp] theorem Dev.emit_injRings (d : Dev) (ty src : Nat) (pl : Bytes) : (d.emit ty src pl).injRings = d.injRings := rfl
@[simp] theorem Dev.emit_inj (d : Dev) (ty src : Nat) (pl : Bytes) : (d.emit ty src pl).inj = d.inj := rfl
@[simp] theorem Dev.emit_lastRing (d : Dev) (ty src : Nat) (pl : Bytes) : (d.emit ty src pl).lastRing = d.lastRing := rfl
@[simp] theorem Dev.emit_cmds (d : Dev) (ty src : Nat) (pl : Bytes) : (d.emit ty src pl).cmds = d.cmds := rfl
@[simp] theorem Dev.emit_ctrs (d : Dev) (ty src : Nat) (pl : Bytes) : (d.emit ty src pl).ctrs = d.ctrs := rfl
@[simp] theorem Dev.emit_time (d : Dev) (ty src : Nat) (pl : Bytes) : (d.emit ty src pl).time = d.time := rfl
@[simp] theorem Dev.emit_prot (d : Dev) (ty src : Nat) (pl : Bytes) : (d.emit ty src pl).prot = d.prot := rfl
@[simp] theorem Dev.emit_cls (d : Dev) (ty src : Nat) (pl : Bytes) : (d.emit ty src pl).cls = d.cls := rfl
@[simp] theorem Dev.emit_tbl (d : Dev) (ty src : Nat) (pl : Bytes) : (d.emit ty src pl).tbl = d.tbl := rfl
@[simp] theorem Dev.emit_dtm (d : Dev) (ty src : Nat) (pl : Bytes) : (d.emit ty src pl).dtm = d.dtm := rfl
@[simp] theorem Dev.emit_ulk (d : Dev) (ty src : Nat) (pl : Bytes) : (d.emit ty src pl).ulk = d.ulk := rfl
@[simp] theorem Dev.emit_lanes (d : Dev) (ty src : Nat) (pl : Bytes) : (d.emit ty src pl).lanes = d.lanes := rfl
@[simp] theorem Dev.emit_ddr (d : Dev) (ty src : Nat) (pl : Bytes) : (d.emit ty src pl).ddr = d.ddr := rfl
@[simp] theorem Dev.emit_tally (d : Dev) (ty src : Nat) (pl : Bytes) : (d.emit ty src pl).tally = d.tally := rfl

@[simp] theorem Dev.send_variant (d : Dev) (x : Sent) : (d.send x).variant = d.variant := rfl
@[simp] theorem Dev.send_free (d : Dev) (x : Sent) : (d.send x).free = d.free := rfl
@[simp] theorem Dev.send_now (d : Dev) (x : Sent) : (d.send x).now = d.now := rfl
@[simp] theorem Dev.send_outbox (d : Dev) (x : Sent) : (d.send x).outbox = d.outbox := rfl
@[simp] theorem Dev.send_dma (d : Dev) (x : Sent) : (d.send x).dma = d.dma := rfl
@[simp] theorem Dev.send_board (d : Dev) (x : Sent) : (d.send x).board = d.board := rfl
@[simp] theorem Dev.send_drifts (d : Dev) (x : Sent) : (d.send x).drifts = d.drifts := rfl
@[simp] theorem Dev.send_ports (d : Dev) (x : Sent) : (d.send x).ports = d.ports := rfl
@[simp] theorem Dev.send_winders (d : Dev) (x : Sent) : (d.send x).winders = d.winders := rfl
@[simp] theorem Dev.send_decs (d : Dev) (x : Sent) : (d.send x).decs = d.decs := rfl
@[simp] theorem Dev.send_clusters (d : Dev) (x : Sent) : (d.send x).clusters = d.clusters := rfl
@[simp] theorem Dev.send_cmdRings (d : Dev) (x : Sent) : (d.send x).cmdRings = d.cmdRings := rfl
@[simp] theorem Dev.send_puntRings (d : Dev) (x : Sent) : (d.send x).puntRings = d.puntRings := rfl
@[simp] theorem Dev.send_injRings (d : Dev) (x : Sent) : (d.send x).injRings = d.injRings := rfl
@[simp] theorem Dev.send_inj (d : Dev) (x : Sent) : (d.send x).inj = d.inj := rfl
@[simp] theorem Dev.send_lastRing (d : Dev) (x : Sent) : (d.send x).lastRing = d.lastRing := rfl
@[simp] theorem Dev.send_cmds (d : Dev) (x : Sent) : (d.send x).cmds = d.cmds := rfl
@[simp] theorem Dev.send_ctrs (d : Dev) (x : Sent) : (d.send x).ctrs = d.ctrs := rfl
@[simp] theorem Dev.send_time (d : Dev) (x : Sent) : (d.send x).time = d.time := rfl
@[simp] theorem Dev.send_prot (d : Dev) (x : Sent) : (d.send x).prot = d.prot := rfl
@[simp] theorem Dev.send_cls (d : Dev) (x : Sent) : (d.send x).cls = d.cls := rfl
@[simp] theorem Dev.send_tbl (d : Dev) (x : Sent) : (d.send x).tbl = d.tbl := rfl
@[simp] theorem Dev.send_dtm (d : Dev) (x : Sent) : (d.send x).dtm = d.dtm := rfl
@[simp] theorem Dev.send_ulk (d : Dev) (x : Sent) : (d.send x).ulk = d.ulk := rfl
@[simp] theorem Dev.send_lanes (d : Dev) (x : Sent) : (d.send x).lanes = d.lanes := rfl
@[simp] theorem Dev.send_ddr (d : Dev) (x : Sent) : (d.send x).ddr = d.ddr := rfl
@[simp] theorem Dev.send_tally (d : Dev) (x : Sent) : (d.send x).tally = d.tally := rfl

@[simp] theorem Dev.write_variant (d : Dev) (a : Nat) (bs : Bytes) : (d.write a bs).variant = d.variant := rfl
@[simp] theorem Dev.write_free (d : Dev) (a : Nat) (bs : Bytes) : (d.write a bs).free = d.free := rfl
@[simp] theorem Dev.write_now (d : Dev) (a : Nat) (bs : Bytes) : (d.write a bs).now = d.now := rfl
@[simp] theorem Dev.write_outbox (d : Dev) (a : Nat) (bs : Bytes) : (d.write a bs).outbox = d.outbox := rfl
@[simp] theorem Dev.write_sent (d : Dev) (a : Nat) (bs : Bytes) : (d.write a bs).sent = d.sent := rfl
@[simp] theorem Dev.write_board (d : Dev) (a : Nat) (bs : Bytes) : (d.write a bs).board = d.board := rfl
@[simp] theorem Dev.write_drifts (d : Dev) (a : Nat) (bs : Bytes) : (d.write a bs).drifts = d.drifts := rfl
@[simp] theorem Dev.write_ports (d : Dev) (a : Nat) (bs : Bytes) : (d.write a bs).ports = d.ports := rfl
@[simp] theorem Dev.write_winders (d : Dev) (a : Nat) (bs : Bytes) : (d.write a bs).winders = d.winders := rfl
@[simp] theorem Dev.write_decs (d : Dev) (a : Nat) (bs : Bytes) : (d.write a bs).decs = d.decs := rfl
@[simp] theorem Dev.write_clusters (d : Dev) (a : Nat) (bs : Bytes) : (d.write a bs).clusters = d.clusters := rfl
@[simp] theorem Dev.write_cmdRings (d : Dev) (a : Nat) (bs : Bytes) : (d.write a bs).cmdRings = d.cmdRings := rfl
@[simp] theorem Dev.write_puntRings (d : Dev) (a : Nat) (bs : Bytes) : (d.write a bs).puntRings = d.puntRings := rfl
@[simp] theorem Dev.write_injRings (d : Dev) (a : Nat) (bs : Bytes) : (d.write a bs).injRings = d.injRings := rfl
@[simp] theorem Dev.write_inj (d : Dev) (a : Nat) (bs : Bytes) : (d.write a bs).inj = d.inj := rfl
@[simp] theorem Dev.write_lastRing (d : Dev) (a : Nat) (bs : Bytes) : (d.write a bs).lastRing = d.lastRing := rfl
@[simp] theorem Dev.write_cmds (d : Dev) (a : Nat) (bs : Bytes) : (d.write a bs).cmds = d.cmds := rfl
@[simp] theorem Dev.write_ctrs (d : Dev) (a : Nat) (bs : Bytes) : (d.write a bs).ctrs = d.ctrs := rfl
@[simp] theorem Dev.write_time (d : Dev) (a : Nat) (bs : Bytes) : (d.write a bs).time = d.time := rfl
@[simp] theorem Dev.write_prot (d : Dev) (a : Nat) (bs : Bytes) : (d.write a bs).prot = d.prot := rfl
@[simp] theorem Dev.write_cls (d : Dev) (a : Nat) (bs : Bytes) : (d.write a bs).cls = d.cls := rfl
@[simp] theorem Dev.write_tbl (d : Dev) (a : Nat) (bs : Bytes) : (d.write a bs).tbl = d.tbl := rfl
@[simp] theorem Dev.write_dtm (d : Dev) (a : Nat) (bs : Bytes) : (d.write a bs).dtm = d.dtm := rfl
@[simp] theorem Dev.write_ulk (d : Dev) (a : Nat) (bs : Bytes) : (d.write a bs).ulk = d.ulk := rfl
@[simp] theorem Dev.write_lanes (d : Dev) (a : Nat) (bs : Bytes) : (d.write a bs).lanes = d.lanes := rfl
@[simp] theorem Dev.write_ddr (d : Dev) (a : Nat) (bs : Bytes) : (d.write a bs).ddr = d.ddr := rfl
@[simp] theorem Dev.write_tally (d : Dev) (a : Nat) (bs : Bytes) : (d.write a bs).tally = d.tally := rfl

@[simp] theorem Dev.setCtr_variant (d : Dev) (i : Nat) (c : Ctr) : (d.setCtr i c).variant = d.variant := rfl
@[simp] theorem Dev.setCtr_free (d : Dev) (i : Nat) (c : Ctr) : (d.setCtr i c).free = d.free := rfl
@[simp] theorem Dev.setCtr_now (d : Dev) (i : Nat) (c : Ctr) : (d.setCtr i c).now = d.now := rfl
@[simp] theorem Dev.setCtr_outbox (d : Dev) (i : Nat) (c : Ctr) : (d.setCtr i c).outbox = d.outbox := rfl
@[simp] theorem Dev.setCtr_dma (d : Dev) (i : Nat) (c : Ctr) : (d.setCtr i c).dma = d.dma := rfl
@[simp] theorem Dev.setCtr_sent (d : Dev) (i : Nat) (c : Ctr) : (d.setCtr i c).sent = d.sent := rfl
@[simp] theorem Dev.setCtr_board (d : Dev) (i : Nat) (c : Ctr) : (d.setCtr i c).board = d.board := rfl
@[simp] theorem Dev.setCtr_drifts (d : Dev) (i : Nat) (c : Ctr) : (d.setCtr i c).drifts = d.drifts := rfl
@[simp] theorem Dev.setCtr_ports (d : Dev) (i : Nat) (c : Ctr) : (d.setCtr i c).ports = d.ports := rfl
@[simp] theorem Dev.setCtr_winders (d : Dev) (i : Nat) (c : Ctr) : (d.setCtr i c).winders = d.winders := rfl
@[simp] theorem Dev.setCtr_decs (d : Dev) (i : Nat) (c : Ctr) : (d.setCtr i c).decs = d.decs := rfl
@[simp] theorem Dev.setCtr_clusters (d : Dev) (i : Nat) (c : Ctr) : (d.setCtr i c).clusters = d.clusters := rfl
@[simp] theorem Dev.setCtr_cmdRings (d : Dev) (i : Nat) (c : Ctr) : (d.setCtr i c).cmdRings = d.cmdRings := rfl
@[simp] theorem Dev.setCtr_puntRings (d : Dev) (i : Nat) (c : Ctr) : (d.setCtr i c).puntRings = d.puntRings := rfl
@[simp] theorem Dev.setCtr_injRings (d : Dev) (i : Nat) (c : Ctr) : (d.setCtr i c).injRings = d.injRings := rfl
@[simp] theorem Dev.setCtr_inj (d : Dev) (i : Nat) (c : Ctr) : (d.setCtr i c).inj = d.inj := rfl
@[simp] theorem Dev.setCtr_lastRing (d : Dev) (i : Nat) (c : Ctr) : (d.setCtr i c).lastRing = d.lastRing := rfl
@[simp] theorem Dev.setCtr_cmds (d : Dev) (i : Nat) (c : Ctr) : (d.setCtr i c).cmds = d.cmds := rfl
@[simp] theorem Dev.setCtr_time (d : Dev) (i : Nat) (c : Ctr) : (d.setCtr i c).time = d.time := rfl
@[simp] theorem Dev.setCtr_prot (d : Dev) (i : Nat) (c : Ctr) : (d.setCtr i c).prot = d.prot := rfl
@[simp] theorem Dev.setCtr_cls (d : Dev) (i : Nat) (c : Ctr) : (d.setCtr i c).cls = d.cls := rfl
@[simp] theorem Dev.setCtr_tbl (d : Dev) (i : Nat) (c : Ctr) : (d.setCtr i c).tbl = d.tbl := rfl
@[simp] theorem Dev.setCtr_dtm (d : Dev) (i : Nat) (c : Ctr) : (d.setCtr i c).dtm = d.dtm := rfl
@[simp] theorem Dev.setCtr_ulk (d : Dev) (i : Nat) (c : Ctr) : (d.setCtr i c).ulk = d.ulk := rfl
@[simp] theorem Dev.setCtr_lanes (d : Dev) (i : Nat) (c : Ctr) : (d.setCtr i c).lanes = d.lanes := rfl
@[simp] theorem Dev.setCtr_ddr (d : Dev) (i : Nat) (c : Ctr) : (d.setCtr i c).ddr = d.ddr := rfl
@[simp] theorem Dev.setCtr_tally (d : Dev) (i : Nat) (c : Ctr) : (d.setCtr i c).tally = d.tally := rfl

@[simp] theorem Dev.setWin_variant (d : Dev) (x : Nat) (w : BwWin) : (d.setWin x w).variant = d.variant := rfl
@[simp] theorem Dev.setWin_free (d : Dev) (x : Nat) (w : BwWin) : (d.setWin x w).free = d.free := rfl
@[simp] theorem Dev.setWin_now (d : Dev) (x : Nat) (w : BwWin) : (d.setWin x w).now = d.now := rfl
@[simp] theorem Dev.setWin_outbox (d : Dev) (x : Nat) (w : BwWin) : (d.setWin x w).outbox = d.outbox := rfl
@[simp] theorem Dev.setWin_dma (d : Dev) (x : Nat) (w : BwWin) : (d.setWin x w).dma = d.dma := rfl
@[simp] theorem Dev.setWin_sent (d : Dev) (x : Nat) (w : BwWin) : (d.setWin x w).sent = d.sent := rfl
@[simp] theorem Dev.setWin_board (d : Dev) (x : Nat) (w : BwWin) : (d.setWin x w).board = d.board := rfl
@[simp] theorem Dev.setWin_drifts (d : Dev) (x : Nat) (w : BwWin) : (d.setWin x w).drifts = d.drifts := rfl
@[simp] theorem Dev.setWin_ports (d : Dev) (x : Nat) (w : BwWin) : (d.setWin x w).ports = d.ports := rfl
@[simp] theorem Dev.setWin_winders (d : Dev) (x : Nat) (w : BwWin) : (d.setWin x w).winders = d.winders := rfl
@[simp] theorem Dev.setWin_decs (d : Dev) (x : Nat) (w : BwWin) : (d.setWin x w).decs = d.decs := rfl
@[simp] theorem Dev.setWin_clusters (d : Dev) (x : Nat) (w : BwWin) : (d.setWin x w).clusters = d.clusters := rfl
@[simp] theorem Dev.setWin_cmdRings (d : Dev) (x : Nat) (w : BwWin) : (d.setWin x w).cmdRings = d.cmdRings := rfl
@[simp] theorem Dev.setWin_puntRings (d : Dev) (x : Nat) (w : BwWin) : (d.setWin x w).puntRings = d.puntRings := rfl
@[simp] theorem Dev.setWin_injRings (d : Dev) (x : Nat) (w : BwWin) : (d.setWin x w).injRings = d.injRings := rfl
@[simp] theorem Dev.setWin_inj (d : Dev) (x : Nat) (w : BwWin) : (d.setWin x w).inj = d.inj := rfl
@[simp] theorem Dev.setWin_lastRing (d : Dev) (x : Nat) (w : BwWin) : (d.setWin x w).lastRing = d.lastRing := rfl
@[simp] theorem Dev.setWin_cmds (d : Dev) (x : Nat) (w : BwWin) : (d.setWin x w).cmds = d.cmds := rfl
@[simp] theorem Dev.setWin_ctrs (d : Dev) (x : Nat) (w : BwWin) : (d.setWin x w).ctrs = d.ctrs := rfl
@[simp] theorem Dev.setWin_time (d : Dev) (x : Nat) (w : BwWin) : (d.setWin x w).time = d.time := rfl
@[simp] theorem Dev.setWin_prot (d : Dev) (x : Nat) (w : BwWin) : (d.setWin x w).prot = d.prot := rfl
@[simp] theorem Dev.setWin_cls (d : Dev) (x : Nat) (w : BwWin) : (d.setWin x w).cls = d.cls := rfl
@[simp] theorem Dev.setWin_tbl (d : Dev) (x : Nat) (w : BwWin) : (d.setWin x w).tbl = d.tbl := rfl
@[simp] theorem Dev.setWin_dtm (d : Dev) (x : Nat) (w : BwWin) : (d.setWin x w).dtm = d.dtm := rfl
@[simp] theorem Dev.setWin_ulk (d : Dev) (x : Nat) (w : BwWin) : (d.setWin x w).ulk = d.ulk := rfl
@[simp] theorem Dev.setWin_lanes (d : Dev) (x : Nat) (w : BwWin) : (d.setWin x w).lanes = d.lanes := rfl
@[simp] theorem Dev.setWin_ddr (d : Dev) (x : Nat) (w : BwWin) : (d.setWin x w).ddr = d.ddr := rfl

@[simp] theorem Dev.modSub_variant (d : Dev) (s : Nat) (f : Sub → Sub) : (d.modSub s f).variant = d.variant := rfl
@[simp] theorem Dev.modSub_free (d : Dev) (s : Nat) (f : Sub → Sub) : (d.modSub s f).free = d.free := rfl
@[simp] theorem Dev.modSub_now (d : Dev) (s : Nat) (f : Sub → Sub) : (d.modSub s f).now = d.now := rfl
@[simp] theorem Dev.modSub_outbox (d : Dev) (s : Nat) (f : Sub → Sub) : (d.modSub s f).outbox = d.outbox := rfl
@[simp] theorem Dev.modSub_dma (d : Dev) (s : Nat) (f : Sub → Sub) : (d.modSub s f).dma = d.dma := rfl
@[simp] theorem Dev.modSub_sent (d : Dev) (s : Nat) (f : Sub → Sub) : (d.modSub s f).sent = d.sent := rfl
@[simp] theorem Dev.modSub_board (d : Dev) (s : Nat) (f : Sub → Sub) : (d.modSub s f).board = d.board := rfl
@[simp] theorem Dev.modSub_drifts (d : Dev) (s : Nat) (f : Sub → Sub) : (d.modSub s f).drifts = d.drifts := rfl
@[simp] theorem Dev.modSub_ports (d : Dev) (s : Nat) (f : Sub → Sub) : (d.modSub s f).ports = d.ports := rfl
@[simp] theorem Dev.modSub_winders (d : Dev) (s : Nat) (f : Sub → Sub) : (d.modSub s f).winders = d.winders := rfl
@[simp] theorem Dev.modSub_decs (d : Dev) (s : Nat) (f : Sub → Sub) : (d.modSub s f).decs = d.decs := rfl
@[simp] theorem Dev.modSub_clusters (d : Dev) (s : Nat) (f : Sub → Sub) : (d.modSub s f).clusters = d.clusters := rfl
@[simp] theorem Dev.modSub_cmdRings (d : Dev) (s : Nat) (f : Sub → Sub) : (d.modSub s f).cmdRings = d.cmdRings := rfl
@[simp] theorem Dev.modSub_puntRings (d : Dev) (s : Nat) (f : Sub → Sub) : (d.modSub s f).puntRings = d.puntRings := rfl
@[simp] theorem Dev.modSub_injRings (d : Dev) (s : Nat) (f : Sub → Sub) : (d.modSub s f).injRings = d.injRings := rfl
@[simp] theorem Dev.modSub_inj (d : Dev) (s : Nat) (f : Sub → Sub) : (d.modSub s f).inj = d.inj := rfl
@[simp] theorem Dev.modSub_lastRing (d : Dev) (s : Nat) (f : Sub → Sub) : (d.modSub s f).lastRing = d.lastRing := rfl
@[simp] theorem Dev.modSub_cmds (d : Dev) (s : Nat) (f : Sub → Sub) : (d.modSub s f).cmds = d.cmds := rfl
@[simp] theorem Dev.modSub_ctrs (d : Dev) (s : Nat) (f : Sub → Sub) : (d.modSub s f).ctrs = d.ctrs := rfl
@[simp] theorem Dev.modSub_time (d : Dev) (s : Nat) (f : Sub → Sub) : (d.modSub s f).time = d.time := rfl
@[simp] theorem Dev.modSub_prot (d : Dev) (s : Nat) (f : Sub → Sub) : (d.modSub s f).prot = d.prot := rfl
@[simp] theorem Dev.modSub_cls (d : Dev) (s : Nat) (f : Sub → Sub) : (d.modSub s f).cls = d.cls := rfl
@[simp] theorem Dev.modSub_tbl (d : Dev) (s : Nat) (f : Sub → Sub) : (d.modSub s f).tbl = d.tbl := rfl
@[simp] theorem Dev.modSub_dtm (d : Dev) (s : Nat) (f : Sub → Sub) : (d.modSub s f).dtm = d.dtm := rfl
@[simp] theorem Dev.modSub_ulk (d : Dev) (s : Nat) (f : Sub → Sub) : (d.modSub s f).ulk = d.ulk := rfl
@[simp] theorem Dev.modSub_lanes (d : Dev) (s : Nat) (f : Sub → Sub) : (d.modSub s f).lanes = d.lanes := rfl
@[simp] theorem Dev.modSub_tally (d : Dev) (s : Nat) (f : Sub → Sub) : (d.modSub s f).tally = d.tally := rfl

@[simp] theorem Dev.ask_variant (d : Dev) (op : BankOp) : (d.ask op).variant = d.variant := rfl
@[simp] theorem Dev.ask_free (d : Dev) (op : BankOp) : (d.ask op).free = d.free := rfl
@[simp] theorem Dev.ask_now (d : Dev) (op : BankOp) : (d.ask op).now = d.now := rfl
@[simp] theorem Dev.ask_dma (d : Dev) (op : BankOp) : (d.ask op).dma = d.dma := rfl
@[simp] theorem Dev.ask_sent (d : Dev) (op : BankOp) : (d.ask op).sent = d.sent := rfl
@[simp] theorem Dev.ask_board (d : Dev) (op : BankOp) : (d.ask op).board = d.board := rfl
@[simp] theorem Dev.ask_drifts (d : Dev) (op : BankOp) : (d.ask op).drifts = d.drifts := rfl
@[simp] theorem Dev.ask_ports (d : Dev) (op : BankOp) : (d.ask op).ports = d.ports := rfl
@[simp] theorem Dev.ask_winders (d : Dev) (op : BankOp) : (d.ask op).winders = d.winders := rfl
@[simp] theorem Dev.ask_decs (d : Dev) (op : BankOp) : (d.ask op).decs = d.decs := rfl
@[simp] theorem Dev.ask_clusters (d : Dev) (op : BankOp) : (d.ask op).clusters = d.clusters := rfl
@[simp] theorem Dev.ask_cmdRings (d : Dev) (op : BankOp) : (d.ask op).cmdRings = d.cmdRings := rfl
@[simp] theorem Dev.ask_puntRings (d : Dev) (op : BankOp) : (d.ask op).puntRings = d.puntRings := rfl
@[simp] theorem Dev.ask_injRings (d : Dev) (op : BankOp) : (d.ask op).injRings = d.injRings := rfl
@[simp] theorem Dev.ask_inj (d : Dev) (op : BankOp) : (d.ask op).inj = d.inj := rfl
@[simp] theorem Dev.ask_lastRing (d : Dev) (op : BankOp) : (d.ask op).lastRing = d.lastRing := rfl
@[simp] theorem Dev.ask_cmds (d : Dev) (op : BankOp) : (d.ask op).cmds = d.cmds := rfl
@[simp] theorem Dev.ask_ctrs (d : Dev) (op : BankOp) : (d.ask op).ctrs = d.ctrs := rfl
@[simp] theorem Dev.ask_time (d : Dev) (op : BankOp) : (d.ask op).time = d.time := rfl
@[simp] theorem Dev.ask_prot (d : Dev) (op : BankOp) : (d.ask op).prot = d.prot := rfl
@[simp] theorem Dev.ask_cls (d : Dev) (op : BankOp) : (d.ask op).cls = d.cls := rfl
@[simp] theorem Dev.ask_tbl (d : Dev) (op : BankOp) : (d.ask op).tbl = d.tbl := rfl
@[simp] theorem Dev.ask_dtm (d : Dev) (op : BankOp) : (d.ask op).dtm = d.dtm := rfl
@[simp] theorem Dev.ask_ulk (d : Dev) (op : BankOp) : (d.ask op).ulk = d.ulk := rfl
@[simp] theorem Dev.ask_lanes (d : Dev) (op : BankOp) : (d.ask op).lanes = d.lanes := rfl
@[simp] theorem Dev.ask_ddr (d : Dev) (op : BankOp) : (d.ask op).ddr = d.ddr := rfl
@[simp] theorem Dev.ask_tally (d : Dev) (op : BankOp) : (d.ask op).tally = d.tally := rfl

@[simp] theorem Dev.setAux_variant (d : Dev) (c : Tag) (n : Nat) : (d.setAux c n).variant = d.variant := rfl
@[simp] theorem Dev.setAux_free (d : Dev) (c : Tag) (n : Nat) : (d.setAux c n).free = d.free := rfl
@[simp] theorem Dev.setAux_now (d : Dev) (c : Tag) (n : Nat) : (d.setAux c n).now = d.now := rfl
@[simp] theorem Dev.setAux_outbox (d : Dev) (c : Tag) (n : Nat) : (d.setAux c n).outbox = d.outbox := rfl
@[simp] theorem Dev.setAux_dma (d : Dev) (c : Tag) (n : Nat) : (d.setAux c n).dma = d.dma := rfl
@[simp] theorem Dev.setAux_sent (d : Dev) (c : Tag) (n : Nat) : (d.setAux c n).sent = d.sent := rfl
@[simp] theorem Dev.setAux_board (d : Dev) (c : Tag) (n : Nat) : (d.setAux c n).board = d.board := rfl
@[simp] theorem Dev.setAux_drifts (d : Dev) (c : Tag) (n : Nat) : (d.setAux c n).drifts = d.drifts := rfl
@[simp] theorem Dev.setAux_ports (d : Dev) (c : Tag) (n : Nat) : (d.setAux c n).ports = d.ports := rfl
@[simp] theorem Dev.setAux_winders (d : Dev) (c : Tag) (n : Nat) : (d.setAux c n).winders = d.winders := rfl
@[simp] theorem Dev.setAux_decs (d : Dev) (c : Tag) (n : Nat) : (d.setAux c n).decs = d.decs := rfl
@[simp] theorem Dev.setAux_clusters (d : Dev) (c : Tag) (n : Nat) : (d.setAux c n).clusters = d.clusters := rfl
@[simp] theorem Dev.setAux_cmdRings (d : Dev) (c : Tag) (n : Nat) : (d.setAux c n).cmdRings = d.cmdRings := rfl
@[simp] theorem Dev.setAux_puntRings (d : Dev) (c : Tag) (n : Nat) : (d.setAux c n).puntRings = d.puntRings := rfl
@[simp] theorem Dev.setAux_injRings (d : Dev) (c : Tag) (n : Nat) : (d.setAux c n).injRings = d.injRings := rfl
@[simp] theorem Dev.setAux_inj (d : Dev) (c : Tag) (n : Nat) : (d.setAux c n).inj = d.inj := rfl
@[simp] theorem Dev.setAux_lastRing (d : Dev) (c : Tag) (n : Nat) : (d.setAux c n).lastRing = d.lastRing := rfl
@[simp] theorem Dev.setAux_ctrs (d : Dev) (c : Tag) (n : Nat) : (d.setAux c n).ctrs = d.ctrs := rfl
@[simp] theorem Dev.setAux_time (d : Dev) (c : Tag) (n : Nat) : (d.setAux c n).time = d.time := rfl
@[simp] theorem Dev.setAux_prot (d : Dev) (c : Tag) (n : Nat) : (d.setAux c n).prot = d.prot := rfl
@[simp] theorem Dev.setAux_cls (d : Dev) (c : Tag) (n : Nat) : (d.setAux c n).cls = d.cls := rfl
@[simp] theorem Dev.setAux_tbl (d : Dev) (c : Tag) (n : Nat) : (d.setAux c n).tbl = d.tbl := rfl
@[simp] theorem Dev.setAux_dtm (d : Dev) (c : Tag) (n : Nat) : (d.setAux c n).dtm = d.dtm := rfl
@[simp] theorem Dev.setAux_ulk (d : Dev) (c : Tag) (n : Nat) : (d.setAux c n).ulk = d.ulk := rfl
@[simp] theorem Dev.setAux_lanes (d : Dev) (c : Tag) (n : Nat) : (d.setAux c n).lanes = d.lanes := rfl
@[simp] theorem Dev.setAux_ddr (d : Dev) (c : Tag) (n : Nat) : (d.setAux c n).ddr = d.ddr := rfl
@[simp] theorem Dev.setAux_tally (d : Dev) (c : Tag) (n : Nat) : (d.setAux c n).tally = d.tally := rfl

@[simp] theorem Dev.accept_variant (d : Dev) (i : Instr) (c : Tag) (obj : Word) (o : Nat) (ph : Phase) : (d.accept i c obj o ph).variant = d.variant := rfl
@[simp] theorem Dev.accept_free (d : Dev) (i : Instr) (c : Tag) (obj : Word) (o : Nat) (ph : Phase) : (d.accept i c obj o ph).free = d.free := rfl
@[simp] theorem Dev.accept_now (d : Dev) (i : Instr) (c : Tag) (obj : Word) (o : Nat) (ph : Phase) : (d.accept i c obj o ph).now = d.now := rfl
@[simp] theorem Dev.accept_outbox (d : Dev) (i : Instr) (c : Tag) (obj : Word) (o : Nat) (ph : Phase) : (d.accept i c obj o ph).outbox = d.outbox := rfl
@[simp] theorem Dev.accept_dma (d : Dev) (i : Instr) (c : Tag) (obj : Word) (o : Nat) (ph : Phase) : (d.accept i c obj o ph).dma = d.dma := rfl
@[simp] theorem Dev.accept_sent (d : Dev) (i : Instr) (c : Tag) (obj : Word) (o : Nat) (ph : Phase) : (d.accept i c obj o ph).sent = d.sent := rfl
@[simp] theorem Dev.accept_board (d : Dev) (i : Instr) (c : Tag) (obj : Word) (o : Nat) (ph : Phase) : (d.accept i c obj o ph).board = d.board := rfl
@[simp] theorem Dev.accept_drifts (d : Dev) (i : Instr) (c : Tag) (obj : Word) (o : Nat) (ph : Phase) : (d.accept i c obj o ph).drifts = d.drifts := rfl
@[simp] theorem Dev.accept_ports (d : Dev) (i : Instr) (c : Tag) (obj : Word) (o : Nat) (ph : Phase) : (d.accept i c obj o ph).ports = d.ports := rfl
@[simp] theorem Dev.accept_winders (d : Dev) (i : Instr) (c : Tag) (obj : Word) (o : Nat) (ph : Phase) : (d.accept i c obj o ph).winders = d.winders := rfl
@[simp] theorem Dev.accept_decs (d : Dev) (i : Instr) (c : Tag) (obj : Word) (o : Nat) (ph : Phase) : (d.accept i c obj o ph).decs = d.decs := rfl
@[simp] theorem Dev.accept_clusters (d : Dev) (i : Instr) (c : Tag) (obj : Word) (o : Nat) (ph : Phase) : (d.accept i c obj o ph).clusters = d.clusters := rfl
@[simp] theorem Dev.accept_cmdRings (d : Dev) (i : Instr) (c : Tag) (obj : Word) (o : Nat) (ph : Phase) : (d.accept i c obj o ph).cmdRings = d.cmdRings := rfl
@[simp] theorem Dev.accept_puntRings (d : Dev) (i : Instr) (c : Tag) (obj : Word) (o : Nat) (ph : Phase) : (d.accept i c obj o ph).puntRings = d.puntRings := rfl
@[simp] theorem Dev.accept_injRings (d : Dev) (i : Instr) (c : Tag) (obj : Word) (o : Nat) (ph : Phase) : (d.accept i c obj o ph).injRings = d.injRings := rfl
@[simp] theorem Dev.accept_inj (d : Dev) (i : Instr) (c : Tag) (obj : Word) (o : Nat) (ph : Phase) : (d.accept i c obj o ph).inj = d.inj := rfl
@[simp] theorem Dev.accept_lastRing (d : Dev) (i : Instr) (c : Tag) (obj : Word) (o : Nat) (ph : Phase) : (d.accept i c obj o ph).lastRing = d.lastRing := rfl
@[simp] theorem Dev.accept_ctrs (d : Dev) (i : Instr) (c : Tag) (obj : Word) (o : Nat) (ph : Phase) : (d.accept i c obj o ph).ctrs = d.ctrs := rfl
@[simp] theorem Dev.accept_time (d : Dev) (i : Instr) (c : Tag) (obj : Word) (o : Nat) (ph : Phase) : (d.accept i c obj o ph).time = d.time := rfl
@[simp] theorem Dev.accept_prot (d : Dev) (i : Instr) (c : Tag) (obj : Word) (o : Nat) (ph : Phase) : (d.accept i c obj o ph).prot = d.prot := rfl
@[simp] theorem Dev.accept_cls (d : Dev) (i : Instr) (c : Tag) (obj : Word) (o : Nat) (ph : Phase) : (d.accept i c obj o ph).cls = d.cls := rfl
@[simp] theorem Dev.accept_tbl (d : Dev) (i : Instr) (c : Tag) (obj : Word) (o : Nat) (ph : Phase) : (d.accept i c obj o ph).tbl = d.tbl := rfl
@[simp] theorem Dev.accept_dtm (d : Dev) (i : Instr) (c : Tag) (obj : Word) (o : Nat) (ph : Phase) : (d.accept i c obj o ph).dtm = d.dtm := rfl
@[simp] theorem Dev.accept_ulk (d : Dev) (i : Instr) (c : Tag) (obj : Word) (o : Nat) (ph : Phase) : (d.accept i c obj o ph).ulk = d.ulk := rfl
@[simp] theorem Dev.accept_lanes (d : Dev) (i : Instr) (c : Tag) (obj : Word) (o : Nat) (ph : Phase) : (d.accept i c obj o ph).lanes = d.lanes := rfl
@[simp] theorem Dev.accept_ddr (d : Dev) (i : Instr) (c : Tag) (obj : Word) (o : Nat) (ph : Phase) : (d.accept i c obj o ph).ddr = d.ddr := rfl
@[simp] theorem Dev.accept_tally (d : Dev) (i : Instr) (c : Tag) (obj : Word) (o : Nat) (ph : Phase) : (d.accept i c obj o ph).tally = d.tally := rfl

/-! ### What a unit reads as after an update of its bank -/

theorem Dev.setPort_get (d : Dev) (p : Nat) (q : Port) (j : Nat) : (d.setPort p q).port j = if j = p then q else d.port j := sget_sset _ _ _ _ _
theorem Dev.modPort_get (d : Dev) (p : Nat) (f : Port → Port) (j : Nat) : (d.modPort p f).port j = if j = p then f (d.port p) else d.port j := sget_sset _ _ _ _ _
theorem Dev.setWinder_get (d : Dev) (w : Nat) (x : Winder) (j : Nat) : (d.setWinder w x).winder j = if j = w then x else d.winder j := sget_sset _ _ _ _ _
theorem Dev.modWinder_get (d : Dev) (w : Nat) (f : Winder → Winder) (j : Nat) : (d.modWinder w f).winder j = if j = w then f (d.winder w) else d.winder j := sget_sset _ _ _ _ _
theorem Dev.modDec_get (d : Dev) (n : Nat) (f : Decoder → Decoder) (j : Nat) : (d.modDec n f).dec j = if j = n then f (d.dec n) else d.dec j := sget_sset _ _ _ _ _
theorem Dev.modCluster_get (d : Dev) (c : Nat) (f : Cluster → Cluster) (j : Nat) : (d.modCluster c f).cluster j = if j = c then f (d.cluster c) else d.cluster j := sget_sset _ _ _ _ _
theorem Dev.modDrift_get (d : Dev) (x : Nat) (f : Drift → Drift) (j : Nat) : (d.modDrift x f).drift j = if j = x then f (d.drift x) else d.drift j := sget_sset _ _ _ _ _
theorem Dev.modTree_get (d : Dev) (p : Nat) (f : TreeProt → TreeProt) (j : Nat) : (d.modTree p f).tree j = if j = p then f (d.tree p) else d.tree j := sget_sset _ _ _ _ _
theorem Dev.modCmdRing_get (d : Dev) (r : Nat) (f : CmdRing → CmdRing) (j : Nat) : (d.modCmdRing r f).cmdRing j = if j = r then f (d.cmdRing r) else d.cmdRing j := sget_sset _ _ _ _ _
theorem Dev.modPunt_get (d : Dev) (r : Nat) (f : PktRing → PktRing) (j : Nat) : (d.modPunt r f).punt j = if j = r then f (d.punt r) else d.punt j := sget_sset _ _ _ _ _
theorem Dev.modInj_get (d : Dev) (r : Nat) (f : PktRing → PktRing) (j : Nat) : (d.modInj r f).injRing j = if j = r then f (d.injRing r) else d.injRing j := sget_sset _ _ _ _ _
theorem Dev.setCtr_get (d : Dev) (i : Nat) (c : Ctr) (j : Nat) : (d.setCtr i c).ctr j = if j = i then c else d.ctr j := sget_sset _ _ _ _ _
theorem Dev.setWin_get (d : Dev) (x : Nat) (w : BwWin) (j : Nat) : (d.setWin x w).win j = if j = x then w else d.win j := sget_sset _ _ _ _ _
theorem Dev.modSub_get (d : Dev) (s : Nat) (f : Sub → Sub) (j : Nat) : (d.modSub s f).sub j = if j = s then f (d.sub s) else d.sub j := sget_sset _ _ _ _ _

/-! ### A unit is read from its own bank alone -/

theorem Dev.port_of_eq (d e : Dev) (p : Nat) (h : d.ports = e.ports) : d.port p = e.port p := by simp [Dev.port, h]
theorem Dev.winder_of_eq (d e : Dev) (w : Nat) (h : d.winders = e.winders) : d.winder w = e.winder w := by simp [Dev.winder, h]
theorem Dev.dec_of_eq (d e : Dev) (n : Nat) (h : d.decs = e.decs) : d.dec n = e.dec n := by simp [Dev.dec, h]
theorem Dev.cluster_of_eq (d e : Dev) (c : Nat) (h : d.clusters = e.clusters) : d.cluster c = e.cluster c := by simp [Dev.cluster, h]
theorem Dev.drift_of_eq (d e : Dev) (x : Nat) (h : d.drifts = e.drifts) : d.drift x = e.drift x := by simp [Dev.drift, h]
theorem Dev.tree_of_eq (d e : Dev) (p : Nat) (h : d.prot = e.prot) : d.tree p = e.tree p := by simp [Dev.tree, h]
theorem Dev.cmdRing_of_eq (d e : Dev) (r : Nat) (h : d.cmdRings = e.cmdRings) : d.cmdRing r = e.cmdRing r := by simp [Dev.cmdRing, h]
theorem Dev.punt_of_eq (d e : Dev) (r : Nat) (h : d.puntRings = e.puntRings) : d.punt r = e.punt r := by simp [Dev.punt, h]
theorem Dev.injRing_of_eq (d e : Dev) (r : Nat) (h : d.injRings = e.injRings) : d.injRing r = e.injRing r := by simp [Dev.injRing, h]
theorem Dev.ctr_of_eq (d e : Dev) (i : Nat) (h : d.ctrs = e.ctrs) : d.ctr i = e.ctr i := by simp [Dev.ctr, h]
theorem Dev.win_of_eq (d e : Dev) (x : Nat) (h : d.tally = e.tally) : d.win x = e.win x := by simp [Dev.win, h]
theorem Dev.sub_of_eq (d e : Dev) (n : Nat) (h : d.ddr = e.ddr) : d.sub n = e.sub n := by simp [Dev.sub, h]

/-! ### An update of one bank leaves the units of every other -/

@[simp] theorem Dev.setPort_winder_at (d : Dev) (p : Nat) (q : Port) (j : Nat) : (d.setPort p q).winder j = d.winder j := rfl
@[simp] theorem Dev.setPort_dec_at (d : Dev) (p : Nat) (q : Port) (j : Nat) : (d.setPort p q).dec j = d.dec j := rfl
@[simp] theorem Dev.setPort_cluster_at (d : Dev) (p : Nat) (q : Port) (j : Nat) : (d.setPort p q).cluster j = d.cluster j := rfl
@[simp] theorem Dev.setPort_drift_at (d : Dev) (p : Nat) (q : Port) (j : Nat) : (d.setPort p q).drift j = d.drift j := rfl
@[simp] theorem Dev.setPort_tree_at (d : Dev) (p : Nat) (q : Port) (j : Nat) : (d.setPort p q).tree j = d.tree j := rfl
@[simp] theorem Dev.setPort_cmdRing_at (d : Dev) (p : Nat) (q : Port) (j : Nat) : (d.setPort p q).cmdRing j = d.cmdRing j := rfl
@[simp] theorem Dev.setPort_punt_at (d : Dev) (p : Nat) (q : Port) (j : Nat) : (d.setPort p q).punt j = d.punt j := rfl
@[simp] theorem Dev.setPort_injRing_at (d : Dev) (p : Nat) (q : Port) (j : Nat) : (d.setPort p q).injRing j = d.injRing j := rfl
@[simp] theorem Dev.setPort_ctr_at (d : Dev) (p : Nat) (q : Port) (j : Nat) : (d.setPort p q).ctr j = d.ctr j := rfl
@[simp] theorem Dev.setPort_win_at (d : Dev) (p : Nat) (q : Port) (j : Nat) : (d.setPort p q).win j = d.win j := rfl
@[simp] theorem Dev.setPort_sub_at (d : Dev) (p : Nat) (q : Port) (j : Nat) : (d.setPort p q).sub j = d.sub j := rfl
@[simp] theorem Dev.modPort_winder_at (d : Dev) (p : Nat) (f : Port → Port) (j : Nat) : (d.modPort p f).winder j = d.winder j := rfl
@[simp] theorem Dev.modPort_dec_at (d : Dev) (p : Nat) (f : Port → Port) (j : Nat) : (d.modPort p f).dec j = d.dec j := rfl
@[simp] theorem Dev.modPort_cluster_at (d : Dev) (p : Nat) (f : Port → Port) (j : Nat) : (d.modPort p f).cluster j = d.cluster j := rfl
@[simp] theorem Dev.modPort_drift_at (d : Dev) (p : Nat) (f : Port → Port) (j : Nat) : (d.modPort p f).drift j = d.drift j := rfl
@[simp] theorem Dev.modPort_tree_at (d : Dev) (p : Nat) (f : Port → Port) (j : Nat) : (d.modPort p f).tree j = d.tree j := rfl
@[simp] theorem Dev.modPort_cmdRing_at (d : Dev) (p : Nat) (f : Port → Port) (j : Nat) : (d.modPort p f).cmdRing j = d.cmdRing j := rfl
@[simp] theorem Dev.modPort_punt_at (d : Dev) (p : Nat) (f : Port → Port) (j : Nat) : (d.modPort p f).punt j = d.punt j := rfl
@[simp] theorem Dev.modPort_injRing_at (d : Dev) (p : Nat) (f : Port → Port) (j : Nat) : (d.modPort p f).injRing j = d.injRing j := rfl
@[simp] theorem Dev.modPort_ctr_at (d : Dev) (p : Nat) (f : Port → Port) (j : Nat) : (d.modPort p f).ctr j = d.ctr j := rfl
@[simp] theorem Dev.modPort_win_at (d : Dev) (p : Nat) (f : Port → Port) (j : Nat) : (d.modPort p f).win j = d.win j := rfl
@[simp] theorem Dev.modPort_sub_at (d : Dev) (p : Nat) (f : Port → Port) (j : Nat) : (d.modPort p f).sub j = d.sub j := rfl
@[simp] theorem Dev.setWinder_port_at (d : Dev) (w : Nat) (x : Winder) (j : Nat) : (d.setWinder w x).port j = d.port j := rfl
@[simp] theorem Dev.setWinder_dec_at (d : Dev) (w : Nat) (x : Winder) (j : Nat) : (d.setWinder w x).dec j = d.dec j := rfl
@[simp] theorem Dev.setWinder_cluster_at (d : Dev) (w : Nat) (x : Winder) (j : Nat) : (d.setWinder w x).cluster j = d.cluster j := rfl
@[simp] theorem Dev.setWinder_drift_at (d : Dev) (w : Nat) (x : Winder) (j : Nat) : (d.setWinder w x).drift j = d.drift j := rfl
@[simp] theorem Dev.setWinder_tree_at (d : Dev) (w : Nat) (x : Winder) (j : Nat) : (d.setWinder w x).tree j = d.tree j := rfl
@[simp] theorem Dev.setWinder_cmdRing_at (d : Dev) (w : Nat) (x : Winder) (j : Nat) : (d.setWinder w x).cmdRing j = d.cmdRing j := rfl
@[simp] theorem Dev.setWinder_punt_at (d : Dev) (w : Nat) (x : Winder) (j : Nat) : (d.setWinder w x).punt j = d.punt j := rfl
@[simp] theorem Dev.setWinder_injRing_at (d : Dev) (w : Nat) (x : Winder) (j : Nat) : (d.setWinder w x).injRing j = d.injRing j := rfl
@[simp] theorem Dev.setWinder_ctr_at (d : Dev) (w : Nat) (x : Winder) (j : Nat) : (d.setWinder w x).ctr j = d.ctr j := rfl
@[simp] theorem Dev.setWinder_win_at (d : Dev) (w : Nat) (x : Winder) (j : Nat) : (d.setWinder w x).win j = d.win j := rfl
@[simp] theorem Dev.setWinder_sub_at (d : Dev) (w : Nat) (x : Winder) (j : Nat) : (d.setWinder w x).sub j = d.sub j := rfl
@[simp] theorem Dev.modWinder_port_at (d : Dev) (w : Nat) (f : Winder → Winder) (j : Nat) : (d.modWinder w f).port j = d.port j := rfl
@[simp] theorem Dev.modWinder_dec_at (d : Dev) (w : Nat) (f : Winder → Winder) (j : Nat) : (d.modWinder w f).dec j = d.dec j := rfl
@[simp] theorem Dev.modWinder_cluster_at (d : Dev) (w : Nat) (f : Winder → Winder) (j : Nat) : (d.modWinder w f).cluster j = d.cluster j := rfl
@[simp] theorem Dev.modWinder_drift_at (d : Dev) (w : Nat) (f : Winder → Winder) (j : Nat) : (d.modWinder w f).drift j = d.drift j := rfl
@[simp] theorem Dev.modWinder_tree_at (d : Dev) (w : Nat) (f : Winder → Winder) (j : Nat) : (d.modWinder w f).tree j = d.tree j := rfl
@[simp] theorem Dev.modWinder_cmdRing_at (d : Dev) (w : Nat) (f : Winder → Winder) (j : Nat) : (d.modWinder w f).cmdRing j = d.cmdRing j := rfl
@[simp] theorem Dev.modWinder_punt_at (d : Dev) (w : Nat) (f : Winder → Winder) (j : Nat) : (d.modWinder w f).punt j = d.punt j := rfl
@[simp] theorem Dev.modWinder_injRing_at (d : Dev) (w : Nat) (f : Winder → Winder) (j : Nat) : (d.modWinder w f).injRing j = d.injRing j := rfl
@[simp] theorem Dev.modWinder_ctr_at (d : Dev) (w : Nat) (f : Winder → Winder) (j : Nat) : (d.modWinder w f).ctr j = d.ctr j := rfl
@[simp] theorem Dev.modWinder_win_at (d : Dev) (w : Nat) (f : Winder → Winder) (j : Nat) : (d.modWinder w f).win j = d.win j := rfl
@[simp] theorem Dev.modWinder_sub_at (d : Dev) (w : Nat) (f : Winder → Winder) (j : Nat) : (d.modWinder w f).sub j = d.sub j := rfl
@[simp] theorem Dev.modDec_port_at (d : Dev) (n : Nat) (f : Decoder → Decoder) (j : Nat) : (d.modDec n f).port j = d.port j := rfl
@[simp] theorem Dev.modDec_winder_at (d : Dev) (n : Nat) (f : Decoder → Decoder) (j : Nat) : (d.modDec n f).winder j = d.winder j := rfl
@[simp] theorem Dev.modDec_cluster_at (d : Dev) (n : Nat) (f : Decoder → Decoder) (j : Nat) : (d.modDec n f).cluster j = d.cluster j := rfl
@[simp] theorem Dev.modDec_drift_at (d : Dev) (n : Nat) (f : Decoder → Decoder) (j : Nat) : (d.modDec n f).drift j = d.drift j := rfl
@[simp] theorem Dev.modDec_tree_at (d : Dev) (n : Nat) (f : Decoder → Decoder) (j : Nat) : (d.modDec n f).tree j = d.tree j := rfl
@[simp] theorem Dev.modDec_cmdRing_at (d : Dev) (n : Nat) (f : Decoder → Decoder) (j : Nat) : (d.modDec n f).cmdRing j = d.cmdRing j := rfl
@[simp] theorem Dev.modDec_punt_at (d : Dev) (n : Nat) (f : Decoder → Decoder) (j : Nat) : (d.modDec n f).punt j = d.punt j := rfl
@[simp] theorem Dev.modDec_injRing_at (d : Dev) (n : Nat) (f : Decoder → Decoder) (j : Nat) : (d.modDec n f).injRing j = d.injRing j := rfl
@[simp] theorem Dev.modDec_ctr_at (d : Dev) (n : Nat) (f : Decoder → Decoder) (j : Nat) : (d.modDec n f).ctr j = d.ctr j := rfl
@[simp] theorem Dev.modDec_win_at (d : Dev) (n : Nat) (f : Decoder → Decoder) (j : Nat) : (d.modDec n f).win j = d.win j := rfl
@[simp] theorem Dev.modDec_sub_at (d : Dev) (n : Nat) (f : Decoder → Decoder) (j : Nat) : (d.modDec n f).sub j = d.sub j := rfl
@[simp] theorem Dev.modCluster_port_at (d : Dev) (c : Nat) (f : Cluster → Cluster) (j : Nat) : (d.modCluster c f).port j = d.port j := rfl
@[simp] theorem Dev.modCluster_winder_at (d : Dev) (c : Nat) (f : Cluster → Cluster) (j : Nat) : (d.modCluster c f).winder j = d.winder j := rfl
@[simp] theorem Dev.modCluster_dec_at (d : Dev) (c : Nat) (f : Cluster → Cluster) (j : Nat) : (d.modCluster c f).dec j = d.dec j := rfl
@[simp] theorem Dev.modCluster_drift_at (d : Dev) (c : Nat) (f : Cluster → Cluster) (j : Nat) : (d.modCluster c f).drift j = d.drift j := rfl
@[simp] theorem Dev.modCluster_tree_at (d : Dev) (c : Nat) (f : Cluster → Cluster) (j : Nat) : (d.modCluster c f).tree j = d.tree j := rfl
@[simp] theorem Dev.modCluster_cmdRing_at (d : Dev) (c : Nat) (f : Cluster → Cluster) (j : Nat) : (d.modCluster c f).cmdRing j = d.cmdRing j := rfl
@[simp] theorem Dev.modCluster_punt_at (d : Dev) (c : Nat) (f : Cluster → Cluster) (j : Nat) : (d.modCluster c f).punt j = d.punt j := rfl
@[simp] theorem Dev.modCluster_injRing_at (d : Dev) (c : Nat) (f : Cluster → Cluster) (j : Nat) : (d.modCluster c f).injRing j = d.injRing j := rfl
@[simp] theorem Dev.modCluster_ctr_at (d : Dev) (c : Nat) (f : Cluster → Cluster) (j : Nat) : (d.modCluster c f).ctr j = d.ctr j := rfl
@[simp] theorem Dev.modCluster_win_at (d : Dev) (c : Nat) (f : Cluster → Cluster) (j : Nat) : (d.modCluster c f).win j = d.win j := rfl
@[simp] theorem Dev.modCluster_sub_at (d : Dev) (c : Nat) (f : Cluster → Cluster) (j : Nat) : (d.modCluster c f).sub j = d.sub j := rfl
@[simp] theorem Dev.modDrift_port_at (d : Dev) (x : Nat) (f : Drift → Drift) (j : Nat) : (d.modDrift x f).port j = d.port j := rfl
@[simp] theorem Dev.modDrift_winder_at (d : Dev) (x : Nat) (f : Drift → Drift) (j : Nat) : (d.modDrift x f).winder j = d.winder j := rfl
@[simp] theorem Dev.modDrift_dec_at (d : Dev) (x : Nat) (f : Drift → Drift) (j : Nat) : (d.modDrift x f).dec j = d.dec j := rfl
@[simp] theorem Dev.modDrift_cluster_at (d : Dev) (x : Nat) (f : Drift → Drift) (j : Nat) : (d.modDrift x f).cluster j = d.cluster j := rfl
@[simp] theorem Dev.modDrift_tree_at (d : Dev) (x : Nat) (f : Drift → Drift) (j : Nat) : (d.modDrift x f).tree j = d.tree j := rfl
@[simp] theorem Dev.modDrift_cmdRing_at (d : Dev) (x : Nat) (f : Drift → Drift) (j : Nat) : (d.modDrift x f).cmdRing j = d.cmdRing j := rfl
@[simp] theorem Dev.modDrift_punt_at (d : Dev) (x : Nat) (f : Drift → Drift) (j : Nat) : (d.modDrift x f).punt j = d.punt j := rfl
@[simp] theorem Dev.modDrift_injRing_at (d : Dev) (x : Nat) (f : Drift → Drift) (j : Nat) : (d.modDrift x f).injRing j = d.injRing j := rfl
@[simp] theorem Dev.modDrift_ctr_at (d : Dev) (x : Nat) (f : Drift → Drift) (j : Nat) : (d.modDrift x f).ctr j = d.ctr j := rfl
@[simp] theorem Dev.modDrift_win_at (d : Dev) (x : Nat) (f : Drift → Drift) (j : Nat) : (d.modDrift x f).win j = d.win j := rfl
@[simp] theorem Dev.modDrift_sub_at (d : Dev) (x : Nat) (f : Drift → Drift) (j : Nat) : (d.modDrift x f).sub j = d.sub j := rfl
@[simp] theorem Dev.modTree_port_at (d : Dev) (p : Nat) (f : TreeProt → TreeProt) (j : Nat) : (d.modTree p f).port j = d.port j := rfl
@[simp] theorem Dev.modTree_winder_at (d : Dev) (p : Nat) (f : TreeProt → TreeProt) (j : Nat) : (d.modTree p f).winder j = d.winder j := rfl
@[simp] theorem Dev.modTree_dec_at (d : Dev) (p : Nat) (f : TreeProt → TreeProt) (j : Nat) : (d.modTree p f).dec j = d.dec j := rfl
@[simp] theorem Dev.modTree_cluster_at (d : Dev) (p : Nat) (f : TreeProt → TreeProt) (j : Nat) : (d.modTree p f).cluster j = d.cluster j := rfl
@[simp] theorem Dev.modTree_drift_at (d : Dev) (p : Nat) (f : TreeProt → TreeProt) (j : Nat) : (d.modTree p f).drift j = d.drift j := rfl
@[simp] theorem Dev.modTree_cmdRing_at (d : Dev) (p : Nat) (f : TreeProt → TreeProt) (j : Nat) : (d.modTree p f).cmdRing j = d.cmdRing j := rfl
@[simp] theorem Dev.modTree_punt_at (d : Dev) (p : Nat) (f : TreeProt → TreeProt) (j : Nat) : (d.modTree p f).punt j = d.punt j := rfl
@[simp] theorem Dev.modTree_injRing_at (d : Dev) (p : Nat) (f : TreeProt → TreeProt) (j : Nat) : (d.modTree p f).injRing j = d.injRing j := rfl
@[simp] theorem Dev.modTree_ctr_at (d : Dev) (p : Nat) (f : TreeProt → TreeProt) (j : Nat) : (d.modTree p f).ctr j = d.ctr j := rfl
@[simp] theorem Dev.modTree_win_at (d : Dev) (p : Nat) (f : TreeProt → TreeProt) (j : Nat) : (d.modTree p f).win j = d.win j := rfl
@[simp] theorem Dev.modTree_sub_at (d : Dev) (p : Nat) (f : TreeProt → TreeProt) (j : Nat) : (d.modTree p f).sub j = d.sub j := rfl
@[simp] theorem Dev.modProt_port_at (d : Dev) (f : Prot → Prot) (j : Nat) : (d.modProt f).port j = d.port j := rfl
@[simp] theorem Dev.modProt_winder_at (d : Dev) (f : Prot → Prot) (j : Nat) : (d.modProt f).winder j = d.winder j := rfl
@[simp] theorem Dev.modProt_dec_at (d : Dev) (f : Prot → Prot) (j : Nat) : (d.modProt f).dec j = d.dec j := rfl
@[simp] theorem Dev.modProt_cluster_at (d : Dev) (f : Prot → Prot) (j : Nat) : (d.modProt f).cluster j = d.cluster j := rfl
@[simp] theorem Dev.modProt_drift_at (d : Dev) (f : Prot → Prot) (j : Nat) : (d.modProt f).drift j = d.drift j := rfl
@[simp] theorem Dev.modProt_cmdRing_at (d : Dev) (f : Prot → Prot) (j : Nat) : (d.modProt f).cmdRing j = d.cmdRing j := rfl
@[simp] theorem Dev.modProt_punt_at (d : Dev) (f : Prot → Prot) (j : Nat) : (d.modProt f).punt j = d.punt j := rfl
@[simp] theorem Dev.modProt_injRing_at (d : Dev) (f : Prot → Prot) (j : Nat) : (d.modProt f).injRing j = d.injRing j := rfl
@[simp] theorem Dev.modProt_ctr_at (d : Dev) (f : Prot → Prot) (j : Nat) : (d.modProt f).ctr j = d.ctr j := rfl
@[simp] theorem Dev.modProt_win_at (d : Dev) (f : Prot → Prot) (j : Nat) : (d.modProt f).win j = d.win j := rfl
@[simp] theorem Dev.modProt_sub_at (d : Dev) (f : Prot → Prot) (j : Nat) : (d.modProt f).sub j = d.sub j := rfl
@[simp] theorem Dev.modCmdRing_port_at (d : Dev) (r : Nat) (f : CmdRing → CmdRing) (j : Nat) : (d.modCmdRing r f).port j = d.port j := rfl
@[simp] theorem Dev.modCmdRing_winder_at (d : Dev) (r : Nat) (f : CmdRing → CmdRing) (j : Nat) : (d.modCmdRing r f).winder j = d.winder j := rfl
@[simp] theorem Dev.modCmdRing_dec_at (d : Dev) (r : Nat) (f : CmdRing → CmdRing) (j : Nat) : (d.modCmdRing r f).dec j = d.dec j := rfl
@[simp] theorem Dev.modCmdRing_cluster_at (d : Dev) (r : Nat) (f : CmdRing → CmdRing) (j : Nat) : (d.modCmdRing r f).cluster j = d.cluster j := rfl
@[simp] theorem Dev.modCmdRing_drift_at (d : Dev) (r : Nat) (f : CmdRing → CmdRing) (j : Nat) : (d.modCmdRing r f).drift j = d.drift j := rfl
@[simp] theorem Dev.modCmdRing_tree_at (d : Dev) (r : Nat) (f : CmdRing → CmdRing) (j : Nat) : (d.modCmdRing r f).tree j = d.tree j := rfl
@[simp] theorem Dev.modCmdRing_punt_at (d : Dev) (r : Nat) (f : CmdRing → CmdRing) (j : Nat) : (d.modCmdRing r f).punt j = d.punt j := rfl
@[simp] theorem Dev.modCmdRing_injRing_at (d : Dev) (r : Nat) (f : CmdRing → CmdRing) (j : Nat) : (d.modCmdRing r f).injRing j = d.injRing j := rfl
@[simp] theorem Dev.modCmdRing_ctr_at (d : Dev) (r : Nat) (f : CmdRing → CmdRing) (j : Nat) : (d.modCmdRing r f).ctr j = d.ctr j := rfl
@[simp] theorem Dev.modCmdRing_win_at (d : Dev) (r : Nat) (f : CmdRing → CmdRing) (j : Nat) : (d.modCmdRing r f).win j = d.win j := rfl
@[simp] theorem Dev.modCmdRing_sub_at (d : Dev) (r : Nat) (f : CmdRing → CmdRing) (j : Nat) : (d.modCmdRing r f).sub j = d.sub j := rfl
@[simp] theorem Dev.modPunt_port_at (d : Dev) (r : Nat) (f : PktRing → PktRing) (j : Nat) : (d.modPunt r f).port j = d.port j := rfl
@[simp] theorem Dev.modPunt_winder_at (d : Dev) (r : Nat) (f : PktRing → PktRing) (j : Nat) : (d.modPunt r f).winder j = d.winder j := rfl
@[simp] theorem Dev.modPunt_dec_at (d : Dev) (r : Nat) (f : PktRing → PktRing) (j : Nat) : (d.modPunt r f).dec j = d.dec j := rfl
@[simp] theorem Dev.modPunt_cluster_at (d : Dev) (r : Nat) (f : PktRing → PktRing) (j : Nat) : (d.modPunt r f).cluster j = d.cluster j := rfl
@[simp] theorem Dev.modPunt_drift_at (d : Dev) (r : Nat) (f : PktRing → PktRing) (j : Nat) : (d.modPunt r f).drift j = d.drift j := rfl
@[simp] theorem Dev.modPunt_tree_at (d : Dev) (r : Nat) (f : PktRing → PktRing) (j : Nat) : (d.modPunt r f).tree j = d.tree j := rfl
@[simp] theorem Dev.modPunt_cmdRing_at (d : Dev) (r : Nat) (f : PktRing → PktRing) (j : Nat) : (d.modPunt r f).cmdRing j = d.cmdRing j := rfl
@[simp] theorem Dev.modPunt_injRing_at (d : Dev) (r : Nat) (f : PktRing → PktRing) (j : Nat) : (d.modPunt r f).injRing j = d.injRing j := rfl
@[simp] theorem Dev.modPunt_ctr_at (d : Dev) (r : Nat) (f : PktRing → PktRing) (j : Nat) : (d.modPunt r f).ctr j = d.ctr j := rfl
@[simp] theorem Dev.modPunt_win_at (d : Dev) (r : Nat) (f : PktRing → PktRing) (j : Nat) : (d.modPunt r f).win j = d.win j := rfl
@[simp] theorem Dev.modPunt_sub_at (d : Dev) (r : Nat) (f : PktRing → PktRing) (j : Nat) : (d.modPunt r f).sub j = d.sub j := rfl
@[simp] theorem Dev.modInj_port_at (d : Dev) (r : Nat) (f : PktRing → PktRing) (j : Nat) : (d.modInj r f).port j = d.port j := rfl
@[simp] theorem Dev.modInj_winder_at (d : Dev) (r : Nat) (f : PktRing → PktRing) (j : Nat) : (d.modInj r f).winder j = d.winder j := rfl
@[simp] theorem Dev.modInj_dec_at (d : Dev) (r : Nat) (f : PktRing → PktRing) (j : Nat) : (d.modInj r f).dec j = d.dec j := rfl
@[simp] theorem Dev.modInj_cluster_at (d : Dev) (r : Nat) (f : PktRing → PktRing) (j : Nat) : (d.modInj r f).cluster j = d.cluster j := rfl
@[simp] theorem Dev.modInj_drift_at (d : Dev) (r : Nat) (f : PktRing → PktRing) (j : Nat) : (d.modInj r f).drift j = d.drift j := rfl
@[simp] theorem Dev.modInj_tree_at (d : Dev) (r : Nat) (f : PktRing → PktRing) (j : Nat) : (d.modInj r f).tree j = d.tree j := rfl
@[simp] theorem Dev.modInj_cmdRing_at (d : Dev) (r : Nat) (f : PktRing → PktRing) (j : Nat) : (d.modInj r f).cmdRing j = d.cmdRing j := rfl
@[simp] theorem Dev.modInj_punt_at (d : Dev) (r : Nat) (f : PktRing → PktRing) (j : Nat) : (d.modInj r f).punt j = d.punt j := rfl
@[simp] theorem Dev.modInj_ctr_at (d : Dev) (r : Nat) (f : PktRing → PktRing) (j : Nat) : (d.modInj r f).ctr j = d.ctr j := rfl
@[simp] theorem Dev.modInj_win_at (d : Dev) (r : Nat) (f : PktRing → PktRing) (j : Nat) : (d.modInj r f).win j = d.win j := rfl
@[simp] theorem Dev.modInj_sub_at (d : Dev) (r : Nat) (f : PktRing → PktRing) (j : Nat) : (d.modInj r f).sub j = d.sub j := rfl
@[simp] theorem Dev.emit_port_at (d : Dev) (ty src : Nat) (pl : Bytes) (j : Nat) : (d.emit ty src pl).port j = d.port j := rfl
@[simp] theorem Dev.emit_winder_at (d : Dev) (ty src : Nat) (pl : Bytes) (j : Nat) : (d.emit ty src pl).winder j = d.winder j := rfl
@[simp] theorem Dev.emit_dec_at (d : Dev) (ty src : Nat) (pl : Bytes) (j : Nat) : (d.emit ty src pl).dec j = d.dec j := rfl
@[simp] theorem Dev.emit_cluster_at (d : Dev) (ty src : Nat) (pl : Bytes) (j : Nat) : (d.emit ty src pl).cluster j = d.cluster j := rfl
@[simp] theorem Dev.emit_drift_at (d : Dev) (ty src : Nat) (pl : Bytes) (j : Nat) : (d.emit ty src pl).drift j = d.drift j := rfl
@[simp] theorem Dev.emit_tree_at (d : Dev) (ty src : Nat) (pl : Bytes) (j : Nat) : (d.emit ty src pl).tree j = d.tree j := rfl
@[simp] theorem Dev.emit_cmdRing_at (d : Dev) (ty src : Nat) (pl : Bytes) (j : Nat) : (d.emit ty src pl).cmdRing j = d.cmdRing j := rfl
@[simp] theorem Dev.emit_punt_at (d : Dev) (ty src : Nat) (pl : Bytes) (j : Nat) : (d.emit ty src pl).punt j = d.punt j := rfl
@[simp] theorem Dev.emit_injRing_at (d : Dev) (ty src : Nat) (pl : Bytes) (j : Nat) : (d.emit ty src pl).injRing j = d.injRing j := rfl
@[simp] theorem Dev.emit_ctr_at (d : Dev) (ty src : Nat) (pl : Bytes) (j : Nat) : (d.emit ty src pl).ctr j = d.ctr j := rfl
@[simp] theorem Dev.emit_win_at (d : Dev) (ty src : Nat) (pl : Bytes) (j : Nat) : (d.emit ty src pl).win j = d.win j := rfl
@[simp] theorem Dev.emit_sub_at (d : Dev) (ty src : Nat) (pl : Bytes) (j : Nat) : (d.emit ty src pl).sub j = d.sub j := rfl
@[simp] theorem Dev.send_port_at (d : Dev) (x : Sent) (j : Nat) : (d.send x).port j = d.port j := rfl
@[simp] theorem Dev.send_winder_at (d : Dev) (x : Sent) (j : Nat) : (d.send x).winder j = d.winder j := rfl
@[simp] theorem Dev.send_dec_at (d : Dev) (x : Sent) (j : Nat) : (d.send x).dec j = d.dec j := rfl
@[simp] theorem Dev.send_cluster_at (d : Dev) (x : Sent) (j : Nat) : (d.send x).cluster j = d.cluster j := rfl
@[simp] theorem Dev.send_drift_at (d : Dev) (x : Sent) (j : Nat) : (d.send x).drift j = d.drift j := rfl
@[simp] theorem Dev.send_tree_at (d : Dev) (x : Sent) (j : Nat) : (d.send x).tree j = d.tree j := rfl
@[simp] theorem Dev.send_cmdRing_at (d : Dev) (x : Sent) (j : Nat) : (d.send x).cmdRing j = d.cmdRing j := rfl
@[simp] theorem Dev.send_punt_at (d : Dev) (x : Sent) (j : Nat) : (d.send x).punt j = d.punt j := rfl
@[simp] theorem Dev.send_injRing_at (d : Dev) (x : Sent) (j : Nat) : (d.send x).injRing j = d.injRing j := rfl
@[simp] theorem Dev.send_ctr_at (d : Dev) (x : Sent) (j : Nat) : (d.send x).ctr j = d.ctr j := rfl
@[simp] theorem Dev.send_win_at (d : Dev) (x : Sent) (j : Nat) : (d.send x).win j = d.win j := rfl
@[simp] theorem Dev.send_sub_at (d : Dev) (x : Sent) (j : Nat) : (d.send x).sub j = d.sub j := rfl
@[simp] theorem Dev.write_port_at (d : Dev) (a : Nat) (bs : Bytes) (j : Nat) : (d.write a bs).port j = d.port j := rfl
@[simp] theorem Dev.write_winder_at (d : Dev) (a : Nat) (bs : Bytes) (j : Nat) : (d.write a bs).winder j = d.winder j := rfl
@[simp] theorem Dev.write_dec_at (d : Dev) (a : Nat) (bs : Bytes) (j : Nat) : (d.write a bs).dec j = d.dec j := rfl
@[simp] theorem Dev.write_cluster_at (d : Dev) (a : Nat) (bs : Bytes) (j : Nat) : (d.write a bs).cluster j = d.cluster j := rfl
@[simp] theorem Dev.write_drift_at (d : Dev) (a : Nat) (bs : Bytes) (j : Nat) : (d.write a bs).drift j = d.drift j := rfl
@[simp] theorem Dev.write_tree_at (d : Dev) (a : Nat) (bs : Bytes) (j : Nat) : (d.write a bs).tree j = d.tree j := rfl
@[simp] theorem Dev.write_cmdRing_at (d : Dev) (a : Nat) (bs : Bytes) (j : Nat) : (d.write a bs).cmdRing j = d.cmdRing j := rfl
@[simp] theorem Dev.write_punt_at (d : Dev) (a : Nat) (bs : Bytes) (j : Nat) : (d.write a bs).punt j = d.punt j := rfl
@[simp] theorem Dev.write_injRing_at (d : Dev) (a : Nat) (bs : Bytes) (j : Nat) : (d.write a bs).injRing j = d.injRing j := rfl
@[simp] theorem Dev.write_ctr_at (d : Dev) (a : Nat) (bs : Bytes) (j : Nat) : (d.write a bs).ctr j = d.ctr j := rfl
@[simp] theorem Dev.write_win_at (d : Dev) (a : Nat) (bs : Bytes) (j : Nat) : (d.write a bs).win j = d.win j := rfl
@[simp] theorem Dev.write_sub_at (d : Dev) (a : Nat) (bs : Bytes) (j : Nat) : (d.write a bs).sub j = d.sub j := rfl
@[simp] theorem Dev.setCtr_port_at (d : Dev) (i : Nat) (c : Ctr) (j : Nat) : (d.setCtr i c).port j = d.port j := rfl
@[simp] theorem Dev.setCtr_winder_at (d : Dev) (i : Nat) (c : Ctr) (j : Nat) : (d.setCtr i c).winder j = d.winder j := rfl
@[simp] theorem Dev.setCtr_dec_at (d : Dev) (i : Nat) (c : Ctr) (j : Nat) : (d.setCtr i c).dec j = d.dec j := rfl
@[simp] theorem Dev.setCtr_cluster_at (d : Dev) (i : Nat) (c : Ctr) (j : Nat) : (d.setCtr i c).cluster j = d.cluster j := rfl
@[simp] theorem Dev.setCtr_drift_at (d : Dev) (i : Nat) (c : Ctr) (j : Nat) : (d.setCtr i c).drift j = d.drift j := rfl
@[simp] theorem Dev.setCtr_tree_at (d : Dev) (i : Nat) (c : Ctr) (j : Nat) : (d.setCtr i c).tree j = d.tree j := rfl
@[simp] theorem Dev.setCtr_cmdRing_at (d : Dev) (i : Nat) (c : Ctr) (j : Nat) : (d.setCtr i c).cmdRing j = d.cmdRing j := rfl
@[simp] theorem Dev.setCtr_punt_at (d : Dev) (i : Nat) (c : Ctr) (j : Nat) : (d.setCtr i c).punt j = d.punt j := rfl
@[simp] theorem Dev.setCtr_injRing_at (d : Dev) (i : Nat) (c : Ctr) (j : Nat) : (d.setCtr i c).injRing j = d.injRing j := rfl
@[simp] theorem Dev.setCtr_win_at (d : Dev) (i : Nat) (c : Ctr) (j : Nat) : (d.setCtr i c).win j = d.win j := rfl
@[simp] theorem Dev.setCtr_sub_at (d : Dev) (i : Nat) (c : Ctr) (j : Nat) : (d.setCtr i c).sub j = d.sub j := rfl
@[simp] theorem Dev.setWin_port_at (d : Dev) (x : Nat) (w : BwWin) (j : Nat) : (d.setWin x w).port j = d.port j := rfl
@[simp] theorem Dev.setWin_winder_at (d : Dev) (x : Nat) (w : BwWin) (j : Nat) : (d.setWin x w).winder j = d.winder j := rfl
@[simp] theorem Dev.setWin_dec_at (d : Dev) (x : Nat) (w : BwWin) (j : Nat) : (d.setWin x w).dec j = d.dec j := rfl
@[simp] theorem Dev.setWin_cluster_at (d : Dev) (x : Nat) (w : BwWin) (j : Nat) : (d.setWin x w).cluster j = d.cluster j := rfl
@[simp] theorem Dev.setWin_drift_at (d : Dev) (x : Nat) (w : BwWin) (j : Nat) : (d.setWin x w).drift j = d.drift j := rfl
@[simp] theorem Dev.setWin_tree_at (d : Dev) (x : Nat) (w : BwWin) (j : Nat) : (d.setWin x w).tree j = d.tree j := rfl
@[simp] theorem Dev.setWin_cmdRing_at (d : Dev) (x : Nat) (w : BwWin) (j : Nat) : (d.setWin x w).cmdRing j = d.cmdRing j := rfl
@[simp] theorem Dev.setWin_punt_at (d : Dev) (x : Nat) (w : BwWin) (j : Nat) : (d.setWin x w).punt j = d.punt j := rfl
@[simp] theorem Dev.setWin_injRing_at (d : Dev) (x : Nat) (w : BwWin) (j : Nat) : (d.setWin x w).injRing j = d.injRing j := rfl
@[simp] theorem Dev.setWin_ctr_at (d : Dev) (x : Nat) (w : BwWin) (j : Nat) : (d.setWin x w).ctr j = d.ctr j := rfl
@[simp] theorem Dev.setWin_sub_at (d : Dev) (x : Nat) (w : BwWin) (j : Nat) : (d.setWin x w).sub j = d.sub j := rfl
@[simp] theorem Dev.modSub_port_at (d : Dev) (s : Nat) (f : Sub → Sub) (j : Nat) : (d.modSub s f).port j = d.port j := rfl
@[simp] theorem Dev.modSub_winder_at (d : Dev) (s : Nat) (f : Sub → Sub) (j : Nat) : (d.modSub s f).winder j = d.winder j := rfl
@[simp] theorem Dev.modSub_dec_at (d : Dev) (s : Nat) (f : Sub → Sub) (j : Nat) : (d.modSub s f).dec j = d.dec j := rfl
@[simp] theorem Dev.modSub_cluster_at (d : Dev) (s : Nat) (f : Sub → Sub) (j : Nat) : (d.modSub s f).cluster j = d.cluster j := rfl
@[simp] theorem Dev.modSub_drift_at (d : Dev) (s : Nat) (f : Sub → Sub) (j : Nat) : (d.modSub s f).drift j = d.drift j := rfl
@[simp] theorem Dev.modSub_tree_at (d : Dev) (s : Nat) (f : Sub → Sub) (j : Nat) : (d.modSub s f).tree j = d.tree j := rfl
@[simp] theorem Dev.modSub_cmdRing_at (d : Dev) (s : Nat) (f : Sub → Sub) (j : Nat) : (d.modSub s f).cmdRing j = d.cmdRing j := rfl
@[simp] theorem Dev.modSub_punt_at (d : Dev) (s : Nat) (f : Sub → Sub) (j : Nat) : (d.modSub s f).punt j = d.punt j := rfl
@[simp] theorem Dev.modSub_injRing_at (d : Dev) (s : Nat) (f : Sub → Sub) (j : Nat) : (d.modSub s f).injRing j = d.injRing j := rfl
@[simp] theorem Dev.modSub_ctr_at (d : Dev) (s : Nat) (f : Sub → Sub) (j : Nat) : (d.modSub s f).ctr j = d.ctr j := rfl
@[simp] theorem Dev.modSub_win_at (d : Dev) (s : Nat) (f : Sub → Sub) (j : Nat) : (d.modSub s f).win j = d.win j := rfl
@[simp] theorem Dev.ask_port_at (d : Dev) (op : BankOp) (j : Nat) : (d.ask op).port j = d.port j := rfl
@[simp] theorem Dev.ask_winder_at (d : Dev) (op : BankOp) (j : Nat) : (d.ask op).winder j = d.winder j := rfl
@[simp] theorem Dev.ask_dec_at (d : Dev) (op : BankOp) (j : Nat) : (d.ask op).dec j = d.dec j := rfl
@[simp] theorem Dev.ask_cluster_at (d : Dev) (op : BankOp) (j : Nat) : (d.ask op).cluster j = d.cluster j := rfl
@[simp] theorem Dev.ask_drift_at (d : Dev) (op : BankOp) (j : Nat) : (d.ask op).drift j = d.drift j := rfl
@[simp] theorem Dev.ask_tree_at (d : Dev) (op : BankOp) (j : Nat) : (d.ask op).tree j = d.tree j := rfl
@[simp] theorem Dev.ask_cmdRing_at (d : Dev) (op : BankOp) (j : Nat) : (d.ask op).cmdRing j = d.cmdRing j := rfl
@[simp] theorem Dev.ask_punt_at (d : Dev) (op : BankOp) (j : Nat) : (d.ask op).punt j = d.punt j := rfl
@[simp] theorem Dev.ask_injRing_at (d : Dev) (op : BankOp) (j : Nat) : (d.ask op).injRing j = d.injRing j := rfl
@[simp] theorem Dev.ask_ctr_at (d : Dev) (op : BankOp) (j : Nat) : (d.ask op).ctr j = d.ctr j := rfl
@[simp] theorem Dev.ask_win_at (d : Dev) (op : BankOp) (j : Nat) : (d.ask op).win j = d.win j := rfl
@[simp] theorem Dev.ask_sub_at (d : Dev) (op : BankOp) (j : Nat) : (d.ask op).sub j = d.sub j := rfl
@[simp] theorem Dev.setAux_port_at (d : Dev) (c : Tag) (n : Nat) (j : Nat) : (d.setAux c n).port j = d.port j := rfl
@[simp] theorem Dev.setAux_winder_at (d : Dev) (c : Tag) (n : Nat) (j : Nat) : (d.setAux c n).winder j = d.winder j := rfl
@[simp] theorem Dev.setAux_dec_at (d : Dev) (c : Tag) (n : Nat) (j : Nat) : (d.setAux c n).dec j = d.dec j := rfl
@[simp] theorem Dev.setAux_cluster_at (d : Dev) (c : Tag) (n : Nat) (j : Nat) : (d.setAux c n).cluster j = d.cluster j := rfl
@[simp] theorem Dev.setAux_drift_at (d : Dev) (c : Tag) (n : Nat) (j : Nat) : (d.setAux c n).drift j = d.drift j := rfl
@[simp] theorem Dev.setAux_tree_at (d : Dev) (c : Tag) (n : Nat) (j : Nat) : (d.setAux c n).tree j = d.tree j := rfl
@[simp] theorem Dev.setAux_cmdRing_at (d : Dev) (c : Tag) (n : Nat) (j : Nat) : (d.setAux c n).cmdRing j = d.cmdRing j := rfl
@[simp] theorem Dev.setAux_punt_at (d : Dev) (c : Tag) (n : Nat) (j : Nat) : (d.setAux c n).punt j = d.punt j := rfl
@[simp] theorem Dev.setAux_injRing_at (d : Dev) (c : Tag) (n : Nat) (j : Nat) : (d.setAux c n).injRing j = d.injRing j := rfl
@[simp] theorem Dev.setAux_ctr_at (d : Dev) (c : Tag) (n : Nat) (j : Nat) : (d.setAux c n).ctr j = d.ctr j := rfl
@[simp] theorem Dev.setAux_win_at (d : Dev) (c : Tag) (n : Nat) (j : Nat) : (d.setAux c n).win j = d.win j := rfl
@[simp] theorem Dev.setAux_sub_at (d : Dev) (c : Tag) (n : Nat) (j : Nat) : (d.setAux c n).sub j = d.sub j := rfl
@[simp] theorem Dev.accept_port_at (d : Dev) (i : Instr) (c : Tag) (obj : Word) (o : Nat) (ph : Phase) (j : Nat) : (d.accept i c obj o ph).port j = d.port j := rfl
@[simp] theorem Dev.accept_winder_at (d : Dev) (i : Instr) (c : Tag) (obj : Word) (o : Nat) (ph : Phase) (j : Nat) : (d.accept i c obj o ph).winder j = d.winder j := rfl
@[simp] theorem Dev.accept_dec_at (d : Dev) (i : Instr) (c : Tag) (obj : Word) (o : Nat) (ph : Phase) (j : Nat) : (d.accept i c obj o ph).dec j = d.dec j := rfl
@[simp] theorem Dev.accept_cluster_at (d : Dev) (i : Instr) (c : Tag) (obj : Word) (o : Nat) (ph : Phase) (j : Nat) : (d.accept i c obj o ph).cluster j = d.cluster j := rfl
@[simp] theorem Dev.accept_drift_at (d : Dev) (i : Instr) (c : Tag) (obj : Word) (o : Nat) (ph : Phase) (j : Nat) : (d.accept i c obj o ph).drift j = d.drift j := rfl
@[simp] theorem Dev.accept_tree_at (d : Dev) (i : Instr) (c : Tag) (obj : Word) (o : Nat) (ph : Phase) (j : Nat) : (d.accept i c obj o ph).tree j = d.tree j := rfl
@[simp] theorem Dev.accept_cmdRing_at (d : Dev) (i : Instr) (c : Tag) (obj : Word) (o : Nat) (ph : Phase) (j : Nat) : (d.accept i c obj o ph).cmdRing j = d.cmdRing j := rfl
@[simp] theorem Dev.accept_punt_at (d : Dev) (i : Instr) (c : Tag) (obj : Word) (o : Nat) (ph : Phase) (j : Nat) : (d.accept i c obj o ph).punt j = d.punt j := rfl
@[simp] theorem Dev.accept_injRing_at (d : Dev) (i : Instr) (c : Tag) (obj : Word) (o : Nat) (ph : Phase) (j : Nat) : (d.accept i c obj o ph).injRing j = d.injRing j := rfl
@[simp] theorem Dev.accept_ctr_at (d : Dev) (i : Instr) (c : Tag) (obj : Word) (o : Nat) (ph : Phase) (j : Nat) : (d.accept i c obj o ph).ctr j = d.ctr j := rfl
@[simp] theorem Dev.accept_win_at (d : Dev) (i : Instr) (c : Tag) (obj : Word) (o : Nat) (ph : Phase) (j : Nat) : (d.accept i c obj o ph).win j = d.win j := rfl
@[simp] theorem Dev.accept_sub_at (d : Dev) (i : Instr) (c : Tag) (obj : Word) (o : Nat) (ph : Phase) (j : Nat) : (d.accept i c obj o ph).sub j = d.sub j := rfl

/-! ### A completion, and the end of a command -/

@[simp] theorem Dev.complete_variant (d : Dev) (c : Tag) (st : Nat) (r : Bytes) : (d.complete c st r).variant = d.variant := (congrArg Dev.variant (d.complete_units c st r) :)
@[simp] theorem Dev.complete_free (d : Dev) (c : Tag) (st : Nat) (r : Bytes) : (d.complete c st r).free = d.free := (congrArg Dev.free (d.complete_units c st r) :)
@[simp] theorem Dev.complete_now (d : Dev) (c : Tag) (st : Nat) (r : Bytes) : (d.complete c st r).now = d.now := (congrArg Dev.now (d.complete_units c st r) :)
@[simp] theorem Dev.complete_sent (d : Dev) (c : Tag) (st : Nat) (r : Bytes) : (d.complete c st r).sent = d.sent := (congrArg Dev.sent (d.complete_units c st r) :)
@[simp] theorem Dev.complete_board (d : Dev) (c : Tag) (st : Nat) (r : Bytes) : (d.complete c st r).board = d.board := (congrArg Dev.board (d.complete_units c st r) :)
@[simp] theorem Dev.complete_drifts (d : Dev) (c : Tag) (st : Nat) (r : Bytes) : (d.complete c st r).drifts = d.drifts := (congrArg Dev.drifts (d.complete_units c st r) :)
@[simp] theorem Dev.complete_ports (d : Dev) (c : Tag) (st : Nat) (r : Bytes) : (d.complete c st r).ports = d.ports := (congrArg Dev.ports (d.complete_units c st r) :)
@[simp] theorem Dev.complete_winders (d : Dev) (c : Tag) (st : Nat) (r : Bytes) : (d.complete c st r).winders = d.winders := (congrArg Dev.winders (d.complete_units c st r) :)
@[simp] theorem Dev.complete_decs (d : Dev) (c : Tag) (st : Nat) (r : Bytes) : (d.complete c st r).decs = d.decs := (congrArg Dev.decs (d.complete_units c st r) :)
@[simp] theorem Dev.complete_clusters (d : Dev) (c : Tag) (st : Nat) (r : Bytes) : (d.complete c st r).clusters = d.clusters := (congrArg Dev.clusters (d.complete_units c st r) :)
@[simp] theorem Dev.complete_cmdRings (d : Dev) (c : Tag) (st : Nat) (r : Bytes) : (d.complete c st r).cmdRings = d.cmdRings := (congrArg Dev.cmdRings (d.complete_units c st r) :)
@[simp] theorem Dev.complete_puntRings (d : Dev) (c : Tag) (st : Nat) (r : Bytes) : (d.complete c st r).puntRings = d.puntRings := (congrArg Dev.puntRings (d.complete_units c st r) :)
@[simp] theorem Dev.complete_injRings (d : Dev) (c : Tag) (st : Nat) (r : Bytes) : (d.complete c st r).injRings = d.injRings := (congrArg Dev.injRings (d.complete_units c st r) :)
@[simp] theorem Dev.complete_inj (d : Dev) (c : Tag) (st : Nat) (r : Bytes) : (d.complete c st r).inj = d.inj := (congrArg Dev.inj (d.complete_units c st r) :)
@[simp] theorem Dev.complete_lastRing (d : Dev) (c : Tag) (st : Nat) (r : Bytes) : (d.complete c st r).lastRing = d.lastRing := (congrArg Dev.lastRing (d.complete_units c st r) :)
@[simp] theorem Dev.complete_ctrs (d : Dev) (c : Tag) (st : Nat) (r : Bytes) : (d.complete c st r).ctrs = d.ctrs := (congrArg Dev.ctrs (d.complete_units c st r) :)
@[simp] theorem Dev.complete_time (d : Dev) (c : Tag) (st : Nat) (r : Bytes) : (d.complete c st r).time = d.time := (congrArg Dev.time (d.complete_units c st r) :)
@[simp] theorem Dev.complete_prot (d : Dev) (c : Tag) (st : Nat) (r : Bytes) : (d.complete c st r).prot = d.prot := (congrArg Dev.prot (d.complete_units c st r) :)
@[simp] theorem Dev.complete_cls (d : Dev) (c : Tag) (st : Nat) (r : Bytes) : (d.complete c st r).cls = d.cls := (congrArg Dev.cls (d.complete_units c st r) :)
@[simp] theorem Dev.complete_tbl (d : Dev) (c : Tag) (st : Nat) (r : Bytes) : (d.complete c st r).tbl = d.tbl := (congrArg Dev.tbl (d.complete_units c st r) :)
@[simp] theorem Dev.complete_dtm (d : Dev) (c : Tag) (st : Nat) (r : Bytes) : (d.complete c st r).dtm = d.dtm := (congrArg Dev.dtm (d.complete_units c st r) :)
@[simp] theorem Dev.complete_ulk (d : Dev) (c : Tag) (st : Nat) (r : Bytes) : (d.complete c st r).ulk = d.ulk := (congrArg Dev.ulk (d.complete_units c st r) :)
@[simp] theorem Dev.complete_lanes (d : Dev) (c : Tag) (st : Nat) (r : Bytes) : (d.complete c st r).lanes = d.lanes := (congrArg Dev.lanes (d.complete_units c st r) :)
@[simp] theorem Dev.complete_ddr (d : Dev) (c : Tag) (st : Nat) (r : Bytes) : (d.complete c st r).ddr = d.ddr := (congrArg Dev.ddr (d.complete_units c st r) :)
@[simp] theorem Dev.complete_tally (d : Dev) (c : Tag) (st : Nat) (r : Bytes) : (d.complete c st r).tally = d.tally := (congrArg Dev.tally (d.complete_units c st r) :)

@[simp] theorem State.run_port (s : State) (d : Dev) (p : Nat) : (s.run d).dev.port p = d.port p := Dev.port_of_eq _ _ _ (s.run_ports d)
@[simp] theorem State.run_winder (s : State) (d : Dev) (w : Nat) : (s.run d).dev.winder w = d.winder w := Dev.winder_of_eq _ _ _ (s.run_winders d)
@[simp] theorem State.run_dec (s : State) (d : Dev) (n : Nat) : (s.run d).dev.dec n = d.dec n := Dev.dec_of_eq _ _ _ (s.run_decs d)
@[simp] theorem State.run_cluster (s : State) (d : Dev) (c : Nat) : (s.run d).dev.cluster c = d.cluster c := Dev.cluster_of_eq _ _ _ (s.run_clusters d)
@[simp] theorem State.run_drift (s : State) (d : Dev) (x : Nat) : (s.run d).dev.drift x = d.drift x := Dev.drift_of_eq _ _ _ (s.run_drifts d)
@[simp] theorem State.run_tree (s : State) (d : Dev) (p : Nat) : (s.run d).dev.tree p = d.tree p := Dev.tree_of_eq _ _ _ (s.run_prot d)
@[simp] theorem State.run_cmdRing (s : State) (d : Dev) (r : Nat) : (s.run d).dev.cmdRing r = d.cmdRing r := Dev.cmdRing_of_eq _ _ _ (s.run_cmdRings d)
@[simp] theorem State.run_punt (s : State) (d : Dev) (r : Nat) : (s.run d).dev.punt r = d.punt r := Dev.punt_of_eq _ _ _ (s.run_puntRings d)
@[simp] theorem State.run_injRing (s : State) (d : Dev) (r : Nat) : (s.run d).dev.injRing r = d.injRing r := Dev.injRing_of_eq _ _ _ (s.run_injRings d)
@[simp] theorem State.run_ctr (s : State) (d : Dev) (i : Nat) : (s.run d).dev.ctr i = d.ctr i := Dev.ctr_of_eq _ _ _ (s.run_ctrs d)
@[simp] theorem State.run_win (s : State) (d : Dev) (x : Nat) : (s.run d).dev.win x = d.win x := Dev.win_of_eq _ _ _ (s.run_tally d)
@[simp] theorem State.run_sub (s : State) (d : Dev) (n : Nat) : (s.run d).dev.sub n = d.sub n := Dev.sub_of_eq _ _ _ (s.run_ddr d)

end Sys2Proof.Machine
end

