-- ==== Sys2Proof/Laws/Oliol.lean ====
section
/-! SUPPORT. The profiler touches its cluster and asks for events alone; how an Oliol instruction issues; the register file of a winder. -/
namespace Sys2Proof.Machine
open Sys2Proof

/-- The device without its clusters and its requests. -/
def Dev.sansProf (d : Dev) : Dev := { d with clusters := [], outbox := [] }

theorem Dev.profStop_sans (d : Dev) (c r : Nat) : (d.profStop c r).sansProf = d.sansProf := by
  unfold Dev.profStop
  dsimp only
  split <;> rfl

theorem Dev.profAdd_sans (d : Dev) (c : Nat) (r : ProfRec) (t : Nat) : (d.profAdd c r t).sansProf = d.sansProf := by
  unfold Dev.profAdd
  dsimp only
  split
  · rfl
  · generalize (if decide (4096 ≤ (d.cluster c).prof.recs.length) = true then (d.cluster c).prof.recs.drop 1
      else (d.cluster c).prof.recs) = l
    split
    · rw [Dev.profStop_sans]; rfl
    · rfl

theorem Dev.profIssue_sans (d : Dev) (w t : Nat) : (d.profIssue w t).sansProf = d.sansProf := by
  unfold Dev.profIssue
  dsimp only
  split
  · rfl
  · split
    · rfl
    · split
      · rw [Dev.profAdd_sans]; rfl
      · rfl

theorem Dev.profMark_sans (d : Dev) (w t : Nat) (g : Half) : (d.profMark w t g).sansProf = d.sansProf := by
  unfold Dev.profMark
  split
  · exact Dev.profAdd_sans ..
  · rfl

@[simp] theorem Dev.profIssue_variant (d : Dev) (w t : Nat) : (d.profIssue w t).variant = d.variant := (congrArg Dev.variant (d.profIssue_sans w t) :)
@[simp] theorem Dev.profIssue_free (d : Dev) (w t : Nat) : (d.profIssue w t).free = d.free := (congrArg Dev.free (d.profIssue_sans w t) :)
@[simp] theorem Dev.profIssue_now (d : Dev) (w t : Nat) : (d.profIssue w t).now = d.now := (congrArg Dev.now (d.profIssue_sans w t) :)
@[simp] theorem Dev.profIssue_dma (d : Dev) (w t : Nat) : (d.profIssue w t).dma = d.dma := (congrArg Dev.dma (d.profIssue_sans w t) :)
@[simp] theorem Dev.profIssue_sent (d : Dev) (w t : Nat) : (d.profIssue w t).sent = d.sent := (congrArg Dev.sent (d.profIssue_sans w t) :)
@[simp] theorem Dev.profIssue_board (d : Dev) (w t : Nat) : (d.profIssue w t).board = d.board := (congrArg Dev.board (d.profIssue_sans w t) :)
@[simp] theorem Dev.profIssue_drifts (d : Dev) (w t : Nat) : (d.profIssue w t).drifts = d.drifts := (congrArg Dev.drifts (d.profIssue_sans w t) :)
@[simp] theorem Dev.profIssue_ports (d : Dev) (w t : Nat) : (d.profIssue w t).ports = d.ports := (congrArg Dev.ports (d.profIssue_sans w t) :)
@[simp] theorem Dev.profIssue_winders (d : Dev) (w t : Nat) : (d.profIssue w t).winders = d.winders := (congrArg Dev.winders (d.profIssue_sans w t) :)
@[simp] theorem Dev.profIssue_decs (d : Dev) (w t : Nat) : (d.profIssue w t).decs = d.decs := (congrArg Dev.decs (d.profIssue_sans w t) :)
@[simp] theorem Dev.profIssue_cmdRings (d : Dev) (w t : Nat) : (d.profIssue w t).cmdRings = d.cmdRings := (congrArg Dev.cmdRings (d.profIssue_sans w t) :)
@[simp] theorem Dev.profIssue_puntRings (d : Dev) (w t : Nat) : (d.profIssue w t).puntRings = d.puntRings := (congrArg Dev.puntRings (d.profIssue_sans w t) :)
@[simp] theorem Dev.profIssue_injRings (d : Dev) (w t : Nat) : (d.profIssue w t).injRings = d.injRings := (congrArg Dev.injRings (d.profIssue_sans w t) :)
@[simp] theorem Dev.profIssue_inj (d : Dev) (w t : Nat) : (d.profIssue w t).inj = d.inj := (congrArg Dev.inj (d.profIssue_sans w t) :)
@[simp] theorem Dev.profIssue_lastRing (d : Dev) (w t : Nat) : (d.profIssue w t).lastRing = d.lastRing := (congrArg Dev.lastRing (d.profIssue_sans w t) :)
@[simp] theorem Dev.profIssue_cmds (d : Dev) (w t : Nat) : (d.profIssue w t).cmds = d.cmds := (congrArg Dev.cmds (d.profIssue_sans w t) :)
@[simp] theorem Dev.profIssue_ctrs (d : Dev) (w t : Nat) : (d.profIssue w t).ctrs = d.ctrs := (congrArg Dev.ctrs (d.profIssue_sans w t) :)
@[simp] theorem Dev.profIssue_time (d : Dev) (w t : Nat) : (d.profIssue w t).time = d.time := (congrArg Dev.time (d.profIssue_sans w t) :)
@[simp] theorem Dev.profIssue_prot (d : Dev) (w t : Nat) : (d.profIssue w t).prot = d.prot := (congrArg Dev.prot (d.profIssue_sans w t) :)
@[simp] theorem Dev.profIssue_cls (d : Dev) (w t : Nat) : (d.profIssue w t).cls = d.cls := (congrArg Dev.cls (d.profIssue_sans w t) :)
@[simp] theorem Dev.profIssue_tbl (d : Dev) (w t : Nat) : (d.profIssue w t).tbl = d.tbl := (congrArg Dev.tbl (d.profIssue_sans w t) :)
@[simp] theorem Dev.profIssue_dtm (d : Dev) (w t : Nat) : (d.profIssue w t).dtm = d.dtm := (congrArg Dev.dtm (d.profIssue_sans w t) :)
@[simp] theorem Dev.profIssue_ulk (d : Dev) (w t : Nat) : (d.profIssue w t).ulk = d.ulk := (congrArg Dev.ulk (d.profIssue_sans w t) :)
@[simp] theorem Dev.profIssue_lanes (d : Dev) (w t : Nat) : (d.profIssue w t).lanes = d.lanes := (congrArg Dev.lanes (d.profIssue_sans w t) :)
@[simp] theorem Dev.profIssue_ddr (d : Dev) (w t : Nat) : (d.profIssue w t).ddr = d.ddr := (congrArg Dev.ddr (d.profIssue_sans w t) :)
@[simp] theorem Dev.profIssue_tally (d : Dev) (w t : Nat) : (d.profIssue w t).tally = d.tally := (congrArg Dev.tally (d.profIssue_sans w t) :)

@[simp] theorem Dev.profMark_variant (d : Dev) (w t : Nat) (g : Half) : (d.profMark w t g).variant = d.variant := (congrArg Dev.variant (d.profMark_sans w t g) :)
@[simp] theorem Dev.profMark_free (d : Dev) (w t : Nat) (g : Half) : (d.profMark w t g).free = d.free := (congrArg Dev.free (d.profMark_sans w t g) :)
@[simp] theorem Dev.profMark_now (d : Dev) (w t : Nat) (g : Half) : (d.profMark w t g).now = d.now := (congrArg Dev.now (d.profMark_sans w t g) :)
@[simp] theorem Dev.profMark_dma (d : Dev) (w t : Nat) (g : Half) : (d.profMark w t g).dma = d.dma := (congrArg Dev.dma (d.profMark_sans w t g) :)
@[simp] theorem Dev.profMark_sent (d : Dev) (w t : Nat) (g : Half) : (d.profMark w t g).sent = d.sent := (congrArg Dev.sent (d.profMark_sans w t g) :)
@[simp] theorem Dev.profMark_board (d : Dev) (w t : Nat) (g : Half) : (d.profMark w t g).board = d.board := (congrArg Dev.board (d.profMark_sans w t g) :)
@[simp] theorem Dev.profMark_drifts (d : Dev) (w t : Nat) (g : Half) : (d.profMark w t g).drifts = d.drifts := (congrArg Dev.drifts (d.profMark_sans w t g) :)
@[simp] theorem Dev.profMark_ports (d : Dev) (w t : Nat) (g : Half) : (d.profMark w t g).ports = d.ports := (congrArg Dev.ports (d.profMark_sans w t g) :)
@[simp] theorem Dev.profMark_winders (d : Dev) (w t : Nat) (g : Half) : (d.profMark w t g).winders = d.winders := (congrArg Dev.winders (d.profMark_sans w t g) :)
@[simp] theorem Dev.profMark_decs (d : Dev) (w t : Nat) (g : Half) : (d.profMark w t g).decs = d.decs := (congrArg Dev.decs (d.profMark_sans w t g) :)
@[simp] theorem Dev.profMark_cmdRings (d : Dev) (w t : Nat) (g : Half) : (d.profMark w t g).cmdRings = d.cmdRings := (congrArg Dev.cmdRings (d.profMark_sans w t g) :)
@[simp] theorem Dev.profMark_puntRings (d : Dev) (w t : Nat) (g : Half) : (d.profMark w t g).puntRings = d.puntRings := (congrArg Dev.puntRings (d.profMark_sans w t g) :)
@[simp] theorem Dev.profMark_injRings (d : Dev) (w t : Nat) (g : Half) : (d.profMark w t g).injRings = d.injRings := (congrArg Dev.injRings (d.profMark_sans w t g) :)
@[simp] theorem Dev.profMark_inj (d : Dev) (w t : Nat) (g : Half) : (d.profMark w t g).inj = d.inj := (congrArg Dev.inj (d.profMark_sans w t g) :)
@[simp] theorem Dev.profMark_lastRing (d : Dev) (w t : Nat) (g : Half) : (d.profMark w t g).lastRing = d.lastRing := (congrArg Dev.lastRing (d.profMark_sans w t g) :)
@[simp] theorem Dev.profMark_cmds (d : Dev) (w t : Nat) (g : Half) : (d.profMark w t g).cmds = d.cmds := (congrArg Dev.cmds (d.profMark_sans w t g) :)
@[simp] theorem Dev.profMark_ctrs (d : Dev) (w t : Nat) (g : Half) : (d.profMark w t g).ctrs = d.ctrs := (congrArg Dev.ctrs (d.profMark_sans w t g) :)
@[simp] theorem Dev.profMark_time (d : Dev) (w t : Nat) (g : Half) : (d.profMark w t g).time = d.time := (congrArg Dev.time (d.profMark_sans w t g) :)
@[simp] theorem Dev.profMark_prot (d : Dev) (w t : Nat) (g : Half) : (d.profMark w t g).prot = d.prot := (congrArg Dev.prot (d.profMark_sans w t g) :)
@[simp] theorem Dev.profMark_cls (d : Dev) (w t : Nat) (g : Half) : (d.profMark w t g).cls = d.cls := (congrArg Dev.cls (d.profMark_sans w t g) :)
@[simp] theorem Dev.profMark_tbl (d : Dev) (w t : Nat) (g : Half) : (d.profMark w t g).tbl = d.tbl := (congrArg Dev.tbl (d.profMark_sans w t g) :)
@[simp] theorem Dev.profMark_dtm (d : Dev) (w t : Nat) (g : Half) : (d.profMark w t g).dtm = d.dtm := (congrArg Dev.dtm (d.profMark_sans w t g) :)
@[simp] theorem Dev.profMark_ulk (d : Dev) (w t : Nat) (g : Half) : (d.profMark w t g).ulk = d.ulk := (congrArg Dev.ulk (d.profMark_sans w t g) :)
@[simp] theorem Dev.profMark_lanes (d : Dev) (w t : Nat) (g : Half) : (d.profMark w t g).lanes = d.lanes := (congrArg Dev.lanes (d.profMark_sans w t g) :)
@[simp] theorem Dev.profMark_ddr (d : Dev) (w t : Nat) (g : Half) : (d.profMark w t g).ddr = d.ddr := (congrArg Dev.ddr (d.profMark_sans w t g) :)
@[simp] theorem Dev.profMark_tally (d : Dev) (w t : Nat) (g : Half) : (d.profMark w t g).tally = d.tally := (congrArg Dev.tally (d.profMark_sans w t g) :)

@[simp] theorem Dev.profIssue_port (d : Dev) (w t p : Nat) : (d.profIssue w t).port p = d.port p := Dev.port_of_eq _ _ _ (by simp)
@[simp] theorem Dev.profMark_port (d : Dev) (w t p : Nat) (g : Half) : (d.profMark w t g).port p = d.port p := Dev.port_of_eq _ _ _ (by simp)
@[simp] theorem Dev.profIssue_winder (d : Dev) (w t p : Nat) : (d.profIssue w t).winder p = d.winder p := Dev.winder_of_eq _ _ _ (by simp)
@[simp] theorem Dev.profMark_winder (d : Dev) (w t p : Nat) (g : Half) : (d.profMark w t g).winder p = d.winder p := Dev.winder_of_eq _ _ _ (by simp)

/-! ### The register file -/

theorem Winder.rg_setG (x : Winder) (n m : BitVec 5) (v : Word) :
    (x.setG n v).rg m = if m = 0 then 0 else if m = n then v else x.rg m := by
  unfold Winder.rg
  split
  · rfl
  · rename_i hm
    unfold Winder.setG
    split
    · rename_i hn
      rw [if_neg (fun e => hm (e.trans hn))]
    · simp only [sget_sset, ← BitVec.toNat_eq]

theorem Winder.rv_setV (x : Winder) (n m : BitVec 4) (i j : Nat) (v : Word) (hi : i < 8) (hj : j < 8) :
    (x.setV n i v).rv m j = if m = n ∧ j = i then v else x.rv m j := by
  unfold Winder.setV Winder.rv
  simp only [sget_sset]
  by_cases h : m = n ∧ j = i
  · simp [h]
  · rw [if_neg h, if_neg]
    intro e
    refine h ⟨BitVec.eq_of_toNat_eq ?_, ?_⟩ <;> omega

theorem Winder.rp_setP (x : Winder) (n m : BitVec 2) (v : Byte) : (x.setP n v).rp m = if m = n then v else x.rp m := by
  unfold Winder.setP Winder.rp
  simp only [sget_sset, ← BitVec.toNat_eq]

theorem Winder.lw_setLw (x : Winder) (a b : Nat) (v : Word) : (x.setLw a v).lw b = if b / 4 = a / 4 then v else x.lw b := sget_sset _ _ _ _ _

@[simp] theorem Winder.setV_st (x : Winder) (n : BitVec 4) (i : Nat) (v : Word) : (x.setV n i v).st = x.st := rfl
@[simp] theorem Winder.setV_port (x : Winder) (n : BitVec 4) (i : Nat) (v : Word) : (x.setV n i v).port = x.port := rfl
@[simp] theorem Winder.setV_cause (x : Winder) (n : BitVec 4) (i : Nat) (v : Word) : (x.setV n i v).cause = x.cause := rfl
@[simp] theorem Winder.setV_selfTest (x : Winder) (n : BitVec 4) (i : Nat) (v : Word) : (x.setV n i v).selfTest = x.selfTest := rfl
@[simp] theorem Winder.setV_running (x : Winder) (n : BitVec 4) (i : Nat) (v : Word) : (x.setV n i v).running = x.running := rfl
@[simp] theorem Winder.setV_pc (x : Winder) (n : BitVec 4) (i : Nat) (v : Word) : (x.setV n i v).pc = x.pc := rfl
@[simp] theorem Winder.setV_g (x : Winder) (n : BitVec 4) (i : Nat) (v : Word) : (x.setV n i v).g = x.g := rfl
@[simp] theorem Winder.setV_p (x : Winder) (n : BitVec 4) (i : Nat) (v : Word) : (x.setV n i v).p = x.p := rfl
@[simp] theorem Winder.setV_loops (x : Winder) (n : BitVec 4) (i : Nat) (v : Word) : (x.setV n i v).loops = x.loops := rfl
@[simp] theorem Winder.setV_cyc0 (x : Winder) (n : BitVec 4) (i : Nat) (v : Word) : (x.setV n i v).cyc0 = x.cyc0 := rfl
@[simp] theorem Winder.setV_rem0 (x : Winder) (n : BitVec 4) (i : Nat) (v : Word) : (x.setV n i v).rem0 = x.rem0 := rfl
@[simp] theorem Winder.setV_cycle (x : Winder) (n : BitVec 4) (i : Nat) (v : Word) : (x.setV n i v).cycle = x.cycle := rfl
@[simp] theorem Winder.setV_ready (x : Winder) (n : BitVec 4) (i : Nat) (v : Word) : (x.setV n i v).ready = x.ready := rfl
@[simp] theorem Winder.setV_portFree (x : Winder) (n : BitVec 4) (i : Nat) (v : Word) : (x.setV n i v).portFree = x.portFree := rfl
@[simp] theorem Winder.setV_loads (x : Winder) (n : BitVec 4) (i : Nat) (v : Word) : (x.setV n i v).loads = x.loads := rfl
@[simp] theorem Winder.setV_calFree (x : Winder) (n : BitVec 4) (i : Nat) (v : Word) : (x.setV n i v).calFree = x.calFree := rfl
@[simp] theorem Winder.setV_localFree (x : Winder) (n : BitVec 4) (i : Nat) (v : Word) : (x.setV n i v).localFree = x.localFree := rfl
@[simp] theorem Winder.setV_frameNo (x : Winder) (n : BitVec 4) (i : Nat) (v : Word) : (x.setV n i v).frameNo = x.frameNo := rfl
@[simp] theorem Winder.setV_sfc (x : Winder) (n : BitVec 4) (i : Nat) (v : Word) : (x.setV n i v).sfc = x.sfc := rfl
@[simp] theorem Winder.setV_allocN (x : Winder) (n : BitVec 4) (i : Nat) (v : Word) : (x.setV n i v).allocN = x.allocN := rfl
@[simp] theorem Winder.setV_imem (x : Winder) (n : BitVec 4) (i : Nat) (v : Word) : (x.setV n i v).imem = x.imem := rfl
@[simp] theorem Winder.setV_lmem (x : Winder) (n : BitVec 4) (i : Nat) (v : Word) : (x.setV n i v).lmem = x.lmem := rfl
@[simp] theorem Winder.setP_st (x : Winder) (n : BitVec 2) (v : Byte) : (x.setP n v).st = x.st := rfl
@[simp] theorem Winder.setP_port (x : Winder) (n : BitVec 2) (v : Byte) : (x.setP n v).port = x.port := rfl
@[simp] theorem Winder.setP_cause (x : Winder) (n : BitVec 2) (v : Byte) : (x.setP n v).cause = x.cause := rfl
@[simp] theorem Winder.setP_selfTest (x : Winder) (n : BitVec 2) (v : Byte) : (x.setP n v).selfTest = x.selfTest := rfl
@[simp] theorem Winder.setP_running (x : Winder) (n : BitVec 2) (v : Byte) : (x.setP n v).running = x.running := rfl
@[simp] theorem Winder.setP_pc (x : Winder) (n : BitVec 2) (v : Byte) : (x.setP n v).pc = x.pc := rfl
@[simp] theorem Winder.setP_g (x : Winder) (n : BitVec 2) (v : Byte) : (x.setP n v).g = x.g := rfl
@[simp] theorem Winder.setP_v (x : Winder) (n : BitVec 2) (v : Byte) : (x.setP n v).v = x.v := rfl
@[simp] theorem Winder.setP_loops (x : Winder) (n : BitVec 2) (v : Byte) : (x.setP n v).loops = x.loops := rfl
@[simp] theorem Winder.setP_cyc0 (x : Winder) (n : BitVec 2) (v : Byte) : (x.setP n v).cyc0 = x.cyc0 := rfl
@[simp] theorem Winder.setP_rem0 (x : Winder) (n : BitVec 2) (v : Byte) : (x.setP n v).rem0 = x.rem0 := rfl
@[simp] theorem Winder.setP_cycle (x : Winder) (n : BitVec 2) (v : Byte) : (x.setP n v).cycle = x.cycle := rfl
@[simp] theorem Winder.setP_ready (x : Winder) (n : BitVec 2) (v : Byte) : (x.setP n v).ready = x.ready := rfl
@[simp] theorem Winder.setP_portFree (x : Winder) (n : BitVec 2) (v : Byte) : (x.setP n v).portFree = x.portFree := rfl
@[simp] theorem Winder.setP_loads (x : Winder) (n : BitVec 2) (v : Byte) : (x.setP n v).loads = x.loads := rfl
@[simp] theorem Winder.setP_calFree (x : Winder) (n : BitVec 2) (v : Byte) : (x.setP n v).calFree = x.calFree := rfl
@[simp] theorem Winder.setP_localFree (x : Winder) (n : BitVec 2) (v : Byte) : (x.setP n v).localFree = x.localFree := rfl
@[simp] theorem Winder.setP_frameNo (x : Winder) (n : BitVec 2) (v : Byte) : (x.setP n v).frameNo = x.frameNo := rfl
@[simp] theorem Winder.setP_sfc (x : Winder) (n : BitVec 2) (v : Byte) : (x.setP n v).sfc = x.sfc := rfl
@[simp] theorem Winder.setP_allocN (x : Winder) (n : BitVec 2) (v : Byte) : (x.setP n v).allocN = x.allocN := rfl
@[simp] theorem Winder.setP_imem (x : Winder) (n : BitVec 2) (v : Byte) : (x.setP n v).imem = x.imem := rfl
@[simp] theorem Winder.setP_lmem (x : Winder) (n : BitVec 2) (v : Byte) : (x.setP n v).lmem = x.lmem := rfl
@[simp] theorem Winder.setLw_st (x : Winder) (a : Nat) (v : Word) : (x.setLw a v).st = x.st := rfl
@[simp] theorem Winder.setLw_port (x : Winder) (a : Nat) (v : Word) : (x.setLw a v).port = x.port := rfl
@[simp] theorem Winder.setLw_cause (x : Winder) (a : Nat) (v : Word) : (x.setLw a v).cause = x.cause := rfl
@[simp] theorem Winder.setLw_selfTest (x : Winder) (a : Nat) (v : Word) : (x.setLw a v).selfTest = x.selfTest := rfl
@[simp] theorem Winder.setLw_running (x : Winder) (a : Nat) (v : Word) : (x.setLw a v).running = x.running := rfl
@[simp] theorem Winder.setLw_pc (x : Winder) (a : Nat) (v : Word) : (x.setLw a v).pc = x.pc := rfl
@[simp] theorem Winder.setLw_g (x : Winder) (a : Nat) (v : Word) : (x.setLw a v).g = x.g := rfl
@[simp] theorem Winder.setLw_v (x : Winder) (a : Nat) (v : Word) : (x.setLw a v).v = x.v := rfl
@[simp] theorem Winder.setLw_p (x : Winder) (a : Nat) (v : Word) : (x.setLw a v).p = x.p := rfl
@[simp] theorem Winder.setLw_loops (x : Winder) (a : Nat) (v : Word) : (x.setLw a v).loops = x.loops := rfl
@[simp] theorem Winder.setLw_cyc0 (x : Winder) (a : Nat) (v : Word) : (x.setLw a v).cyc0 = x.cyc0 := rfl
@[simp] theorem Winder.setLw_rem0 (x : Winder) (a : Nat) (v : Word) : (x.setLw a v).rem0 = x.rem0 := rfl
@[simp] theorem Winder.setLw_cycle (x : Winder) (a : Nat) (v : Word) : (x.setLw a v).cycle = x.cycle := rfl
@[simp] theorem Winder.setLw_ready (x : Winder) (a : Nat) (v : Word) : (x.setLw a v).ready = x.ready := rfl
@[simp] theorem Winder.setLw_portFree (x : Winder) (a : Nat) (v : Word) : (x.setLw a v).portFree = x.portFree := rfl
@[simp] theorem Winder.setLw_loads (x : Winder) (a : Nat) (v : Word) : (x.setLw a v).loads = x.loads := rfl
@[simp] theorem Winder.setLw_calFree (x : Winder) (a : Nat) (v : Word) : (x.setLw a v).calFree = x.calFree := rfl
@[simp] theorem Winder.setLw_localFree (x : Winder) (a : Nat) (v : Word) : (x.setLw a v).localFree = x.localFree := rfl
@[simp] theorem Winder.setLw_frameNo (x : Winder) (a : Nat) (v : Word) : (x.setLw a v).frameNo = x.frameNo := rfl
@[simp] theorem Winder.setLw_sfc (x : Winder) (a : Nat) (v : Word) : (x.setLw a v).sfc = x.sfc := rfl
@[simp] theorem Winder.setLw_allocN (x : Winder) (a : Nat) (v : Word) : (x.setLw a v).allocN = x.allocN := rfl
@[simp] theorem Winder.setLw_imem (x : Winder) (a : Nat) (v : Word) : (x.setLw a v).imem = x.imem := rfl
@[simp] theorem Winder.writes_st (x : Winder) (t lat : Nat) (k : List Nat) : (x.writes t lat k).st = x.st := rfl
@[simp] theorem Winder.writes_port (x : Winder) (t lat : Nat) (k : List Nat) : (x.writes t lat k).port = x.port := rfl
@[simp] theorem Winder.writes_cause (x : Winder) (t lat : Nat) (k : List Nat) : (x.writes t lat k).cause = x.cause := rfl
@[simp] theorem Winder.writes_selfTest (x : Winder) (t lat : Nat) (k : List Nat) : (x.writes t lat k).selfTest = x.selfTest := rfl
@[simp] theorem Winder.writes_running (x : Winder) (t lat : Nat) (k : List Nat) : (x.writes t lat k).running = x.running := rfl
@[simp] theorem Winder.writes_pc (x : Winder) (t lat : Nat) (k : List Nat) : (x.writes t lat k).pc = x.pc := rfl
@[simp] theorem Winder.writes_g (x : Winder) (t lat : Nat) (k : List Nat) : (x.writes t lat k).g = x.g := rfl
@[simp] theorem Winder.writes_v (x : Winder) (t lat : Nat) (k : List Nat) : (x.writes t lat k).v = x.v := rfl
@[simp] theorem Winder.writes_p (x : Winder) (t lat : Nat) (k : List Nat) : (x.writes t lat k).p = x.p := rfl
@[simp] theorem Winder.writes_loops (x : Winder) (t lat : Nat) (k : List Nat) : (x.writes t lat k).loops = x.loops := rfl
@[simp] theorem Winder.writes_cyc0 (x : Winder) (t lat : Nat) (k : List Nat) : (x.writes t lat k).cyc0 = x.cyc0 := rfl
@[simp] theorem Winder.writes_rem0 (x : Winder) (t lat : Nat) (k : List Nat) : (x.writes t lat k).rem0 = x.rem0 := rfl
@[simp] theorem Winder.writes_cycle (x : Winder) (t lat : Nat) (k : List Nat) : (x.writes t lat k).cycle = x.cycle := rfl
@[simp] theorem Winder.writes_portFree (x : Winder) (t lat : Nat) (k : List Nat) : (x.writes t lat k).portFree = x.portFree := rfl
@[simp] theorem Winder.writes_loads (x : Winder) (t lat : Nat) (k : List Nat) : (x.writes t lat k).loads = x.loads := rfl
@[simp] theorem Winder.writes_calFree (x : Winder) (t lat : Nat) (k : List Nat) : (x.writes t lat k).calFree = x.calFree := rfl
@[simp] theorem Winder.writes_localFree (x : Winder) (t lat : Nat) (k : List Nat) : (x.writes t lat k).localFree = x.localFree := rfl
@[simp] theorem Winder.writes_frameNo (x : Winder) (t lat : Nat) (k : List Nat) : (x.writes t lat k).frameNo = x.frameNo := rfl
@[simp] theorem Winder.writes_sfc (x : Winder) (t lat : Nat) (k : List Nat) : (x.writes t lat k).sfc = x.sfc := rfl
@[simp] theorem Winder.writes_allocN (x : Winder) (t lat : Nat) (k : List Nat) : (x.writes t lat k).allocN = x.allocN := rfl
@[simp] theorem Winder.writes_imem (x : Winder) (t lat : Nat) (k : List Nat) : (x.writes t lat k).imem = x.imem := rfl
@[simp] theorem Winder.writes_lmem (x : Winder) (t lat : Nat) (k : List Nat) : (x.writes t lat k).lmem = x.lmem := rfl
@[simp] theorem Winder.retire_st (x : Winder) (t c : Nat) : (x.retire t c).st = x.st := rfl
@[simp] theorem Winder.retire_port (x : Winder) (t c : Nat) : (x.retire t c).port = x.port := rfl
@[simp] theorem Winder.retire_cause (x : Winder) (t c : Nat) : (x.retire t c).cause = x.cause := rfl
@[simp] theorem Winder.retire_selfTest (x : Winder) (t c : Nat) : (x.retire t c).selfTest = x.selfTest := rfl
@[simp] theorem Winder.retire_running (x : Winder) (t c : Nat) : (x.retire t c).running = x.running := rfl
@[simp] theorem Winder.retire_g (x : Winder) (t c : Nat) : (x.retire t c).g = x.g := rfl
@[simp] theorem Winder.retire_v (x : Winder) (t c : Nat) : (x.retire t c).v = x.v := rfl
@[simp] theorem Winder.retire_p (x : Winder) (t c : Nat) : (x.retire t c).p = x.p := rfl
@[simp] theorem Winder.retire_cyc0 (x : Winder) (t c : Nat) : (x.retire t c).cyc0 = x.cyc0 := rfl
@[simp] theorem Winder.retire_rem0 (x : Winder) (t c : Nat) : (x.retire t c).rem0 = x.rem0 := rfl
@[simp] theorem Winder.retire_ready (x : Winder) (t c : Nat) : (x.retire t c).ready = x.ready := rfl
@[simp] theorem Winder.retire_portFree (x : Winder) (t c : Nat) : (x.retire t c).portFree = x.portFree := rfl
@[simp] theorem Winder.retire_loads (x : Winder) (t c : Nat) : (x.retire t c).loads = x.loads := rfl
@[simp] theorem Winder.retire_calFree (x : Winder) (t c : Nat) : (x.retire t c).calFree = x.calFree := rfl
@[simp] theorem Winder.retire_localFree (x : Winder) (t c : Nat) : (x.retire t c).localFree = x.localFree := rfl
@[simp] theorem Winder.retire_frameNo (x : Winder) (t c : Nat) : (x.retire t c).frameNo = x.frameNo := rfl
@[simp] theorem Winder.retire_sfc (x : Winder) (t c : Nat) : (x.retire t c).sfc = x.sfc := rfl
@[simp] theorem Winder.retire_allocN (x : Winder) (t c : Nat) : (x.retire t c).allocN = x.allocN := rfl
@[simp] theorem Winder.retire_imem (x : Winder) (t c : Nat) : (x.retire t c).imem = x.imem := rfl
@[simp] theorem Winder.retire_lmem (x : Winder) (t c : Nat) : (x.retire t c).lmem = x.lmem := rfl
@[simp] theorem Winder.jump_st (x : Winder) (t c pc : Nat) : (x.jump t c pc).st = x.st := rfl
@[simp] theorem Winder.jump_port (x : Winder) (t c pc : Nat) : (x.jump t c pc).port = x.port := rfl
@[simp] theorem Winder.jump_cause (x : Winder) (t c pc : Nat) : (x.jump t c pc).cause = x.cause := rfl
@[simp] theorem Winder.jump_selfTest (x : Winder) (t c pc : Nat) : (x.jump t c pc).selfTest = x.selfTest := rfl
@[simp] theorem Winder.jump_running (x : Winder) (t c pc : Nat) : (x.jump t c pc).running = x.running := rfl
@[simp] theorem Winder.jump_g (x : Winder) (t c pc : Nat) : (x.jump t c pc).g = x.g := rfl
@[simp] theorem Winder.jump_v (x : Winder) (t c pc : Nat) : (x.jump t c pc).v = x.v := rfl
@[simp] theorem Winder.jump_p (x : Winder) (t c pc : Nat) : (x.jump t c pc).p = x.p := rfl
@[simp] theorem Winder.jump_loops (x : Winder) (t c pc : Nat) : (x.jump t c pc).loops = x.loops := rfl
@[simp] theorem Winder.jump_cyc0 (x : Winder) (t c pc : Nat) : (x.jump t c pc).cyc0 = x.cyc0 := rfl
@[simp] theorem Winder.jump_rem0 (x : Winder) (t c pc : Nat) : (x.jump t c pc).rem0 = x.rem0 := rfl
@[simp] theorem Winder.jump_ready (x : Winder) (t c pc : Nat) : (x.jump t c pc).ready = x.ready := rfl
@[simp] theorem Winder.jump_portFree (x : Winder) (t c pc : Nat) : (x.jump t c pc).portFree = x.portFree := rfl
@[simp] theorem Winder.jump_loads (x : Winder) (t c pc : Nat) : (x.jump t c pc).loads = x.loads := rfl
@[simp] theorem Winder.jump_calFree (x : Winder) (t c pc : Nat) : (x.jump t c pc).calFree = x.calFree := rfl
@[simp] theorem Winder.jump_localFree (x : Winder) (t c pc : Nat) : (x.jump t c pc).localFree = x.localFree := rfl
@[simp] theorem Winder.jump_frameNo (x : Winder) (t c pc : Nat) : (x.jump t c pc).frameNo = x.frameNo := rfl
@[simp] theorem Winder.jump_sfc (x : Winder) (t c pc : Nat) : (x.jump t c pc).sfc = x.sfc := rfl
@[simp] theorem Winder.jump_allocN (x : Winder) (t c pc : Nat) : (x.jump t c pc).allocN = x.allocN := rfl
@[simp] theorem Winder.jump_imem (x : Winder) (t c pc : Nat) : (x.jump t c pc).imem = x.imem := rfl
@[simp] theorem Winder.jump_lmem (x : Winder) (t c pc : Nat) : (x.jump t c pc).lmem = x.lmem := rfl
@[simp] theorem Winder.setG_st (x : Winder) (n : BitVec 5) (v : Word) : (x.setG n v).st = x.st := by unfold Winder.setG; split <;> rfl
@[simp] theorem Winder.setG_port (x : Winder) (n : BitVec 5) (v : Word) : (x.setG n v).port = x.port := by unfold Winder.setG; split <;> rfl
@[simp] theorem Winder.setG_cause (x : Winder) (n : BitVec 5) (v : Word) : (x.setG n v).cause = x.cause := by unfold Winder.setG; split <;> rfl
@[simp] theorem Winder.setG_selfTest (x : Winder) (n : BitVec 5) (v : Word) : (x.setG n v).selfTest = x.selfTest := by unfold Winder.setG; split <;> rfl
@[simp] theorem Winder.setG_running (x : Winder) (n : BitVec 5) (v : Word) : (x.setG n v).running = x.running := by unfold Winder.setG; split <;> rfl
@[simp] theorem Winder.setG_pc (x : Winder) (n : BitVec 5) (v : Word) : (x.setG n v).pc = x.pc := by unfold Winder.setG; split <;> rfl
@[simp] theorem Winder.setG_v (x : Winder) (n : BitVec 5) (v : Word) : (x.setG n v).v = x.v := by unfold Winder.setG; split <;> rfl
@[simp] theorem Winder.setG_p (x : Winder) (n : BitVec 5) (v : Word) : (x.setG n v).p = x.p := by unfold Winder.setG; split <;> rfl
@[simp] theorem Winder.setG_loops (x : Winder) (n : BitVec 5) (v : Word) : (x.setG n v).loops = x.loops := by unfold Winder.setG; split <;> rfl
@[simp] theorem Winder.setG_cyc0 (x : Winder) (n : BitVec 5) (v : Word) : (x.setG n v).cyc0 = x.cyc0 := by unfold Winder.setG; split <;> rfl
@[simp] theorem Winder.setG_rem0 (x : Winder) (n : BitVec 5) (v : Word) : (x.setG n v).rem0 = x.rem0 := by unfold Winder.setG; split <;> rfl
@[simp] theorem Winder.setG_cycle (x : Winder) (n : BitVec 5) (v : Word) : (x.setG n v).cycle = x.cycle := by unfold Winder.setG; split <;> rfl
@[simp] theorem Winder.setG_ready (x : Winder) (n : BitVec 5) (v : Word) : (x.setG n v).ready = x.ready := by unfold Winder.setG; split <;> rfl
@[simp] theorem Winder.setG_portFree (x : Winder) (n : BitVec 5) (v : Word) : (x.setG n v).portFree = x.portFree := by unfold Winder.setG; split <;> rfl
@[simp] theorem Winder.setG_loads (x : Winder) (n : BitVec 5) (v : Word) : (x.setG n v).loads = x.loads := by unfold Winder.setG; split <;> rfl
@[simp] theorem Winder.setG_calFree (x : Winder) (n : BitVec 5) (v : Word) : (x.setG n v).calFree = x.calFree := by unfold Winder.setG; split <;> rfl
@[simp] theorem Winder.setG_localFree (x : Winder) (n : BitVec 5) (v : Word) : (x.setG n v).localFree = x.localFree := by unfold Winder.setG; split <;> rfl
@[simp] theorem Winder.setG_frameNo (x : Winder) (n : BitVec 5) (v : Word) : (x.setG n v).frameNo = x.frameNo := by unfold Winder.setG; split <;> rfl
@[simp] theorem Winder.setG_sfc (x : Winder) (n : BitVec 5) (v : Word) : (x.setG n v).sfc = x.sfc := by unfold Winder.setG; split <;> rfl
@[simp] theorem Winder.setG_allocN (x : Winder) (n : BitVec 5) (v : Word) : (x.setG n v).allocN = x.allocN := by unfold Winder.setG; split <;> rfl
@[simp] theorem Winder.setG_imem (x : Winder) (n : BitVec 5) (v : Word) : (x.setG n v).imem = x.imem := by unfold Winder.setG; split <;> rfl
@[simp] theorem Winder.setG_lmem (x : Winder) (n : BitVec 5) (v : Word) : (x.setG n v).lmem = x.lmem := by unfold Winder.setG; split <;> rfl
@[simp] theorem Winder.setV_rg (x : Winder) (n : BitVec 4) (i : Nat) (v : Word) (m : BitVec 5) : (x.setV n i v).rg m = x.rg m := rfl
@[simp] theorem Winder.setP_rg (x : Winder) (n : BitVec 2) (v : Byte) (m : BitVec 5) : (x.setP n v).rg m = x.rg m := rfl
@[simp] theorem Winder.setLw_rg (x : Winder) (a : Nat) (v : Word) (m : BitVec 5) : (x.setLw a v).rg m = x.rg m := rfl
@[simp] theorem Winder.writes_rg (x : Winder) (t lat : Nat) (k : List Nat) (m : BitVec 5) : (x.writes t lat k).rg m = x.rg m := rfl
@[simp] theorem Winder.retire_rg (x : Winder) (t c : Nat) (m : BitVec 5) : (x.retire t c).rg m = x.rg m := rfl
@[simp] theorem Winder.jump_rg (x : Winder) (t c pc : Nat) (m : BitVec 5) : (x.jump t c pc).rg m = x.rg m := rfl
@[simp] theorem Winder.setP_rv (x : Winder) (n : BitVec 2) (v : Byte) (m : BitVec 4) (j : Nat) : (x.setP n v).rv m j = x.rv m j := rfl
@[simp] theorem Winder.setLw_rv (x : Winder) (a : Nat) (v : Word) (m : BitVec 4) (j : Nat) : (x.setLw a v).rv m j = x.rv m j := rfl
@[simp] theorem Winder.writes_rv (x : Winder) (t lat : Nat) (k : List Nat) (m : BitVec 4) (j : Nat) : (x.writes t lat k).rv m j = x.rv m j := rfl
@[simp] theorem Winder.retire_rv (x : Winder) (t c : Nat) (m : BitVec 4) (j : Nat) : (x.retire t c).rv m j = x.rv m j := rfl
@[simp] theorem Winder.jump_rv (x : Winder) (t c pc : Nat) (m : BitVec 4) (j : Nat) : (x.jump t c pc).rv m j = x.rv m j := rfl
@[simp] theorem Winder.setV_rp (x : Winder) (n : BitVec 4) (i : Nat) (v : Word) (m : BitVec 2) : (x.setV n i v).rp m = x.rp m := rfl
@[simp] theorem Winder.setLw_rp (x : Winder) (a : Nat) (v : Word) (m : BitVec 2) : (x.setLw a v).rp m = x.rp m := rfl
@[simp] theorem Winder.writes_rp (x : Winder) (t lat : Nat) (k : List Nat) (m : BitVec 2) : (x.writes t lat k).rp m = x.rp m := rfl
@[simp] theorem Winder.retire_rp (x : Winder) (t c : Nat) (m : BitVec 2) : (x.retire t c).rp m = x.rp m := rfl
@[simp] theorem Winder.jump_rp (x : Winder) (t c pc : Nat) (m : BitVec 2) : (x.jump t c pc).rp m = x.rp m := rfl
@[simp] theorem Winder.setV_lw (x : Winder) (n : BitVec 4) (i : Nat) (v : Word) (b : Nat) : (x.setV n i v).lw b = x.lw b := rfl
@[simp] theorem Winder.setP_lw (x : Winder) (n : BitVec 2) (v : Byte) (b : Nat) : (x.setP n v).lw b = x.lw b := rfl
@[simp] theorem Winder.writes_lw (x : Winder) (t lat : Nat) (k : List Nat) (b : Nat) : (x.writes t lat k).lw b = x.lw b := rfl
@[simp] theorem Winder.retire_lw (x : Winder) (t c : Nat) (b : Nat) : (x.retire t c).lw b = x.lw b := rfl
@[simp] theorem Winder.jump_lw (x : Winder) (t c pc : Nat) (b : Nat) : (x.jump t c pc).lw b = x.lw b := rfl
@[simp] theorem Winder.setG_rv (x : Winder) (n : BitVec 5) (v : Word) (m : BitVec 4) (j : Nat) : (x.setG n v).rv m j = x.rv m j := by unfold Winder.setG; split <;> rfl
@[simp] theorem Winder.setG_rp (x : Winder) (n : BitVec 5) (v : Word) (m : BitVec 2) : (x.setG n v).rp m = x.rp m := by unfold Winder.setG; split <;> rfl
@[simp] theorem Winder.setG_lw (x : Winder) (n : BitVec 5) (v : Word) (b : Nat) : (x.setG n v).lw b = x.lw b := by unfold Winder.setG; split <;> rfl

/-- A winder without its vector registers. -/
def Winder.sansV (x : Winder) : Winder := { x with v := [] }

theorem Winder.setVs_sans (x : Winder) (n : BitVec 4) (f : Nat → Word) : (x.setVs n f).sansV = x.sansV := by
  unfold Winder.setVs
  generalize List.range 8 = l
  induction l generalizing x with
  | nil => rfl
  | cons i l ih => rw [List.foldl_cons, ih]; rfl

@[simp] theorem Winder.setVs_st (x : Winder) (n : BitVec 4) (f : Nat → Word) : (x.setVs n f).st = x.st := (congrArg Winder.st (x.setVs_sans n f) :)
@[simp] theorem Winder.setVs_port (x : Winder) (n : BitVec 4) (f : Nat → Word) : (x.setVs n f).port = x.port := (congrArg Winder.port (x.setVs_sans n f) :)
@[simp] theorem Winder.setVs_cause (x : Winder) (n : BitVec 4) (f : Nat → Word) : (x.setVs n f).cause = x.cause := (congrArg Winder.cause (x.setVs_sans n f) :)
@[simp] theorem Winder.setVs_selfTest (x : Winder) (n : BitVec 4) (f : Nat → Word) : (x.setVs n f).selfTest = x.selfTest := (congrArg Winder.selfTest (x.setVs_sans n f) :)
@[simp] theorem Winder.setVs_running (x : Winder) (n : BitVec 4) (f : Nat → Word) : (x.setVs n f).running = x.running := (congrArg Winder.running (x.setVs_sans n f) :)
@[simp] theorem Winder.setVs_pc (x : Winder) (n : BitVec 4) (f : Nat → Word) : (x.setVs n f).pc = x.pc := (congrArg Winder.pc (x.setVs_sans n f) :)
@[simp] theorem Winder.setVs_g (x : Winder) (n : BitVec 4) (f : Nat → Word) : (x.setVs n f).g = x.g := (congrArg Winder.g (x.setVs_sans n f) :)
@[simp] theorem Winder.setVs_p (x : Winder) (n : BitVec 4) (f : Nat → Word) : (x.setVs n f).p = x.p := (congrArg Winder.p (x.setVs_sans n f) :)
@[simp] theorem Winder.setVs_loops (x : Winder) (n : BitVec 4) (f : Nat → Word) : (x.setVs n f).loops = x.loops := (congrArg Winder.loops (x.setVs_sans n f) :)
@[simp] theorem Winder.setVs_cyc0 (x : Winder) (n : BitVec 4) (f : Nat → Word) : (x.setVs n f).cyc0 = x.cyc0 := (congrArg Winder.cyc0 (x.setVs_sans n f) :)
@[simp] theorem Winder.setVs_rem0 (x : Winder) (n : BitVec 4) (f : Nat → Word) : (x.setVs n f).rem0 = x.rem0 := (congrArg Winder.rem0 (x.setVs_sans n f) :)
@[simp] theorem Winder.setVs_cycle (x : Winder) (n : BitVec 4) (f : Nat → Word) : (x.setVs n f).cycle = x.cycle := (congrArg Winder.cycle (x.setVs_sans n f) :)
@[simp] theorem Winder.setVs_ready (x : Winder) (n : BitVec 4) (f : Nat → Word) : (x.setVs n f).ready = x.ready := (congrArg Winder.ready (x.setVs_sans n f) :)
@[simp] theorem Winder.setVs_portFree (x : Winder) (n : BitVec 4) (f : Nat → Word) : (x.setVs n f).portFree = x.portFree := (congrArg Winder.portFree (x.setVs_sans n f) :)
@[simp] theorem Winder.setVs_loads (x : Winder) (n : BitVec 4) (f : Nat → Word) : (x.setVs n f).loads = x.loads := (congrArg Winder.loads (x.setVs_sans n f) :)
@[simp] theorem Winder.setVs_calFree (x : Winder) (n : BitVec 4) (f : Nat → Word) : (x.setVs n f).calFree = x.calFree := (congrArg Winder.calFree (x.setVs_sans n f) :)
@[simp] theorem Winder.setVs_localFree (x : Winder) (n : BitVec 4) (f : Nat → Word) : (x.setVs n f).localFree = x.localFree := (congrArg Winder.localFree (x.setVs_sans n f) :)
@[simp] theorem Winder.setVs_frameNo (x : Winder) (n : BitVec 4) (f : Nat → Word) : (x.setVs n f).frameNo = x.frameNo := (congrArg Winder.frameNo (x.setVs_sans n f) :)
@[simp] theorem Winder.setVs_sfc (x : Winder) (n : BitVec 4) (f : Nat → Word) : (x.setVs n f).sfc = x.sfc := (congrArg Winder.sfc (x.setVs_sans n f) :)
@[simp] theorem Winder.setVs_allocN (x : Winder) (n : BitVec 4) (f : Nat → Word) : (x.setVs n f).allocN = x.allocN := (congrArg Winder.allocN (x.setVs_sans n f) :)
@[simp] theorem Winder.setVs_imem (x : Winder) (n : BitVec 4) (f : Nat → Word) : (x.setVs n f).imem = x.imem := (congrArg Winder.imem (x.setVs_sans n f) :)
@[simp] theorem Winder.setVs_lmem (x : Winder) (n : BitVec 4) (f : Nat → Word) : (x.setVs n f).lmem = x.lmem := (congrArg Winder.lmem (x.setVs_sans n f) :)
@[simp] theorem Winder.setVs_rg (x : Winder) (n : BitVec 4) (f : Nat → Word) (m : BitVec 5) : (x.setVs n f).rg m = x.rg m := by simp [Winder.rg]
@[simp] theorem Winder.setVs_rp (x : Winder) (n : BitVec 4) (f : Nat → Word) (m : BitVec 2) : (x.setVs n f).rp m = x.rp m := by simp [Winder.rp]
@[simp] theorem Winder.setVs_lw (x : Winder) (n : BitVec 4) (f : Nat → Word) (b : Nat) : (x.setVs n f).lw b = x.lw b := by simp [Winder.lw]

/-! ### Issue -/

theorem Dev.issue_eq {d : Dev} {w : Nat} {keys : List Nat} {adj : Winder → Nat → Nat} {t : Nat} (h : d.Issues w keys adj t)
    (f : Nat → Winder → Dev → Option Dev) : d.issue w keys adj f = f t (d.winder w) (d.profIssue w t) := by
  obtain ⟨h1, h2, rfl, h4⟩ := h
  unfold Dev.issue
  simp [h1, h2, Nat.not_le.mpr h4]

theorem Dev.issueW_eq {d : Dev} {w : Nat} {keys : List Nat} {t : Nat} (h : d.Issues w keys noWait t) (f : Nat → Winder → Winder) :
    d.issueW w keys f = some ((d.profIssue w t).setWinder w (f t (d.winder w))) := by
  rw [Dev.issueW, Dev.issue_eq h]

/-- A row that its winder is at, and that breaks nothing, has its own effect. -/
theorem State.oliol_at (s : State) {w : Fin 80} {i : Instr} {keys : List Nat} {adj : Winder → Nat → Nat} {t : Nat}
    (h : s.dev.Issues w.val keys adj t) (hs : s.dev.Spells w i) (d : Dev) : s.oliol w i (some d) = .next (s.run d) := by
  have ha : s.dev.atRow w i = true := by simp [Dev.atRow, h.reached, h.running, show wordInstr w (s.dev.wordAt w.val) = _ from hs]
  have hb : (wordInstr w (s.dev.wordAt w.val)).2 = false := by rw [show wordInstr w (s.dev.wordAt w.val) = _ from hs]
  simp [State.oliol, State.next, Dev.oliol, ha, hb]

/-- One that breaks Table 6-21 is a mistake of its program. -/
theorem State.oliol_broken (s : State) {w : Fin 80} {i : Instr} (hu : s.dev.winderUp w.val = true) (hr : (s.dev.winder w.val).running = true)
    (hs : s.dev.Spells w i) : s.oliol w i none = .next (s.run (s.dev.oliolMistake w.val)) := by
  have ha : s.dev.atRow w i = true := by simp [Dev.atRow, hu, hr, show wordInstr w (s.dev.wordAt w.val) = _ from hs]
  have hb : (wordInstr w (s.dev.wordAt w.val)).2 = false := by rw [show wordInstr w (s.dev.wordAt w.val) = _ from hs]
  simp [State.oliol, State.next, Dev.oliol, ha, hb]

end Sys2Proof.Machine
end

