-- ==== Sys2Proof/Laws/Quiet.lean ====
section
/-! SUPPORT. Requests that write no host memory; what an Oliol instruction leaves alone, once for each kind of destination. -/
namespace Sys2Proof.Machine
open Sys2Proof

/-- Only the ring write writes host memory. -/
theorem BankOp.apply_quiet (op : BankOp) (b : Bank) (h : op ≠ .ringWrite) : (op.apply b).2 = [] := by
  cases op <;> first | rfl | exact absurd rfl h

/-- None of the requests is a ring write. -/
def quiet (l : List BankOp) : Prop := ∀ op ∈ l, op ≠ .ringWrite

theorem Dev.complete_quiet (d : Dev) (c : Tag) (st : Nat) (r : Bytes) (h : quiet d.outbox) : quiet (d.complete c st r).outbox := by
  unfold Dev.complete
  split
  · exact h
  · intro op ho
    rcases List.mem_append.1 ho with ho | ho
    · exact h op ho
    · rw [List.mem_singleton.1 ho]; exact fun e => by cases e

theorem foldl_quiet {β : Type} (f : Dev → β → Dev) (h : ∀ d b, quiet d.outbox → quiet (f d b).outbox) :
    ∀ (l : List β) (d : Dev), quiet d.outbox → quiet (l.foldl f d).outbox
  | [], _, hd => hd
  | b :: l, d, hd => foldl_quiet f h l (f d b) (h d b hd)

theorem State.deliver_quiet : ∀ (n : Nat) (s : State), quiet s.dev.outbox → (s.deliver n).mem = s.mem
  | 0, _, _ => rfl
  | n + 1, s, h => by
    unfold State.deliver
    split
    · rfl
    · rename_i op rest e
      rw [e] at h
      have h1 : op ≠ .ringWrite := h op (by simp)
      rw [State.deliver_quiet n]
      · simp [BankOp.apply_quiet op s.bank h1]
      · refine foldl_quiet _ (fun d ev hd => ?_) _ _ (fun o ho => h o (by simp [ho]))
        exact foldl_quiet _ (fun d c hd => Dev.complete_quiet d c _ _ hd) _ _ hd

theorem State.run_mem_quiet (s : State) (d : Dev) (h : quiet d.outbox) (hd : d.dma = []) : (s.run d).mem = s.mem := by
  unfold State.run
  rw [State.deliver_quiet _ _ h]
  simp [hd]

theorem Dev.emit_quiet (d : Dev) (ty src : Nat) (pl : Bytes) (h : quiet d.outbox) : quiet (d.emit ty src pl).outbox := by
  intro op ho
  rcases List.mem_append.1 ho with ho | ho
  · exact h op ho
  · rw [List.mem_singleton.1 ho]; exact fun e => by cases e

theorem Dev.profStop_quiet (d : Dev) (c r : Nat) (h : quiet d.outbox) : quiet (d.profStop c r).outbox := by
  unfold Dev.profStop
  dsimp only
  split
  · exact h
  · exact Dev.emit_quiet _ _ _ _ h

theorem Dev.profAdd_quiet (d : Dev) (c : Nat) (r : ProfRec) (t : Nat) (h : quiet d.outbox) : quiet (d.profAdd c r t).outbox := by
  unfold Dev.profAdd
  dsimp only
  split
  · exact h
  · generalize (if decide (4096 ≤ (d.cluster c).prof.recs.length) = true then (d.cluster c).prof.recs.drop 1
      else (d.cluster c).prof.recs) = l
    split
    · exact Dev.profStop_quiet _ _ _ h
    · exact h

theorem Dev.profIssue_quiet (d : Dev) (w t : Nat) (h : quiet d.outbox) : quiet (d.profIssue w t).outbox := by
  unfold Dev.profIssue
  dsimp only
  split
  · exact h
  · split
    · exact h
    · split
      · exact Dev.profAdd_quiet _ _ _ _ h
      · exact h

theorem Dev.profMark_quiet (d : Dev) (w t : Nat) (g : Half) (h : quiet d.outbox) : quiet (d.profMark w t g).outbox := by
  unfold Dev.profMark
  split
  · exact Dev.profAdd_quiet _ _ _ _ h
  · exact h

/-! ### Other clusters -/

theorem Dev.profStop_cluster (d : Dev) (c r j : Nat) (h : j ≠ c) : (d.profStop c r).cluster j = d.cluster j := by
  unfold Dev.profStop
  dsimp only
  split
  · rfl
  · rw [Dev.emit_cluster_at]; exact (Dev.modCluster_get ..).trans (if_neg h)

theorem Dev.profAdd_cluster (d : Dev) (c : Nat) (r : ProfRec) (t j : Nat) (h : j ≠ c) : (d.profAdd c r t).cluster j = d.cluster j := by
  unfold Dev.profAdd
  dsimp only
  split
  · rfl
  · generalize (if decide (4096 ≤ (d.cluster c).prof.recs.length) = true then (d.cluster c).prof.recs.drop 1
      else (d.cluster c).prof.recs) = l
    split
    · rw [Dev.profStop_cluster _ _ _ _ h]; exact (Dev.modCluster_get ..).trans (if_neg h)
    · exact (Dev.modCluster_get ..).trans (if_neg h)

theorem Dev.profIssue_cluster (d : Dev) (w t j : Nat) (h : j ≠ w / 5) : (d.profIssue w t).cluster j = d.cluster j := by
  unfold Dev.profIssue
  dsimp only
  split
  · rfl
  · split
    · exact (Dev.modCluster_get ..).trans (if_neg h)
    · split
      · rw [Dev.profAdd_cluster _ _ _ _ _ h]
        exact ((Dev.modCluster_get ..).trans (if_neg h)).trans ((Dev.modCluster_get ..).trans (if_neg h))
      · exact ((Dev.modCluster_get ..).trans (if_neg h)).trans ((Dev.modCluster_get ..).trans (if_neg h))

theorem Dev.profMark_cluster (d : Dev) (w t j : Nat) (g : Half) (h : j ≠ w / 5) : (d.profMark w t g).cluster j = d.cluster j := by
  unfold Dev.profMark
  split
  · exact Dev.profAdd_cluster _ _ _ _ _ h
  · rfl

/-! ### What an instruction leaves alone -/

/-- An instruction that records its issue and changes its winder leaves everything else alone. -/
theorem State.sameOutside (s : State) (hs : s.Settled) (w c : Nat) (y : Winder) :
    s.SameOutside (s.run ((s.dev.profIssue w c).setWinder w y)) w true where
  winders u hu := by simp [Dev.setWinder_get, hu]
  ports _ p := by simp
  mem a := by
    unfold State.byte
    rw [State.run_mem_quiet]
    · refine Dev.profIssue_quiet s.dev w c ?_
      rw [hs.outbox]; intro op ho; cases ho
    · simp [hs.dma]
  queue := by simp
  units := by simp
  clusters k hk := by
    rw [State.run_cluster, Dev.setWinder_cluster_at]
    exact Dev.profIssue_cluster _ _ _ _ hk

theorem sget_writes (x : Winder) (t lat : Nat) (keys : List Nat) (k : Nat) :
    sget (fun _ => 0) (x.writes t lat keys).ready k = if k ∈ keys then t + lat else sget (fun _ => 0) x.ready k := by
  unfold Winder.writes
  dsimp only
  generalize x.ready = m
  induction keys generalizing m with
  | nil => simp
  | cons j l ih =>
    rw [List.foldl_cons, ih, sget_sset]
    by_cases h1 : k ∈ l
    · simp [h1]
    · by_cases h2 : k = j <;> simp [h1, h2]

theorem Winder.retire_fellThrough (x y : Winder) (t cost : Nat) (hp : y.pc = x.pc) (hl : y.loops = x.loops) :
    x.FellThrough (y.retire t cost) t cost := by
  refine ⟨rfl, ?_, ?_⟩ <;> simp [Winder.retire, hp, hl]

@[simp] theorem State.run_winder_set (s : State) (d : Dev) (w : Nat) (y : Winder) : (s.run (d.setWinder w y)).dev.winder w = y := by
  simp [Dev.setWinder_get]

/-- The one register written, on the state that follows. -/
theorem State.onlyG (s : State) (hs : s.Settled) (w c : Nat) (rd : BitVec 5) (v : Word) (lat cost : Nat) :
    s.OnlyG (s.run ((s.dev.profIssue w c).setWinder w ((((s.dev.winder w).setG rd v).writes c lat (kG rd)).retire c cost)))
      w rd v c lat cost := by
  refine ⟨⟨fun n => ?_, ⟨(fun h => by cases h), fun _ _ _ => ?_, fun _ _ => ?_, fun _ _ => ?_⟩, fun k => ?_, ⟨?_, ?_, ?_, ?_, ?_, ?_, ?_, ?_, ?_, ?_⟩, ?_⟩,
    ⟨?_, ?_, ?_, ?_⟩, s.sameOutside hs w c _⟩ <;> rw [State.run_winder_set]
  · simp [Winder.rg_setG]
  iterate 3 simp
  · rw [Winder.retire_ready, sget_writes, Winder.setG_ready]
  iterate 10 simp
  · exact Winder.retire_fellThrough _ _ _ _ (by simp) (by simp)
  all_goals simp

theorem Winder.rv_setVs (x : Winder) (n m : BitVec 4) (f : Nat → Word) (i : Nat) (hi : i < 8) :
    (x.setVs n f).rv m i = if m = n then f i else x.rv m i := by
  unfold Winder.setVs
  simp only [show List.range 8 = [0, 1, 2, 3, 4, 5, 6, 7] from rfl, List.foldl_cons, List.foldl_nil]
  simp (disch := omega) only [Winder.rv_setV]
  by_cases h : m = n
  · subst h
    have : i = 0 ∨ i = 1 ∨ i = 2 ∨ i = 3 ∨ i = 4 ∨ i = 5 ∨ i = 6 ∨ i = 7 := by omega
    rcases this with rfl | rfl | rfl | rfl | rfl | rfl | rfl | rfl <;> simp
  · simp [h]

theorem State.onlyV (s : State) (hs : s.Settled) (w c : Nat) (vd : BitVec 4) (f : Nat → Word) (lat cost : Nat) :
    s.OnlyV (s.run ((s.dev.profIssue w c).setWinder w ((((s.dev.winder w).setVs vd f).writes c lat (kV vd)).retire c cost)))
      w vd f c lat cost := by
  refine ⟨⟨fun n i hi => ?_, ⟨fun _ _ => ?_, (fun h => by cases h), fun _ _ => ?_, fun _ _ => ?_⟩, fun k => ?_, ⟨?_, ?_, ?_, ?_, ?_, ?_, ?_, ?_, ?_, ?_⟩, ?_⟩,
    ⟨?_, ?_, ?_, ?_⟩, s.sameOutside hs w c _⟩ <;> rw [State.run_winder_set]
  · simp [Winder.rv_setVs _ _ _ _ _ hi]
  iterate 3 simp
  · rw [Winder.retire_ready, sget_writes, Winder.setVs_ready]
  iterate 10 simp
  · exact Winder.retire_fellThrough _ _ _ _ (by simp) (by simp)
  all_goals simp

theorem State.onlyP (s : State) (hs : s.Settled) (w c : Nat) (pd : BitVec 2) (v : Byte) (lat cost : Nat) :
    s.OnlyP (s.run ((s.dev.profIssue w c).setWinder w ((((s.dev.winder w).setP pd v).writes c lat (kP pd)).retire c cost)))
      w pd v c lat cost := by
  refine ⟨⟨fun n => ?_, ⟨fun _ _ => ?_, fun _ _ _ => ?_, (fun h => by cases h), fun _ _ => ?_⟩, fun k => ?_, ⟨?_, ?_, ?_, ?_, ?_, ?_, ?_, ?_, ?_, ?_⟩, ?_⟩,
    ⟨?_, ?_, ?_, ?_⟩, s.sameOutside hs w c _⟩ <;> rw [State.run_winder_set]
  · simp [Winder.rp_setP]
  iterate 3 simp
  · rw [Winder.retire_ready, sget_writes, Winder.setP_ready]
  iterate 10 simp
  · exact Winder.retire_fellThrough _ _ _ _ (by simp) (by simp)
  all_goals simp

end Sys2Proof.Machine
end

