-- ==== Sys2Proof/Tests/Slice0.lean ====
section
/-! SUPPORT. Own tests: ill-formed commands, states that meet the hypotheses of each statement, and results worked out by hand from the
manual's tables. -/
namespace Sys2Proof.Tests
open Sys2Proof Sys2Proof.Machine

/-! ### Small states -/

/-- A command's tag: ring 0, SEQ 7, no flags. -/
abbrev tg : Tag := ⟨0, 7, 0⟩

/-- An image of eight instructions with its entry point at 3. -/
abbrev im : Image := { code := List.replicate 8 0, entry := 3 }

/-- Host memory with a service entry at 0x1000 and an image of one instruction at 0x2000. -/
abbrev hostMem : Sparse Byte :=
  memWrite (memWrite [] 0x1000 [0, 0, 1]) 0x2000 [0x4C, 0x4F, 0, 0, 0, 0, 1, 0, 0, 0, 0, 0, 0x1C, 0xDF, 0x44, 0x21]

/-- The package after its start, with DRAM ready and an image in both halves of tree port 0. -/
abbrev up : State :=
  { dev := { board := { resetN := false, bootDone := true }, ddr := { ready := true },
             ports := [(0, { wnd := { winder := 0, image := true, img0 := im, img1 := im } })] }, mem := hostMem }

/-- Winder 0 runs a program: word `v` stands at its PC, 2, inside one loop of instructions 1 to 5; registers g1 to g4 hold small values, g5 the
last word of local memory, g6 the last word of the allocation window, and v1 holds 0 to 7. At local address 0x40, which g8 names, stands a list of
two demands: record 5 with 16 words and 1 of overhead, record 7 with 5 and 2. -/
abbrev wndAt (v : Word) : Winder :=
  { st := 1, running := true, pc := 2, rem0 := 100000
    g := [(1, 5), (2, 0xFFFFFFFF), (3, 3), (4, 0x80000000), (5, 0xFFFC), (6, 0x3FFFC), (7, 0xDFFC), (8, 0x40), (9, 0x100064), (10, 300), (12, 20)]
    v := [(9, 1), (10, 2), (11, 3), (12, 4), (13, 5), (14, 6), (15, 7)], p := [(1, 0x0F)], loops := [⟨1, 5, 3⟩], imem := [(2, v)]
    lmem := [(16, 2), (17, 5), (18, 0x10010), (19, 7), (20, 0x20005)] }

/-- The winder side of tree port 0: two reports of the frame to fetch, V at 100, record 9 at the head of calendar slot 3, and record 5 VALID,
best effort, with ALLOC_ID 1025 and terminal 1; record 7 has PREC 9. -/
abbrev side : WndPort :=
  { winder := 0, image := true, img0 := im, img1 := im, run := .running, v := 100
    rptSet := [{ ri := 7, bytes := 1500, sfc := 0 }, { ri := 8, bytes := 40, sfc := 0 }], cal := [(3, ⟨9, 9, 1⟩)]
    alloc := [(80, 0x10401), (81, 0x1000300), (114, 9)] }

/-- The package with that winder on tree port 0, whose main lane runs at generation 3; terminal 1 is ranged and a ranging window waits. -/
abbrev portAtRun : Port :=
  { counting := true, main := { st := .lit, gen := 3 }, terms := [(1, { state := 3 })], wnd := side
    profs := [(0, { valid := true, preLen := 4, patLen := 1, delLen := 4, guardBits := 32 })]
    rngReqs := [{ lane := .main, ranging := true, wUs := 20, prof := 0, term := 2 }] }

abbrev runAt (v : Word) : State :=
  { dev := { board := { resetN := false, bootDone := true }, ddr := { ready := true }, winders := [(0, wndAt v)], ports := [(0, portAtRun)] } }

/-- The same with nothing in the calendar, and PC at the end of two loop bodies. -/
abbrev runEnd (v : Word) : State :=
  { dev := { board := { resetN := false, bootDone := true }, ddr := { ready := true },
             winders := [(0, { wndAt v with loops := [⟨1, 2, 1⟩, ⟨0, 2, 2⟩] })], ports := [(0, { portAtRun with wnd := { side with cal := [] } })] } }

/-- The same with the calendar's link words open (Table 7-9). -/
abbrev runOpen (v : Word) : State :=
  { dev := { board := { resetN := false, bootDone := true }, ddr := { ready := true }, winders := [(0, wndAt v)],
             ports := [(0, { portAtRun with wnd := { side with calOpen := true } })] } }

theorem settled_up : up.Settled := ⟨by decide, rfl, rfl, fun i e h => by simp at h⟩
theorem settled_run (v : Word) : (runAt v).Settled := ⟨by rfl, rfl, rfl, fun i e h => by simp at h⟩
theorem settled_end (v : Word) : (runEnd v).Settled := ⟨by rfl, rfl, rfl, fun i e h => by simp at h⟩
theorem settled_open (v : Word) : (runOpen v).Settled := ⟨by rfl, rfl, rfl, fun i e h => by simp at h⟩
theorem open_up : up.Open := ⟨settled_up, rfl, rfl, by decide⟩
theorem new_up : up.New tg := fun a h => by simp at h
theorem booted_up : up.booted := ⟨rfl, rfl⟩

/-! ### Ill-formed commands -/

theorem test_wf_ploam : wellFormed (.treePloamSend tg 0 []) = false := by decide
theorem test_wf_i2c : wellFormed (.treeModuleI2c tg 0 0 0 0 1 []) = false := by decide
theorem test_wf_record : wellFormed (.wndAllocWrite tg 0 []) = false := by decide
theorem test_wf_action : wellFormed (.clsDefaultSet tg 0 []) = false := by decide
theorem test_wf_punt : wellFormed (.puntFrame 0 0 0 (List.replicate (2 ^ 16) 0) 0) = false := by
  simp only [wellFormed, List.length_replicate]; decide
theorem test_wf_start_cyc : wellFormed (.programStart 0 (2 ^ 32) 0) = false := by decide
theorem test_wf_start_rem : wellFormed (.programStart 0 0 (2 ^ 32)) = false := by decide
theorem test_wf_takeover_cyc : wellFormed (.wndSpareTakeover 0 (2 ^ 32) 0) = false := by decide
theorem test_wf_takeover_rem : wellFormed (.wndSpareTakeover 0 0 (2 ^ 32)) = false := by decide
theorem test_wf_item_ploam : wellFormed (.burstDelineation 0 0 [⟨0, 0, 0, .ploam []⟩]) = false := by decide
theorem test_wf_item_report : wellFormed (.burstDelineation 0 0 [⟨0, 0, 0, .report 0 true (2 ^ 32)⟩]) = false := by decide
theorem test_wf_discovery : wellFormed (.discoveryWindow 0 .main true [⟨0, 0, none, []⟩]) = false := by decide
theorem test_wf_ranging : wellFormed (.rangingWindow 0 .main (some (0, []))) = false := by decide
theorem test_wf_bucket : wellFormed (.sumpMove .svc 262144) = false := by decide
theorem test_wf_burst_none : wellFormed (.realTimeBurst 0 0 0 0 0) = false := by decide
theorem test_wf_burst_many : wellFormed (.realTimeBurst 0 65 0 0 0) = false := by decide
theorem test_wf_sensors : wellFormed (.tempSensorRead []) = false := by decide
theorem test_wf_i2c_done : wellFormed (.moduleI2cDone 0 (.ok (List.replicate 33 0))) = false := by decide
theorem test_wf_vrsum : wellFormed (.vrsum 0 1 1 (.zeroing 1)) = false := by decide
theorem test_wf_vrminu : wellFormed (.vrminu 0 1 1 (.zeroing 1)) = false := by decide
theorem test_wf_vrmaxu : wellFormed (.vrmaxu 0 1 1 (.zeroing 1)) = false := by decide
theorem test_wf_vrmini : wellFormed (.vrmini 0 1 1 (.zeroing 1)) = false := by decide
theorem test_wf_vrmaxi : wellFormed (.vrmaxi 0 1 1 (.zeroing 1)) = false := by decide
theorem test_wf_vft : wellFormed (.vft 0 1 2 (.vec 3) (.zeroing 1)) = false := by decide
theorem test_wf_good : wellFormed (.treePloamSend tg 0 (List.replicate 48 0)) = true := by decide

/-! ### Witnesses: Oliol. The words are those of Tables 6-4, 6-5, 6-8, 6-11 to 6-14 and 7-1 -/

theorem issue_free (x : Winder) (h : x.ready = []) (keys : List Nat) : x.issueAt keys = x.cycle := by
  unfold Winder.issueAt
  rw [h]
  induction keys with
  | nil => rfl
  | cons k l ih => rw [List.foldl_cons, show sget (fun _ => (0 : Nat)) [] k = 0 from rfl, Nat.max_zero]; exact ih

theorem wnd_run (v : Word) : (runAt v).dev.winder 0 = wndAt v := by rfl
theorem issues_run (v : Word) (keys : List Nat) : (runAt v).dev.Issues 0 keys noWait 0 :=
  ⟨by rfl, by rfl, by rw [wnd_run, issue_free _ rfl]; rfl, by rw [wnd_run]; exact (by decide : 0 < 100000)⟩
theorem issues_local (v : Word) (keys : List Nat) : (runAt v).dev.Issues 0 keys localAt 0 :=
  ⟨by rfl, by rfl, by rw [wnd_run, issue_free _ rfl]; rfl, by rw [wnd_run]; exact (by decide : 0 < 100000)⟩
theorem issues_load (v : Word) (keys : List Nat) : (runAt v).dev.Issues 0 keys loadAt 0 :=
  ⟨by rfl, by rfl, by rw [wnd_run, issue_free _ rfl]; rfl, by rw [wnd_run]; exact (by decide : 0 < 100000)⟩
theorem issues_port (v : Word) (keys : List Nat) : (runAt v).dev.Issues 0 keys portAt 0 :=
  ⟨by rfl, by rfl, by rw [wnd_run, issue_free _ rfl]; rfl, by rw [wnd_run]; exact (by decide : 0 < 100000)⟩
theorem issues_cal (v : Word) (keys : List Nat) : (runAt v).dev.Issues 0 keys calAt 0 :=
  ⟨by rfl, by rfl, by rw [wnd_run, issue_free _ rfl]; rfl, by rw [wnd_run]; exact (by decide : 0 < 100000)⟩
theorem issues_precut (v : Word) (keys : List Nat) : (runAt v).dev.Issues 0 keys precutAt 0 :=
  ⟨by rfl, by rfl, by rw [wnd_run, issue_free _ rfl]; rfl, by rw [wnd_run]; exact (by decide : 0 < 100000)⟩
theorem iw_one (x : Winder) (v : Word) (hi : x.imem = [(2, v)]) (hp : x.pc = 2) : x.iw false x.pc.toNat = v := by
  simp [Winder.iw, hi, hp, sget, b2n]
theorem word_run (v : Word) : (runAt v).dev.wordAt 0 = v := iw_one (wndAt v) v rfl rfl

/-- Each word spells its row, with no RSV bit set, so the state with that word at PC has the row spelled. -/
def spellsAll (l : List (Word × Instr)) : Prop := ∀ e ∈ l, (runAt e.1).dev.Spells 0 e.2
theorem spells_nil : spellsAll [] := fun _ h => nomatch h
theorem spells_cons {v : Word} {i : Instr} {l : List (Word × Instr)} (h : wordInstr 0 v = (Instr.spelled i, false)) (t : spellsAll l) :
    spellsAll ((v, i) :: l) := by
  intro e he
  rcases List.mem_cons.1 he with rfl | he
  · show wordInstr 0 ((runAt v).dev.wordAt 0) = _
    rw [word_run]
    exact h
  · exact t e he

/-- The words of the worked example of chapter 06 (the table of encodings before Table 6-16). -/
theorem test_words_of_the_manual : spellsAll [(0x40400020, .addi 0 2 0 32), (0x40600000, .addi 0 3 0 0), (0x9E040010, .loopi 0 32 16),
    (0x70828040, .lda 0 4 2 true 64), (0x00632000, .add 0 3 3 4)] := by repeat' first | exact spells_nil | refine spells_cons (by rfl) ?_
-- R195 and R219: opcodes and func codes that no table assigns execute as HALT.
theorem test_unassigned_halts : ∀ v ∈ [(0xB8000000 : Word), 0xBC000000, 0xE4000000, 0xEC000000, 0xFC000000, 0xA000001F, 0xC4000007],
    (wordInstr 0 v).1 = .halt 0 := by
  intro v hv
  simp only [List.mem_cons, List.not_mem_nil, or_false] at hv
  rcases hv with rfl | rfl | rfl | rfl | rfl | rfl | rfl <;> rfl

theorem wit_RegGroupResults : (∀ v, (runAt v).Settled ∧ (runAt v).dev.Issues 0 (kG 2 ++ kG 3 ++ kG 11) noWait 0 ∧
    (runAt v).dev.Issues 0 (kG 11) noWait 0) ∧
    spellsAll [(0x01621800, .add 0 11 2 3), (0x05621800, .sub 0 11 2 3), (0x09621800, .andR 0 11 2 3), (0x0D621800, .orR 0 11 2 3), (0x11621800, .xorR 0 11 2 3), (0x15621800, .shl 0 11 2 3), (0x19621800, .shr 0 11 2 3),
      (0x1D621800, .sar 0 11 2 3), (0x21621800, .mul 0 11 2 3), (0x25621800, .mulhu 0 11 2 3), (0x29621800, .minu 0 11 2 3), (0x2D621800, .maxu 0 11 2 3), (0x31621800, .slt 0 11 2 3), (0x35621800, .sltu 0 11 2 3),
      (0x39621800, .subsat 0 11 2 3), (0x3D7F0000, .mfs 0 11 31)] :=
  ⟨fun v => ⟨settled_run v, issues_run v _, issues_run v _⟩, by repeat' first | exact spells_nil | refine spells_cons (by rfl) ?_⟩
theorem wit_ImmGroupResults : (∀ v, (runAt v).Settled ∧ (runAt v).dev.Issues 0 (kG 1 ++ kG 11) noWait 0 ∧
    (runAt v).dev.Issues 0 (kG 11) noWait 0) ∧
    spellsAll [(0x4161FFFF, .addi 0 11 1 0xFFFF), (0x4561FFFF, .andi 0 11 1 0xFFFF), (0x4961FFFF, .ori 0 11 1 0xFFFF), (0x4D61FFFF, .xori 0 11 1 0xFFFF), (0x5961FFFF, .slti 0 11 1 0xFFFF),
      (0x5D61FFFF, .sltiu 0 11 1 0xFFFF), (0x5561001F, .shli 0 11 1 31), (0x5561003F, .shri 0 11 1 31), (0x5561005F, .sari 0 11 1 31), (0x5561007F, .rori 0 11 1 31), (0x51608001, .lui 0 11 0x8001)] :=
  ⟨fun v => ⟨settled_run v, issues_run v _, issues_run v _⟩, by repeat' first | exact spells_nil | refine spells_cons (by rfl) ?_⟩
theorem wit_ValuResults : (∀ v, (runAt v).Settled ∧
    (runAt v).dev.Issues 0 (kV 1 ++ vecKeys (.sca 31) ++ predKeys (.zeroing 1) ++ kV 15) noWait 0) ∧
    spellsAll [(0xA1E1FCC0, .vadd 0 15 1 (.sca 31) (.zeroing 1)), (0xA1E1FCC1, .vsub 0 15 1 (.sca 31) (.zeroing 1)), (0xA1E1FCC2, .vand 0 15 1 (.sca 31) (.zeroing 1)),
      (0xA1E1FCC3, .vor 0 15 1 (.sca 31) (.zeroing 1)), (0xA1E1FCC4, .vxor 0 15 1 (.sca 31) (.zeroing 1)), (0xA1E1FCC5, .vshl 0 15 1 (.sca 31) (.zeroing 1)),
      (0xA1E1FCC6, .vshr 0 15 1 (.sca 31) (.zeroing 1)), (0xA1E1FCC7, .vsar 0 15 1 (.sca 31) (.zeroing 1)), (0xA1E1FCC8, .vmul 0 15 1 (.sca 31) (.zeroing 1)),
      (0xA1E1FCC9, .vmulhu 0 15 1 (.sca 31) (.zeroing 1)), (0xA1E1FCCA, .vminu 0 15 1 (.sca 31) (.zeroing 1)), (0xA1E1FCCB, .vmaxu 0 15 1 (.sca 31) (.zeroing 1)),
      (0xA1E1FCCC, .vsubsat 0 15 1 (.sca 31) (.zeroing 1))] :=
  ⟨fun v => ⟨settled_run v, issues_run v _⟩, by repeat' first | exact spells_nil | refine spells_cons (by rfl) ?_⟩
theorem wit_VcmpResults : (∀ v, (runAt v).Settled ∧ (runAt v).dev.Issues 0 (kV 1 ++ vecKeys (.vec 2) ++ predKeys .all ++ kP 3) noWait 0) ∧
    spellsAll [(0xA4611200, .vceq 0 3 1 (.vec 2) .all), (0xA4611201, .vcne 0 3 1 (.vec 2) .all), (0xA4611202, .vcltu 0 3 1 (.vec 2) .all), (0xA4611203, .vclt 0 3 1 (.vec 2) .all),
      (0xA4611204, .vcgeu 0 3 1 (.vec 2) .all), (0xA4611205, .vcge 0 3 1 (.vec 2) .all)] :=
  ⟨fun v => ⟨settled_run v, issues_run v _⟩, by repeat' first | exact spells_nil | refine spells_cons (by rfl) ?_⟩
theorem wit_VselVredVlaneResults : (∀ v, (runAt v).Settled ∧ (runAt v).dev.Issues 0 (kV 1 ++ vecKeys (.vec 2) ++ kP 1 ++ kV 3) noWait 0 ∧
    (runAt v).dev.Issues 0 (kV 1 ++ predKeys (.merging 1) ++ kG 3) noWait 0 ∧
    (runAt v).dev.Issues 0 (kG 1 ++ predKeys (.merging 1) ++ kV 3) noWait 0 ∧ (runAt v).dev.Issues 0 (predKeys (.merging 1) ++ kV 3) noWait 0 ∧
    (runAt v).dev.Issues 0 (kG 1 ++ kV 3) noWait 0 ∧ (runAt v).dev.Issues 0 (kV 1 ++ kG 3) noWait 0) ∧ (Pred.merging 1).noZero = true ∧
    spellsAll [(0xA8611080, .vsel 0 3 1 (.vec 2) 1), (0xAC610080, .vrsum 0 3 1 (.merging 1)), (0xAC610081, .vrminu 0 3 1 (.merging 1)), (0xAC610082, .vrmaxu 0 3 1 (.merging 1)),
      (0xAC610083, .vrmini 0 3 1 (.merging 1)), (0xAC610084, .vrmaxi 0 3 1 (.merging 1)), (0xB0610080, .vbc 0 3 1 (.merging 1)), (0xB0600081, .vidx 0 3 (.merging 1)), (0xB0613802, .vins 0 3 1 7),
      (0xB0613803, .vext 0 3 1 7)] :=
  ⟨fun v => ⟨settled_run v, issues_run v _, issues_run v _, issues_run v _, issues_run v _, issues_run v _, issues_run v _⟩, rfl,
    by repeat' first | exact spells_nil | refine spells_cons (by rfl) ?_⟩
theorem wit_VpredResults : (∀ v, (runAt v).Settled ∧ (runAt v).dev.Issues 0 (kP 1 ++ kP 2 ++ kP 3) noWait 0 ∧
    (runAt v).dev.Issues 0 (kP 3) noWait 0 ∧ (runAt v).dev.Issues 0 (kP 1 ++ kP 3) noWait 0 ∧ (runAt v).dev.Issues 0 (kP 1 ++ kG 11) noWait 0 ∧
    (runAt v).dev.Issues 0 (kG 1 ++ kP 3) noWait 0) ∧
    spellsAll [(0xB4611000, .pand 0 3 1 2), (0xB4611001, .por 0 3 1 2), (0xB4611002, .pxor 0 3 1 2), (0xB4611003, .pandn 0 3 1 2), (0xB460FF04, .pset 0 3 0xFF), (0xB4610005, .pfirst 0 3 1), (0xB5610006, .pcnt 0 11 1),
      (0xB5610007, .ptog 0 11 1), (0xB4610008, .pfromg 0 3 1)] :=
  ⟨fun v => ⟨settled_run v, issues_run v _, issues_run v _, issues_run v _, issues_run v _, issues_run v _⟩,
    by repeat' first | exact spells_nil | refine spells_cons (by rfl) ?_⟩
/-- g5 is the last word, which a load may read; g7 the last one below the calendar's link words, which a store may write; `runEnd`'s calendar is
empty, and there the last word may be written too. -/
theorem wit_LocalMemoryAccess : (∀ v, (runAt v).Settled ∧ (runAt v).dev.Issues 0 (kG 5 ++ kG 1) localAt 0 ∧
    (runAt v).dev.Issues 0 (kG 7 ++ kG 1) localAt 0 ∧ (runAt v).dev.Issues 0 (kG 5 ++ kV 1) localAt 0 ∧
    (runAt v).dev.Issues 0 (kG 7 ++ kV 1) localAt 0) ∧
    ((wndAt 0).rg 5).toNat / 4 * 4 = 0x10000 - 4 ∧ ((wndAt 0).rg 5).toNat / 32 * 32 = 0x10000 - 32 ∧
    ((wndAt 0).rg 7).toNat / 4 * 4 = 0xE000 - 4 ∧ ((wndAt 0).rg 7).toNat / 32 * 32 = 0xE000 - 32 ∧ (runEnd 0).dev.calBusy 0 = false ∧
    spellsAll [(0x60258004, .ldw 0 1 5 true 4), (0x64278004, .stw 0 1 7 true 4), (0x68258004, .ldv 0 1 5 true 4), (0x6C278004, .stv 0 1 7 true 4)] :=
  ⟨fun v => ⟨settled_run v, issues_local v _, issues_local v _, issues_local v _, issues_local v _⟩, by decide, by decide, by decide, by decide,
    by decide, by repeat' first | exact spells_nil | refine spells_cons (by rfl) ?_⟩
theorem wit_AllocationLoads : (∀ v, (runAt v).Settled ∧ (runAt v).dev.Issues 0 (kG 6 ++ kG 1) loadAt 0 ∧
    (runAt v).dev.Issues 0 (kG 6 ++ kV 1) loadAt 0 ∧ (runAt v).dev.Issues 0 (kV 1 ++ kV 2) loadAt 0) ∧
    ((wndAt 0).rg 6).toNat / 4 * 4 = 0x40000 - 4 ∧ ((wndAt 0).rg 6).toNat / 32 * 32 < 0x40000 ∧
    (∀ i, i < 8 → ((wndAt 0).rv 1 i).toNat / 4 * 4 < 0x40000) ∧
    spellsAll [(0x70268040, .lda 0 1 6 true 64), (0x78268040, .ldav 0 1 6 true 64), (0x7C418040, .ldag 0 2 1 true 64)] :=
  ⟨fun v => ⟨settled_run v, issues_load v _, issues_load v _, issues_load v _⟩, by decide, by decide, by decide,
    by repeat' first | exact spells_nil | refine spells_cons (by rfl) ?_⟩
theorem wit_AllocationStore : (∀ v, (runAt v).Settled ∧ (runAt v).dev.Issues 0 (kG 6 ++ kG 1) portAt 0) ∧
    ((wndAt 0).rg 6).toNat / 4 * 4 = 0x40000 - 4 ∧ spellsAll [(0x74268000, .sta 0 1 6 true 0)] :=
  ⟨fun v => ⟨settled_run v, issues_port v _⟩, by decide, by repeat' first | exact spells_nil | refine spells_cons (by rfl) ?_⟩
/-- Offset 4 leads to the last instruction of the image, and out of the loop. -/
theorem wit_BranchResults : (∀ v, (runAt v).Settled ∧ (runAt v).dev.Issues 0 (kG 1 ++ kG 2) noWait 0 ∧ (runAt v).dev.icount 0 = 8) ∧
    (∀ e ∈ (wndAt 0).loops, e.stop ≠ (wndAt 0).pc.toNat) ∧ (((wndAt 0).pc.toNat : Int) + 1 + (4 : Half).toInt) % 4096 = 8 - 1 ∧
    spellsAll [(0x80220004, .beq 0 1 2 4), (0x84220004, .bne 0 1 2 4), (0x88220004, .blt 0 1 2 4), (0x8C220004, .bge 0 1 2 4), (0x90220004, .bltu 0 1 2 4), (0x94220004, .bgeu 0 1 2 4)] :=
  ⟨fun v => ⟨settled_run v, issues_run v _, by rfl⟩, by decide, by decide,
    by repeat' first | exact spells_nil | refine spells_cons (by rfl) ?_⟩
theorem wit_JumpResults : (∀ v, (runAt v).Settled ∧ (runAt v).dev.Issues 0 (kG 11) noWait 0 ∧ (runAt v).dev.Issues 0 (kG 3 ++ kG 11) noWait 0 ∧
    (runAt v).dev.icount 0 = 8) ∧ (∀ e ∈ (wndAt 0).loops, e.stop ≠ (wndAt 0).pc.toNat) ∧ ((wndAt 0).rg 3).toNat % 4096 < 8 ∧
    spellsAll [(0x99600007, .jal 0 11 7), (0x99638000, .jalr 0 11 3)] :=
  ⟨fun v => ⟨settled_run v, issues_run v _, issues_run v _, by rfl⟩, by decide, by decide,
    by repeat' first | exact spells_nil | refine spells_cons (by rfl) ?_⟩
/-- A body of three instructions that shares its end, 5, with the loop around it; g3 holds 3 passes, and g0 none. -/
theorem wit_LoopResults : (∀ v, (runAt v).Settled ∧ (runAt v).dev.Issues 0 (kG 3) noWait 0 ∧ (runAt v).dev.Issues 0 (kG 0) noWait 0 ∧
    (runAt v).dev.Issues 0 [] noWait 0 ∧ (runAt v).dev.icount 0 = 8) ∧
    (let x := wndAt 0
     x.pc.toNat + 3 ≤ 4095 ∧ x.pc.toNat + 3 < 8 ∧ x.loops.length < 4 ∧ (x.rg 3).toNat = 3 ∧ (x.rg 0).toNat = 0 ∧
     ∀ e ∈ x.loops, e.stop ≠ x.pc.toNat ∧ x.pc.toNat + 3 ≤ e.stop) ∧
    spellsAll [(0x9C300003, .loopR 0 3 3), (0x9C000003, .loopR 0 0 3), (0x9FFFE003, .loopi 0 4095 3), (0x9E000003, .loopi 0 0 3)] :=
  ⟨fun v => ⟨settled_run v, issues_run v _, issues_run v _, issues_run v _, by rfl⟩, by decide,
    by repeat' first | exact spells_nil | refine spells_cons (by rfl) ?_⟩
/-- The profiler of cluster 0 records tree port 0. -/
abbrev prof (v : Word) : State :=
  { runAt v with dev := { (runAt v).dev with clusters := [(0, { prof := { on := true, set := ⟨0, 0, true, 0, 4095, 0, 0, 0⟩ } })] } }
theorem wit_SystemResults : (∀ v, (runAt v).Settled ∧ (runAt v).dev.Issues 0 (kG 1) noWait 0 ∧ (runAt v).dev.Issues 0 [] noWait 0 ∧
    ((runAt v).dev.winder 0).port < 64 ∧ ((runAt v).dev.port ((runAt v).dev.winder 0).port).wnd.winder = 0) ∧
    (prof 0xF4001234).dev.profWatches 0 = true ∧ (((prof 0xF4001234).dev.profIssue 0 0).cluster 0).prof.on = true ∧
    (prof 0xF4001234).dev.Spells 0 (.sample 0 0x1234) ∧ spellsAll [(0xF0010003, .wait 0 1 3), (0xF4001234, .sample 0 0x1234), (0xF8000000, .halt 0)] :=
  ⟨fun v => ⟨settled_run v, issues_run v _, issues_run v _, by rw [wnd_run]; exact (by decide : 0 < 64), by rfl⟩, by decide, by decide, by rfl,
    by repeat' first | exact spells_nil | refine spells_cons (by rfl) ?_⟩
theorem wit_FinishTags : (∀ v, (runAt v).Settled ∧
    (runAt v).dev.Issues 0 (kV 1 ++ vecKeys (.sca 3) ++ predKeys (.merging 1) ++ kV 2) noWait 0) ∧ (Pred.merging 1).noZero = true ∧
    spellsAll [(0xC0411C80, .vft 0 2 1 (.sca 3) (.merging 1))] :=
  ⟨fun v => ⟨settled_run v, issues_run v _⟩, rfl, by repeat' first | exact spells_nil | refine spells_cons (by rfl) ?_⟩
theorem wit_VirtualTime : (∀ v, (runAt v).Settled ∧ (runAt v).dev.Issues 0 (kG 11) noWait 0 ∧ (runAt v).dev.Issues 0 (kG 2 ++ kG 11) noWait 0 ∧
    (runAt v).dev.Issues 0 (kG 2) noWait 0) ∧ spellsAll [(0xC5600000, .vtnow 0 11), (0xC5620001, .vtadv 0 11 2), (0xC4020002, .vtset 0 2), (0xC4020003, .vtshift 0 2)] :=
  ⟨fun v => ⟨settled_run v, issues_run v _, issues_run v _, issues_run v _⟩,
    by repeat' first | exact spells_nil | refine spells_cons (by rfl) ?_⟩
/-- g3 names slot 3, whose one record is 9; slot 5, which g1 names, is empty. -/
theorem wit_CalendarWheel : (∀ v, (runAt v).Settled ∧ (runAt v).dev.Issues 0 (kG 3 ++ kG 2 ++ kG 11) calAt 0 ∧
    (runAt v).dev.Issues 0 (kG 3 ++ kG 11) calAt 0 ∧ ((runAt v).dev.port 0).wnd.calOpen = false ∧ ((runOpen v).dev.port 0).wnd.calOpen = true ∧
    (runOpen v).Settled) ∧ (wndAt 0).member 9 = false ∧ ((wndAt 0).setLink 9 0x8000).member 9 = true ∧
    (sget (fun _ => ({} : CalSlot)) side.cal 3).count ≠ 0 ∧ (sget (fun _ => ({} : CalSlot)) side.cal 5).count = 0 ∧
    spellsAll [(0xC9631000, .calins 0 11 3 2), (0xCD630000, .calpop 0 11 3), (0xCD630001, .calcnt 0 11 3)] :=
  ⟨fun v => ⟨settled_run v, issues_cal v _, issues_cal v _, by rfl, by rfl, settled_open v⟩, by decide, by decide, by decide, by decide,
    by repeat' first | exact spells_nil | refine spells_cons (by rfl) ?_⟩
theorem wit_ReportFetch : (∀ v, (runAt v).Settled ∧ (runAt v).dev.Issues 0 (kG 11 ++ kG 12) noWait 0 ∧ (runAt v).dev.Issues 0 (kG 11) noWait 0) ∧
    (11 : BitVec 5) ≠ 12 ∧ spellsAll [(0xD1606000, .rptget 0 11 12), (0xD1600001, .rptcnt 0 11)] :=
  ⟨fun v => ⟨settled_run v, issues_run v _, issues_run v _⟩, by decide, by repeat' first | exact spells_nil | refine spells_cons (by rfl) ?_⟩
/-- g1 holds 5: record 5 on the main lane; g9 start 100 and 16 words; g10 word 300, for a window; g8 the list of two demands. -/
theorem wit_MapInstructions : (∀ v, (runAt v).Settled ∧ (runAt v).dev.Issues 0 (kG 1 ++ kG 11) noWait 0 ∧
    (runAt v).dev.Issues 0 (kG 1 ++ kG 9 ++ kG 11) noWait 0 ∧ (runAt v).dev.Issues 0 (kG 0 ++ kG 10 ++ kG 11) noWait 0 ∧
    (runAt v).dev.Issues 0 (kG 8 ++ kG 10 ++ kG 11) precutAt 0 ∧ ((runAt v).dev.port 0).wnd.odd = false ∧
    ((runAt v).dev.port 0).oldestReq .main = some { lane := .main, ranging := true, wUs := 20, prof := 0, term := 2 }) ∧
    (let x := wndAt 0
     (x.rg 1).toNat / 2 ^ 20 = 0 ∧ (x.rg 1).toNat / 2 ^ 14 % 4 = 0 ∧ (x.rg 0).toNat / 2 % 2 ^ 15 = 0 ∧ (x.rg 10).toNat / 2 ^ 16 = 0 ∧
     (x.rg 8).toNat / 4 * 4 = 0x40 ∧ (x.lw 0x40).toNat = 2 ∧ (x.lw 0x44).toNat = 5 ∧ (x.lw 0x4C).toNat = 7 ∧ 0x40 + 4 + 8 * 2 ≤ 0xE000) ∧
    spellsAll [(0xD9610001, .rngtail 0 11 1), (0xD5614800, .grant 0 11 1 9), (0xD9605000, .rngwin 0 11 0 10), (0xDD685000, .precut 0 11 8 10)] :=
  ⟨fun v => ⟨settled_run v, issues_run v _, issues_run v _, issues_run v _, issues_precut v _, by rfl, by rfl⟩, by decide,
    by repeat' first | exact spells_nil | refine spells_cons (by rfl) ?_⟩
/-- SEAL in good time, and with SEALREM below 16. -/
abbrev late (v : Word) : State :=
  { dev := { (runAt v).dev with winders := [(0, { wndAt v with rem0 := 15 })] } }
theorem wit_SealCloses : (∀ v, (runAt v).Settled ∧ (runAt v).dev.Issues 0 [] noWait 0 ∧ ((runAt v).dev.winder 0).port < 64 ∧
    ((runAt v).dev.port ((runAt v).dev.winder 0).port).wnd.winder = 0) ∧ 16 ≤ (wndAt 0).rem0 - 0 ∧
    (late 0xE0000000).Settled ∧ (late 0xE0000000).dev.Issues 0 [] noWait 0 ∧ (late 0xE0000000).dev.Spells 0 (.sealMap 0 false) ∧
    ((late 0xE0000000).dev.winder 0).rem0 - 0 < 16 ∧ spellsAll [(0xE0000000, .sealMap 0 true), (0xE0000000, .sealMap 0 false)] :=
  ⟨fun v => ⟨settled_run v, issues_run v _, by rw [wnd_run]; exact (by decide : 0 < 64), by rfl⟩, by decide, ⟨by decide, rfl, rfl, fun i e h => by simp at h⟩,
    ⟨by rfl, by rfl, by decide, by decide⟩, by rfl, by decide, by repeat' first | exact spells_nil | refine spells_cons (by rfl) ?_⟩
/-- ADD with bit 0 set; g2 lies outside every memory, g5 under the calendar's words; in `runEnd` the instruction ends two loops; local word 1, which g1
names, is 0, and g2's a list outside local memory. -/
theorem wit_ProgramMistakesAreBounded : (∀ v, (runAt v).Settled ∧ (∀ keys, (runAt v).dev.Issues 0 keys noWait 0 ∧
      (runAt v).dev.Issues 0 keys localAt 0 ∧ (runAt v).dev.Issues 0 keys loadAt 0 ∧ (runAt v).dev.Issues 0 keys portAt 0 ∧
      (runAt v).dev.Issues 0 keys precutAt 0) ∧ (runAt v).dev.calBusy 0 = true ∧ (runAt v).dev.icount 0 = 8 ∧
      (runEnd v).Settled ∧ (∃ e ∈ ((runEnd v).dev.winder 0).loops, e.stop = ((runEnd v).dev.winder 0).pc.toNat)) ∧
    (wordInstr 0 ((runAt 0x01021801).dev.wordAt 0)).2 = true ∧ (runAt 0x01021801).dev.winderUp 0 = true ∧
    (let x := wndAt 0
     0x40000 ≤ (x.rg 2).toNat / 32 * 32 ∧ 0xE000 ≤ (x.rg 5).toNat / 32 * 32 ∧ (x.rg 5).toNat < 0x10000 ∧
     (∃ i, i < 8 ∧ 0x40000 ≤ (x.rv 1 i + (0x7FFF : BitVec 15).signExtend 32).toNat / 4 * 4) ∧
     (x.rg 4).toNat / 2 ^ 20 ≠ 0 ∧ (x.rg 2).toNat / 2 % 2 ^ 15 ≠ 0 ∧ 0x10000 < (x.rg 2).toNat / 4 * 4 + 4 ∧ 4096 < (x.rg 2).toNat ∧
     8 ≤ (x.rg 1).toNat % 4096 + 3) ∧
    spellsAll [(0x60220000, .ldw 0 1 2 false 0), (0x64220000, .stw 0 1 2 false 0), (0x68220000, .ldv 0 1 2 false 0), (0x6C220000, .stv 0 1 2 false 0), (0x64250000, .stw 0 1 5 false 0),
      (0x6C250000, .stv 0 1 5 false 0), (0x70220000, .lda 0 1 2 false 0), (0x74220000, .sta 0 1 2 false 0), (0x78220000, .ldav 0 1 2 false 0), (0x7C417FFF, .ldag 0 2 1 false 0x7FFF),
      (0x80220005, .beq 0 1 2 5), (0x99600008, .jal 0 11 8), (0x996A8000, .jalr 0 11 10), (0x9C200003, .loopR 0 2 3), (0x9E002000, .loopi 0 1 0), (0xD5641800, .grant 0 11 4 3), (0xD9621800, .rngwin 0 11 2 3),
      (0xDD620800, .precut 0 11 2 1)] :=
  ⟨fun v => ⟨settled_run v, fun _ => ⟨issues_run v _, issues_local v _, issues_load v _, issues_port v _, issues_precut v _⟩, by rfl, by rfl,
      settled_end v, by exact ⟨_, List.mem_cons_self, rfl⟩⟩, by rfl, by rfl, by decide,
    by repeat' first | exact spells_nil | refine spells_cons (by rfl) ?_⟩

/-! ### Witnesses: host commands -/

/-- The device is ready for a command, checked. -/
def readyB (s : State) (i : Instr) (c : Tag) (obj : Word) (h : HostCmd) : Bool :=
  s.dev.board.bootDone && !s.bank.stalled && decide (s.dev.active s.bank c.ring < 256) && !s.dev.ringHolds c && !s.dev.outOfTurn c.ring &&
    !s.dev.objBusy i obj && (s.dev.ddr.ready || !needsDram i obj) && (!objAbsent s.dev.variant obj && !h.absent) &&
    (objDie obj).all fun x => !(s.dev.drift x).held && !(s.dev.drift x).silent

theorem ready_of (s : State) (i : Instr) (c : Tag) (obj : Word) (h : HostCmd) (hb : readyB s i c obj h = true) : s.Ready i c obj h := by
  simp only [readyB, Bool.and_eq_true, Bool.or_eq_true, Bool.not_eq_true', decide_eq_true_eq] at hb
  obtain ⟨⟨⟨⟨⟨⟨⟨⟨h1, h2⟩, h3⟩, h4⟩, h5⟩, h6⟩, h7⟩, h8⟩, h9⟩ := hb
  refine ⟨h1, h2, h3, h4, h5, h6, h7, h8, fun x hx => ?_⟩
  rw [Option.mem_def.1 hx] at h9
  simp only [Option.all_some, Bool.and_eq_true, Bool.not_eq_true'] at h9
  exact ⟨h9.1, .inl h9.2⟩

theorem free_all (l : List (Word × Instr × HostCmd)) (h : (l.all fun e => readyB up e.2.1 tg e.1 e.2.2 && e.2.2.good) = true) :
    ∀ e ∈ l, up.Free e.2.1 tg e.1 e.2.2 := by
  intro e he
  have := List.all_eq_true.1 h e he
  simp only [Bool.and_eq_true] at this
  exact ⟨ready_of _ _ _ _ _ this.1, this.2⟩

theorem mistake_of (i : Instr) (obj : Word) (h : HostCmd) (hb : (readyB up i tg obj h && !h.good) = true) :
    up.Ready i tg obj h ∧ h.good = false := by
  simp only [Bool.and_eq_true, Bool.not_eq_true'] at hb
  exact ⟨ready_of _ _ _ _ _ hb.1, hb.2⟩

abbrev profA : ProfileArgs :=
  { index := 3, lane := 0, rate := 0, pflags := 1, preLen := 4, patLen := 1, delLen := 4, pattern := 0xAA, delim := 0xB5, guardBits := 32 }

theorem wit_StreamAndTreeCommands : ∀ e ∈ ([(0, .nop tg 0, cmdNop tg 0 up.dev), (0, .waitTime tg 0 0 999999999, cmdWaitTime tg 0 0 999999999 up.dev),
    (0, .waitEvent tg 0 1 0 0 0, cmdWaitEvent tg 0 0 up.dev), (0, .readReg tg 0 0xC 2, cmdReadReg tg 0 0xC 2 up.env up.dev),
    (0, .writeReg tg 0 0xC 1 1, cmdWriteReg tg 0 0xC 1 1 up.env up.dev),
    (0x01000000, .readState tg 0x01000000 64 64, cmdReadState tg 0x01000000 64 64 up.dev),
    (0x0100003F, .resetScope tg 0x0100003F, cmdResetScope tg 0x0100003F up.dev),
    (0x0100003F, .treeEnable tg 0x0100003F 3, cmdTreeEnable tg 0x0100003F 3 up.dev),
    (0x0100003F, .treeDisable tg 0x0100003F 3, cmdTreeDisable tg 0x0100003F 3 up.dev),
    (0x01000000, .treeLaneSet tg 0x01000000 0xFF 0xFF 0, cmdTreeLaneSet tg 0x01000000 0xFF 0xFF 0 up.dev),
    (0x01000000, .treeProfileSet tg 0x01000000 profA, cmdTreeProfileSet tg 0x01000000 profA up.dev),
    (0x020003FB, .treeKeyLoad tg 0x020003FB 1 5, mirrored 0 (cmdTreeKeyLoad tg 0x020003FB 1 5 up.dev)),
    (0x020003FB, .treeKeySwitch tg 0x020003FB 1 5, cmdTreeKeySwitch tg 0x020003FB 1 5 up.dev),
    (0x01000000, .treeBcastKeyLoad tg 0x01000000 7 2 5, cmdTreeBcastKeyLoad tg 0x01000000 7 2 5 up.dev),
    (0x020003FF, .treePloamSend tg 0x020003FF (List.replicate 48 0), cmdTreePloamSend tg 0x020003FF (List.replicate 48 0) up.dev),
    (0x01000000, .treeModuleI2c tg 0x01000000 0 127 0 8 (List.replicate 32 0), cmdTreeModuleI2c tg 0x01000000 0 127 0 8 (List.replicate 32 0) up.dev)] :
    List (Word × Instr × HostCmd)), up.Free e.2.1 tg e.1 e.2.2 := free_all _ (by decide)
/-- An I2C read of nine bytes. -/
theorem wit_StreamAndTreeMistake : up.Ready (.treeModuleI2c tg 0x01000000 0 1 0 9 []) tg 0x01000000 (cmdTreeModuleI2c tg 0x01000000 0 1 0 9 [] up.dev) ∧
    (cmdTreeModuleI2c tg 0x01000000 0 1 0 9 [] up.dev).good = false := mistake_of _ _ _ (by decide)

abbrev recA : Bytes := [1, 0, 2, 0, 0, 0, 0, 1, 0, 0, 1, 0, 0, 0, 0, 0, 0, 0, 0, 0, 0, 0, 0, 0, 64, 0, 0, 0, 0, 0, 0, 0]

set_option maxRecDepth 8000 in
theorem wit_RangingWinderUpstreamCommands : ∀ e ∈ ([
    (0x0100003F, .rngDiscover tg 0x0100003F 1 3 450 35 8000 1, cmdRngDiscover tg 0x0100003F 1 3 450 35 8000 1 up.dev),
    (0x020003FB, .rngTerminalAdd tg 0x020003FB 5 0 0 3 0 0 10000, mirrored 0 (cmdRngTerminalAdd tg 0x020003FB 5 0 0 3 0 0 10000 up.dev)),
    (0x020003FB, .rngTerminalRemove tg 0x020003FB, cmdRngTerminalRemove tg 0x020003FB up.dev),
    (0x1100007F, .rngTrunkSet tg 0x1100007F 1 0 0 1, cmdRngTrunkSet tg 0x1100007F 1 0 0 1 up.dev),
    (0x11000000, .rngTrunkConfirm tg 0x11000000, cmdRngTrunkConfirm tg 0x11000000 up.dev),
    (0x01000000, .wndImageLoad tg 0x01000000 0x2000 36, cmdWndImageLoad tg 0x01000000 0x2000 36 up.env up.dev),
    (0x01000000, .wndSwap tg 0x01000000 3 9, cmdWndSwap tg 0x01000000 3 9 up.dev),
    (0x03000FFF, .wndAllocWrite tg 0x03000FFF recA, cmdWndAllocWrite tg 0x03000FFF recA up.dev),
    (0x0303FFFF, .wndAllocRemove tg 0x0303FFFF, cmdWndAllocRemove tg 0x0303FFFF up.dev),
    (0x01000000, .wndWitnessSet tg 0x01000000 1 10 3, cmdWndWitnessSet tg 0x01000000 1 10 3 up.dev),
    (0x04000001, .upsFlowSet tg 0x04000001 65534 1019 1 1 0, cmdUpsFlowSet tg 0x04000001 65534 1019 1 1 0 up.dev),
    (0x040FFFFF, .upsPolicerSet tg 0x040FFFFF 1 64 1, cmdUpsPolicerSet tg 0x040FFFFF 1 64 1 up.dev)] : List (Word × Instr × HostCmd)),
    up.Free e.2.1 tg e.1 e.2.2 := free_all _ (by decide)
/-- A bucket of 63 bytes. -/
theorem wit_RangingWinderUpstreamMistake :
    up.Ready (.upsPolicerSet tg 0x04000000 1 63 0) tg 0x04000000 (cmdUpsPolicerSet tg 0x04000000 1 63 0 up.dev) ∧
    (cmdUpsPolicerSet tg 0x04000000 1 63 0 up.dev).good = false := mistake_of _ _ _ (by decide)

abbrev portA : PortArgs := { lanes := 1, topRate := 4, bringup := 2, pflags := 1, maxFrame := 16383, liveHold := 1000, qlim := 2048, qweight := 0, express := 0 }
abbrev gateA : GateArgs := { gflags := 0, count := 0, addr := 0, sec := 0, ns := 0, cycle := 1000 }
abbrev pauseA : PauseArgs := { mode := 2, pflags := 2, pfcMask := 1, quanta := 1, xoff := 262144, xon := 262143 }

theorem wit_DataPathCommands : ∀ e ∈ ([
    (0x0E000001, .clsRulesLoad tg 0x0E000001 0 1 0 32767 1, cmdClsRulesLoad tg 0x0E000001 0 1 0 32767 1 up.env up.dev),
    (0x0E000000, .clsRulesSwap tg 0x0E000000, cmdClsRulesSwap tg 0x0E000000 up.dev),
    (0x0B00001F, .clsDefaultSet tg 0x0B00001F (List.replicate 16 0), cmdClsDefaultSet tg 0x0B00001F (List.replicate 16 0) up.dev),
    (0x0E100000, .clsIndirWrite tg 0x0E100000 4095 1 64, cmdClsIndirWrite tg 0x0E100000 4095 1 64 up.env up.dev),
    (0x0F000000, .tblWrite tg 0x0F000000 0x1000 1, cmdTblWrite tg 0x0F000000 0x1000 1 up.env up.dev),
    (0x0F100000, .tblDelete tg 0x0F100000 0x1000 1, cmdTblDelete tg 0x0F100000 0x1000 1 up.env up.dev),
    (0x0F203FFF, .tblDomainFlush tg 0x0F203FFF 2 0x40000000, cmdTblDomainFlush tg 0x0F203FFF 2 0x40000000 up.dev),
    (0x0F300000, .tblLpmLoad tg 0x0F300000 0 1, cmdTblLpmLoad tg 0x0F300000 0 1 up.env up.dev),
    (0x0F200000, .tblHolddownSet tg 0x0F200000 1000000, cmdTblHolddownSet tg 0x0F200000 1000000 up.dev),
    (0x10200000, .dtmNodeSet tg 0x10200000 (.gen 1), cmdDtmNodeSet tg 0x10200000 (.gen 1) up.dev),
    (0x10100000, .dtmShaperSet tg 0x10100000 1 1 0 16384, cmdDtmShaperSet tg 0x10100000 1 1 0 16384 up.dev),
    (0x10400FFF, .dtmWatchSet tg 0x10400FFF 1 0x10000000 1 1, cmdDtmWatchSet tg 0x10400FFF 1 0x10000000 1 1 up.dev),
    (0, .dtmPartitionSet tg 0 2 16384 524288, cmdDtmPartitionSet tg 0 2 16384 524288 up.dev),
    (0x0A00001F, .ulkLaneEnable tg 0x0A00001F 60000, cmdUlkLaneEnable tg 0x0A00001F 60000 up.dev),
    (0x0A000000, .ulkLaneDisable tg 0x0A000000, cmdUlkLaneDisable tg 0x0A000000 up.dev),
    (0x0B00001F, .ulkPortSet tg 0x0B00001F portA, cmdUlkPortSet tg 0x0B00001F portA up.dev),
    (0x0A000000, .ulkBitslip tg 0x0A000000 65, cmdUlkBitslip tg 0x0A000000 65 up.dev),
    (0x0B000000, .ulkGateList tg 0x0B000000 gateA, cmdUlkGateList tg 0x0B000000 gateA up.env up.dev),
    (0x0B000000, .ulkPauseSet tg 0x0B000000 pauseA, cmdUlkPauseSet tg 0x0B000000 pauseA up.dev)] : List (Word × Instr × HostCmd)),
    up.Free e.2.1 tg e.1 e.2.2 := free_all _ (by decide)
/-- The handle of a table, where that of a domain belongs. -/
theorem wit_DataPathMistake : up.Ready (.tblHolddownSet tg 0x0F000000 100) tg 0x0F000000 (cmdTblHolddownSet tg 0x0F000000 100 up.dev) ∧
    (cmdTblHolddownSet tg 0x0F000000 100 up.dev).good = false := mistake_of _ _ _ (by decide)

abbrev snapA : SnapArgs := { sflags := 0, sec := 0, ns := 0, first := 0x1FFFFFF, count := 1, addr := 64 }
abbrev profB : ProfArgs := { port := 3, mode := 2, pflags := 1, pcLo := 5, pcHi := 5, every := 2, startSfc := 0, frames := 1 }

theorem wit_PairTimeMemoryTallyCommands : ∀ e ∈ ([
    (0x12000000, .matPairJoin tg 0x12000000 1 0 5 60000, cmdMatPairJoin tg 0x12000000 1 0 5 60000 up.dev),
    (0x0100003F, .matRoleSet tg 0x0100003F 1, cmdMatRoleSet tg 0x0100003F 1 up.dev),
    (0x01000000, .matDarkRelease tg 0x01000000, cmdMatDarkRelease tg 0x01000000 up.dev),
    (0, .todStep tg 0 0 0 0xC4653601, cmdTodStep tg 0 0 0 0xC4653601 up.dev),
    (0, .todSteer tg 0 0x400000 1, cmdTodSteer tg 0 0x400000 1 up.dev),
    (0x13000007, .todTrigSet tg 0x13000007 3 1 0 100 99, cmdTodTrigSet tg 0x13000007 3 1 0 100 99 up.dev),
    (0x0C000007, .memThaw tg 0x0C000007, cmdMemThaw tg 0x0C000007 up.dev), (0x0C000007, .memRetire tg 0x0C000007, cmdMemRetire tg 0x0C000007 up.dev),
    (0, .memRowRepair tg 0 0, cmdMemRowRepair tg 0 0 up.dev), (0, .memScrubSet tg 0 3600 168, cmdMemScrubSet tg 0 3600 168 up.dev),
    (0, .talSnapshot tg 0 snapA, cmdTalSnapshot tg 0 snapA up.dev),
    (0x0B00001F, .talWindowSet tg 0x0B00001F 3 10000, cmdTalWindowSet tg 0x0B00001F 3 10000 up.dev),
    (0x0700000F, .talProfileStart tg 0x0700000F profB, cmdTalProfileStart tg 0x0700000F profB up.dev),
    (0x0700000F, .talProfileStop tg 0x0700000F, cmdTalProfileStop tg 0x0700000F up.dev)] : List (Word × Instr × HostCmd)),
    up.Free e.2.1 tg e.1 e.2.2 := free_all _ (by decide)
/-- A step by a whole second in nanoseconds. -/
theorem wit_PairTimeMemoryTallyMistake : up.Ready (.todStep tg 0 0 0 1000000000) tg 0 (cmdTodStep tg 0 0 0 1000000000 up.dev) ∧
    (cmdTodStep tg 0 0 0 1000000000 up.dev).good = false := mistake_of _ _ _ (by decide)

/-! ### Witnesses: the block and its events -/

/-- A state with one request of each ring: rings enabled at their least size, the event ring with room, one event to write. -/
abbrev rings : State :=
  { dev := { board := { resetN := false, bootDone := true }, cmdRings := [(0, { en := true, size := 6, wptr := 1 })],
             puntRings := [(0, { size := 6, ctrl := 0x101 })], injRings := [(0, { size := 6, ctrl := 0x101 })] }
    bank := { en := true, size := 10, wptr := 5, seq := 1, backlog := [⟨0, 1, 0, false, List.replicate 32 7⟩] } }
theorem settled_rings : rings.Settled := ⟨by decide, rfl, rfl, fun i e h => by
  match i with
  | 0 => simp at h; subst h; decide
  | n + 1 => simp at h⟩

theorem wit_StepTakesTheFront : ({ up with pending := [.nop tg 0, .time10mLoss] } : State).pending = .nop tg 0 :: [.time10mLoss] := rfl
theorem wit_IdleStepIsOneCycle : up.pending = [] ∧ up.dev.late = [] ∧
    ({ up with dev := { up.dev with late := [.waitEventLimit 0] } } : State).dev.late = [] ++ .waitEventLimit 0 :: [] ∧ up.dev.blocked (.waitEventLimit 0) = false ∧ State.reset.pending = [] ∧ State.reset.dev.board.resetN = true ∧
    up.dev.board.resetN = false ∧ -4194304 ≤ up.dev.time.freq := by decide
/-- A fault that waits in front of a timeout: tree 0 fails over, the fault strikes tree port 1. -/
theorem wit_IdleStepWaits : up.dev.prot.trees = [] ∧
    ({ up.dev with prot := { up.dev.prot with trees := [(0, { failover := true })] } } : Dev).blocked (.containedFault (.port 1)) = true ∧
    ({ up.dev with prot := { up.dev.prot with trees := [(0, { failover := true })] } } : Dev).blocked (.containedFault (.port 0)) = false := by
  decide
theorem wit_CommandsKeepTheQueue : ∃ t, exec .time10mLoss up = .next t := ⟨_, rfl⟩
theorem wit_StepKeepsSettled : up.Settled ∧ (∃ t, step up = .next t) ∧ ∃ t, step { up with pending := [.time10mLoss] } = .next t :=
  ⟨settled_up, ⟨_, rfl⟩, ⟨_, rfl⟩⟩
theorem wit_ResetHoldsThePackage : State.reset.Settled ∧ State.reset.dev.board.resetN = true ∧ State.reset.dev.board.bootDone = false ∧
    (∀ w, (State.reset.dev.winder w).running = false ∧ (State.reset.dev.winder w).late = false) ∧ (Instr.time10mLoss ≠ .resetNAssert) ∧ (∀ x, Instr.time10mLoss ≠ .resetNDeassert x) ∧
    (∀ r u, Instr.time10mLoss ≠ .powerRailChange r u) ∧ Instr.time10mLoss ≠ .fenceInAssert ∧ Instr.time10mLoss ≠ .fenceInDeassert ∧
    (∀ a b, Instr.time10mLoss ≠ .tckEdge a b) ∧ Instr.time10mLoss ≠ .ledgerWrite := by
  refine ⟨⟨by decide, rfl, rfl, fun i e h => by simp [State.reset] at h⟩, rfl, rfl, fun w => ?_, ?_, ?_, ?_, ?_, ?_, ?_, ?_⟩
  · show (Winder.dflt w).running = false ∧ (Winder.dflt w).late = false
    unfold Winder.dflt
    split <;> exact ⟨rfl, rfl⟩
  all_goals simp
/-- The last value of each pointer: 63 on rings of 64, the write pointer 5 on the event ring. -/
theorem wit_DoorbellsAndRings : rings.Settled ∧ rings.booted ∧ (63 : Word).toNat % 2 ^ 20 < 2 ^ (rings.dev.cmdRing 0).size ∧
    (63 : Word).toNat % 2 ^ 20 < (rings.dev.punt 0).entries ∧ (63 : Word).toNat % 2 ^ 20 < (rings.dev.injRing 0).entries ∧
    (5 : Word).toNat % 2 ^ 20 < rings.bank.entries ∧
    ((5 : Word).toNat % 2 ^ 20 + rings.bank.entries - rings.bank.rptr) % rings.bank.entries ≤ rings.bank.used :=
  ⟨settled_rings, ⟨rfl, rfl⟩, by decide, by decide, by decide, by decide, by decide⟩
/-- Rings that are off, at the least and the greatest sizes, and rings that are on. -/
abbrev off : State :=
  { dev := { board := { resetN := false, bootDone := true }, cmdRings := [(0, { size := 6 }), (1, { size := 16 })],
             puntRings := [(0, { size := 6 }), (1, { size := 16 })], injRings := [(0, { size := 6 }), (1, { size := 16 })] }
    bank := { size := 10 } }
theorem wit_RingEnableResetsPointers : off.Settled ∧ off.booted ∧
    (∀ r ∈ [0, 1], (off.dev.cmdRing r).en = false ∧ 6 ≤ (off.dev.cmdRing r).size ∧ (off.dev.cmdRing r).size ≤ 16 ∧
      (off.dev.punt r).en = false ∧ 6 ≤ (off.dev.punt r).size ∧ (off.dev.punt r).size ≤ 16 ∧
      (off.dev.injRing r).en = false ∧ 6 ≤ (off.dev.injRing r).size ∧ (off.dev.injRing r).size ≤ 16) ∧
    off.bank.en = false ∧ 10 ≤ off.bank.size ∧ off.bank.size ≤ 20 ∧
    (rings.dev.cmdRing 0).en = true ∧ (rings.dev.punt 0).en = true ∧ (rings.dev.injRing 0).en = true ∧ rings.bank.en = true :=
  ⟨⟨by decide, rfl, rfl, fun i e h => by simp at h⟩, ⟨rfl, rfl⟩, by decide⟩
/-- Commands that wait behind a timeout: a burst that may bring a report, and a write to a table. -/
abbrev queued : State := { up with pending := [.burstDelineation 5 0 [], .tblDelete tg 0x0F100000 0x1000 1] }
theorem wit_RingAndReadEvents : up.dev.board.resetN = false ∧ State.reset.dev.board.resetN = true ∧ up.pending = [] ∧ queued.pending ≠ [] ∧
    queued.dev.board.resetN = false := by decide
/-- Inject ring 2 has one descriptor posted: 3 bytes at 0x1000 for uplink port 4 with PRIO 7. -/
abbrev inject : State :=
  { up with dev := { up.dev with injRings := [(2, { size := 6, ctrl := 0x101, wptr := 1 })], cls := { up.dev.cls with live := 0x10 } }
            mem := memWrite hostMem 0 [0, 0x10, 0, 0, 0, 0, 0, 0, 3, 0, 3, 0, 4, 0, 0, 0, 0, 0, 0, 0, 0, 0, 7, 0, 0, 0, 0, 0, 0, 0, 0, 0] }
theorem wit_RegisterWritesAndStarts : up.dev.board.resetN = false ∧ State.reset.dev.board.resetN = true ∧ inject.Settled ∧
    inject.dev.board.resetN = false ∧
    (let x := inject.dev.injRing 2
     let y := inject.dev.uplink 4
     let b := memRead inject.mem (ringBase x.baseLo x.baseHi + x.rptr % x.entries * 32) 32
     x.en = true ∧ 6 ≤ x.size ∧ x.size ≤ 16 ∧ x.posted ≠ 0 ∧ ofLe ((b.drop 10).take 1) % 16 = 3 ∧ ofLe ((b.drop 8).take 2) = 3 ∧
     ofLe ((b.drop 12).take 4) = 4 ∧ ofLe ((b.drop 22).take 1) % 8 = 7 ∧ inject.dev.ulkLive 4 = true ∧ y.stage ≠ .draining ∧
     3 + 4 ≤ y.cfg.maxFrame ∧ (y.cfg.qlim = 0 ∨ y.qBytes 7 + 3 ≤ y.cfg.qlim) ∧ inject.dev.dtm.takes 2 (cellsOf 3) = true ∧
     inject.dev.dtm.takes 1 (cellsOf 3) = true) :=
  ⟨rfl, rfl, ⟨by decide, rfl, rfl, fun i e h => by simp at h⟩, rfl, by decide⟩
/-- The SKX3250, whose ports are 0 to 31, and the SKX6410, which has no decoders. -/
abbrev small : State := { up with dev := { up.dev with variant := .skx3250 } }
theorem wit_TreeSideEvents : queued.pending.any (bringsReport 5) = true ∧ queued.pending.any (bringsReport 6) = false ∧ queued.pending ≠ [] ∧
    up.pending = [] ∧ (I2cOutcome.ok [] ≠ I2cOutcome.noAnswer) ∧ up.dev.board.resetN = false ∧ up.dev.portUp 63 = true ∧ up.dev.winderUp 79 = true ∧
    up.dev.variant ≠ .skx6410 ∧ small.dev.portUp 32 = false ∧ small.dev.winderUp 40 = false ∧ State.reset.dev.board.resetN ≠ false := by decide
theorem wit_DataPathEvents : queued.pending.any hostWrites = true ∧ up.pending.any hostWrites = false ∧ up.dev.board.resetN = false ∧ State.reset.dev.board.resetN ≠ false ∧ up.dev.variant.hasLane 31 = true ∧
    small.dev.variant.hasLane 16 = false ∧ up.dev.variant.hasSLane (laneKey .hb) = true ∧
    small.dev.variant.hasSLane (laneKey (.uplink 16)) = false := by decide
theorem wit_BoardMemoryTimeEvents : up.dev.board.resetN = false ∧ State.reset.dev.board.resetN ≠ false ∧ up.dev.variant.hasPort 63 = true ∧
    up.dev.variant.hasLane (95 - 64) = true := by decide
theorem wit_ProtectionEvents : up.pending = [] ∧ queued.pending ≠ [] ∧ queued.dev.board.resetN = false ∧ up.dev.board.resetN = false ∧ up.dev.variant ≠ .skx6450n ∧ up.dev.variant.hasPort 63 = true ∧
    small.dev.variant.hasPort 32 = false ∧ ({ up.dev with variant := .skx6450n } : Dev).variant = .skx6450n := by decide
abbrev railsOff : State := { dev := { board := { rails := [] } } }
theorem wit_BallEvents : State.reset.dev.board.resetN = true ∧ State.reset.dev.railsTo 5 = true ∧ (3 : BitVec 3).getLsbD 2 = false ∧
    (4 : BitVec 3).getLsbD 2 = true ∧ railsOff.dev.railsTo 5 = false ∧ up.dev.board.resetN = false ∧ up.dev.board.rails.contains .io = true ∧
    railsOff.dev.board.rails.contains .hub = false ∧ railsOff.dev.board.resetN = true ∧ railsOff.dev.railsTo (railStep .hub - 1) = true ∧
    railsOff.dev.board.rails.contains .io = false ∧ railsOff.dev.railsTo (railStep .io - 1) = false := by decide

/-! ### Witnesses: rules of the chapters -/

/-- A ring held by a FENCE command, an object in use, and DRAM that is not ready; then a command of ring 1 held, so that ring 1 has the turn; a full
backlog; a NOP of ring 3 that was accepted and waits, and a command there with an opcode that Table 2-7 does not list. -/
abbrev busy : State :=
  { dev := { board := { resetN := false, bootDone := true }
             cmds := [⟨⟨0, 6, 1⟩, 0x01000000, 0x0101, .treeEnable ⟨0, 6, 1⟩ 0x01000000 1, .running, 0⟩] } }
abbrev turns : State :=
  { up with dev := { up.dev with cmds := [⟨⟨1, 6, 0⟩, 0, 1, .nop ⟨1, 6, 0⟩ 0, .held, 0⟩] } }
abbrev stalled : State := { up with bank := { held := [⟨tg, 1, 0, [], 0⟩] } }
abbrev waiting (opc : Nat) : State :=
  { up with dev := { up.dev with cmds := [⟨⟨3, 6, 0⟩, 0, opc, .nop ⟨3, 6, 0⟩ 0, .held, 0⟩] } }
theorem wit_CommandsWaitTheirTurn : (busy.Settled ∧ State.reset.Settled ∧ State.reset.dev.board.bootDone = false ∧
    busy.dev.board.bootDone = true ∧ busy.dev.active busy.bank 0 < 256 ∧
    busy.bank.stalled = false ∧ busy.dev.ringHolds ⟨0, 7, 0⟩ = true ∧ busy.dev.ringHolds ⟨1, 7, 0⟩ = false ∧ busy.dev.outOfTurn 1 = false ∧
    busy.dev.objBusy (.treeDisable ⟨1, 7, 0⟩ 0x01000000 1) 0x01000000 = true ∧ busy.dev.ddr.ready = false ∧
    needsDram (.tblDomainFlush ⟨1, 7, 0⟩ 0x0F200000 0 0) 0x0F200000 = true ∧ turns.dev.outOfTurn 2 = true ∧ stalled.bank.stalled = true) ∧
    (up.Open ∧ up.New tg ∧ up.Ready (.todStep tg 0 0 0 1000000000) tg 0 (cmdTodStep tg 0 0 0 1000000000 up.dev) ∧
      (cmdTodStep tg 0 0 0 1000000000 up.dev).good = false) ∧
    ∀ opc ∈ [1, 0xFFFF], (waiting opc).Open ∧ (waiting opc).booted ∧ (waiting opc).bank.stalled = false ∧
      (let a : Active := ⟨⟨3, 6, 0⟩, 0, opc, .nop ⟨3, 6, 0⟩ 0, .held, 0⟩
       let d : Dev := { (waiting opc).dev with cmds := [{ a with phase := .started }], lastRing := 3 }
       (waiting opc).dev.cmds = [a] ∧ a.tag.ring = 3 ∧ a.phase = .held ∧ a.cmd = .nop a.tag 0 ∧ (opc = 1 → a.unknown = false) ∧
       hostCmd a.cmd (waiting opc).env d = some (a.tag, 0, cmdNop a.tag 0 d) ∧ objAbsent (waiting opc).dev.variant 0 = false ∧
       (cmdNop a.tag 0 d).absent = false ∧ (cmdNop a.tag 0 d).good = true) := by
  refine ⟨⟨⟨by decide, rfl, rfl, fun i e h => by simp at h⟩, ⟨by decide, rfl, rfl, fun i e h => by simp [State.reset] at h⟩, by decide⟩,
    ⟨open_up, new_up, mistake_of _ _ _ (by decide)⟩, fun opc ho => ?_⟩
  simp only [List.mem_cons, List.not_mem_nil, or_false] at ho
  rcases ho with rfl | rfl
  · exact ⟨⟨⟨by decide, rfl, rfl, fun i e h => by simp at h⟩, rfl, rfl, by decide⟩, ⟨rfl, rfl⟩, by decide, rfl, rfl, rfl, rfl, by decide, rfl,
      by decide, rfl, rfl⟩
  · exact ⟨⟨⟨by decide, rfl, rfl, fun i e h => by simp at h⟩, rfl, rfl, by decide⟩, ⟨rfl, rfl⟩, by decide, rfl, rfl, rfl, rfl, by decide, rfl,
      by decide, rfl, rfl⟩
theorem wit_StreamControlResults : up.Open ∧ up.New tg ∧ up.booted ∧ up.Free (.nop tg 0) tg 0 (cmdNop tg 0 up.dev) ∧
    up.Free (.waitTime tg 0 0 0) tg 0 (cmdWaitTime tg 0 0 0 up.dev) ∧ up.Free (.waitTime tg 0 0 1) tg 0 (cmdWaitTime tg 0 0 1 up.dev) ∧
    up.Free (.waitEvent tg 0 1 0 0 0) tg 0 (cmdWaitEvent tg 0 0 up.dev) ∧ up.Free (.waitEvent tg 0 1 0 0 1) tg 0 (cmdWaitEvent tg 0 1 up.dev) ∧
    up.Free (.readReg tg 0 0xC 1) tg 0 (cmdReadReg tg 0 0xC 1 up.env up.dev) ∧
    up.Free (.writeReg tg 0 0xC 5 1) tg 0 (cmdWriteReg tg 0 0xC 5 1 up.env up.dev) ∧ 0 * 1000000000 + 0 % 2 ^ 30 ≤ up.dev.devNs ∧
    ¬0 * 1000000000 + 1 % 2 ^ 30 ≤ up.dev.devNs :=
  ⟨open_up, new_up, booted_up, ⟨ready_of _ _ _ _ _ (by decide), by decide⟩, ⟨ready_of _ _ _ _ _ (by decide), by decide⟩,
    ⟨ready_of _ _ _ _ _ (by decide), by decide⟩, ⟨ready_of _ _ _ _ _ (by decide), by decide⟩, ⟨ready_of _ _ _ _ _ (by decide), by decide⟩,
    ⟨ready_of _ _ _ _ _ (by decide), by decide⟩, ⟨ready_of _ _ _ _ _ (by decide), by decide⟩, by decide, by decide⟩
/-- The entry at the read pointer has SEQ 0, which ring 0 expects; with another expected number it is out of order. -/
abbrev gap : State := { rings with dev := { rings.dev with cmdRings := [(0, { en := true, size := 6, wptr := 1, expSeq := 9 })] } }
theorem wit_FetchComparesSequenceNumbers : rings.Open ∧ rings.booted ∧ (rings.dev.cmdRing 0).en = true ∧ (rings.dev.cmdRing 0).halted = false ∧
    (rings.dev.cmdRing 0).paused = false ∧ rings.dev.active rings.bank 0 < 256 ∧ (rings.dev.cmdRing 0).rptr ≠ (rings.dev.cmdRing 0).wptr ∧
    ofLe ((memRead rings.mem (ringBase 0 0 + 0) 64).take 4) = (rings.dev.cmdRing 0).expSeq.toNat ∧
    ofLe ((memRead gap.mem (ringBase 0 0 + 0) 64).take 4) ≠ (gap.dev.cmdRing 0).expSeq.toNat :=
  ⟨⟨settled_rings, rfl, rfl, by decide⟩, ⟨rfl, rfl⟩, by decide⟩
theorem wit_EventRingWriteGoesToMemory : rings.Settled ∧ rings.dev.board.resetN = false ∧
    rings.bank.backlog = ⟨0, 1, 0, false, List.replicate 32 7⟩ :: [] ∧ rings.bank.room ≠ 0 ∧ (List.replicate 32 (7 : Byte)).length = 32 :=
  ⟨settled_rings, by decide⟩
theorem wit_PcieResetKeepsTheDevice : up.Settled ∧ up.dev.board.resetN = false := ⟨settled_up, rfl⟩
abbrev booting : State := { dev := { board := { resetN := false } } }
theorem wit_NothingBeforeBootDone : booting.Settled ∧ booting.dev.board.bootDone = false ∧ booting.dev.board.resetN = false ∧
    (0x5000004 : Word).toNat % 4 = 0 := ⟨⟨by decide, rfl, rfl, fun i e h => by simp at h⟩, by decide⟩
/-- The greatest OFS of R93. -/
theorem wit_HubAndTreeRegisters : up.Settled ∧ up.booted ∧ up.dev.portUp 63 = true ∧ (6220799 : Word).toNat % 2 ^ 23 ≤ 6220799 :=
  ⟨settled_up, booted_up, by decide⟩
abbrev counting : State := { up with dev := { up.dev with ports := [(0, { counting := true, wnd := { winder := 0, image := true, img0 := im } })] } }
theorem wit_ProgramStartClearsRegisters : counting.Settled ∧ counting.dev.board.resetN = false ∧ counting.dev.portUp 0 = true ∧
    counting.dev.deputy 0 = false ∧ (let q := counting.dev.port 0
     q.counting = true ∧ q.wnd.run = .none ∧ q.wnd.takeover = none ∧ q.wnd.swap = none ∧ q.wnd.image = true ∧
       (counting.dev.winder q.wnd.winder).st = 1) :=
  ⟨⟨by decide, rfl, rfl, fun i e h => by simp at h⟩, by decide⟩
abbrev ckpt : State :=
  { up with dev := { up.dev with ports := [(0, { wnd := { winder := 0, ckptPend := some (takeCkpt {} {}), rptQ := [⟨1, 2, 3⟩] } })] } }
theorem wit_CutoffAndCheckpoint : ckpt.Settled ∧ ckpt.dev.board.resetN = false ∧ ckpt.dev.portUp 0 = true ∧ ckpt.dev.deputy 0 = false ∧
    (ckpt.dev.port 0).wnd.cutDone = false ∧ ckpt.pending.any (bringsReport 0) = false ∧ (ckpt.dev.port 0).wnd.rptFetched = [] ∧
    (ckpt.dev.port 0).wnd.rptSet = [] ∧ (ckpt.dev.port 0).wnd.ckptPend = some (takeCkpt {} {}) :=
  ⟨⟨by decide, rfl, rfl, fun i e h => by simp at h⟩, by decide⟩
/-- Decoder 0 of cluster 0 holds a codeword, the others are idle. -/
abbrev pool : State :=
  { up with dev := { up.dev with clusters := [(0, { queue := [⟨1, 0, 0⟩] })], decs := [(0, { st := 1, held := some ⟨0, 0, 0⟩ })] } }
theorem wit_DispatchTakesLowestIdleDecoder : pool.Settled ∧ pool.dev.board.resetN = false ∧ pool.dev.portUp (4 * 0) = true ∧
    (pool.dev.cluster 0).queue = ⟨1, 0, 0⟩ :: [] ∧ (pool.dev.cluster 0).queue.length ≤ 64 ∧ (pool.dev.dec (5 * 0 + 1)).st = 1 ∧ (pool.dev.dec (5 * 0 + 1)).held = none ∧
    ∀ k, k < 1 → (pool.dev.dec (5 * 0 + k)).st ≠ 1 ∨ (pool.dev.dec (5 * 0 + k)).held ≠ none :=
  ⟨⟨by decide, rfl, rfl, fun i e h => by simp at h⟩, by decide⟩
/-- A flow of 100 bytes of tokens at cycle 0: a frame of 100 bytes conforms, one of 101 does not; a bucket never set passes no byte. -/
theorem wit_UpstreamPolicer : up.Open ∧ up.New tg ∧
    up.Free (.upsPolicerSet tg 0x04000000 1 64 1) tg 0x04000000 (cmdUpsPolicerSet tg 0x04000000 1 64 1 up.dev) ∧
    (let x : Flow := { flags := 0x10, cbs := 100, t := 100000000 }
     x.flags.getLsbD 4 = true ∧ 100 * 1000000 ≤ x.tNow 0 ∧ x.tNow 0 < 101 * 1000000) ∧ ({ flags := 0x10 } : Flow).cbs = 0 :=
  ⟨open_up, new_up, ⟨ready_of _ _ _ _ _ (by decide), by decide⟩, by decide, rfl⟩
abbrev swap : State :=
  { up with dev := { up.dev with cls := { up.dev.cls with set0 := { up.dev.cls.set0 with swap := some tg } }
                                 cmds := [⟨tg, 0x0E000000, 0x0502, .clsRulesSwap tg 0x0E000000, .running, 0⟩] } }
theorem wit_ClassifierSwapAndDefaults : up.Open ∧ up.New tg ∧
    up.Free (.clsRulesSwap tg 0x0E000001) tg 0x0E000001 (cmdClsRulesSwap tg 0x0E000001 up.dev) ∧ objIndex 0x0E000001 = (1 : Fin 2).val ∧
    up.dev.board.resetN = false ∧ (up.dev.ruleSet 1).swap = none ∧
    up.Free (.clsDefaultSet tg 0x0100003F (List.replicate 16 0)) tg 0x0100003F (cmdClsDefaultSet tg 0x0100003F (List.replicate 16 0) up.dev) ∧
    swap.Settled ∧ (swap.dev.ruleSet 0).swap = some tg ∧
    (swap.dev.cmds.find? fun a => a.tag == tg) = some ⟨tg, 0x0E000000, 0x0502, .clsRulesSwap tg 0x0E000000, .running, 0⟩ :=
  ⟨open_up, new_up, ⟨ready_of _ _ _ _ _ (by decide), by decide⟩, by decide, rfl, by decide, ⟨ready_of _ _ _ _ _ (by decide), by decide⟩,
    ⟨by decide, rfl, rfl, fun i e h => by simp at h⟩, by decide, by decide⟩
/-- The reserve of partition 0 takes what the other two leave of 524,288 cells, so that the shared pool is empty. -/
theorem wit_HoldDownAndPartitions : up.Open ∧ up.New tg ∧
    up.Free (.tblHolddownSet tg 0x0F200000 100) tg 0x0F200000 (cmdTblHolddownSet tg 0x0F200000 100 up.dev) ∧
    (∀ res ∈ [(0 : Word), 376832], up.Free (.dtmPartitionSet tg 0 0 res 524288) tg 0 (cmdDtmPartitionSet tg 0 0 res 524288 up.dev)) ∧
    up.dev.dtm.poolHigh = true ∧ (up.dev.dtm.modPart 0 fun q => { q with res := 376832, max := 524288 }).shared = 0 ∧
    (up.dev.dtm.modPart 0 fun q => { q with res := 0, max := 524288 }).shared ≠ 0 := by
  refine ⟨open_up, new_up, ⟨ready_of _ _ _ _ _ (by decide), by decide⟩, fun r hr => ?_, by decide, by decide, by decide⟩
  simp only [List.mem_cons, List.not_mem_nil, or_false] at hr
  rcases hr with rfl | rfl
  · exact ⟨ready_of _ _ _ _ _ (by decide), by decide⟩
  · exact ⟨ready_of _ _ _ _ _ (by decide), by decide⟩
/-- Both paths are lost after reset; here they are not, and in `paired` they are lost in a joined pair. -/
abbrev linked : State := { up with dev := { up.dev with prot := { dmp := { lost := false }, hb := { lost := false } } } }
abbrev paired : State := { up with dev := { up.dev with prot := { joined := true } } }
theorem wit_PathLossAndIsolation : linked.Open ∧ linked.dev.board.resetN = false ∧ linked.dev.variant ≠ .skx6450n ∧
    linked.dev.prot.hb.lost = false ∧ linked.dev.prot.dmp.lost = false ∧ paired.Open ∧ paired.dev.prot.hb.lost = true ∧
    paired.dev.prot.dmp.lost = true ∧ paired.dev.prot.joined = true ∧ paired.dev.prot.isolated = false ∧
    ({ paired.dev.prot with isolated := true } : Prot).isolated = true :=
  ⟨⟨⟨by decide, rfl, rfl, fun i e h => by simp at h⟩, rfl, rfl, by decide⟩, rfl, by decide, rfl, rfl,
    ⟨⟨by decide, rfl, rfl, fun i e h => by simp at h⟩, rfl, rfl, by decide⟩, by decide⟩
/-- GP 8 and GI 2 in mode 2, where reset leaves mode 0; and mode 0 again. -/
theorem wit_ModeChangeOfDeviceTime : up.Settled ∧ up.booted ∧ (∀ v ∈ [(0x282 : Word), 0x210], v.toNat % 4 ≠ 3 ∧ 1 ≤ v.toNat / 16 % 16 ∧
    v.toNat / 16 % 16 ≤ 8 ∧ 2 ≤ v.toNat / 256 % 16) ∧ (0x282 : Word).toNat % 4 ≠ up.dev.time.ctrl.toNat % 4 ∧
    (0x210 : Word).toNat % 4 = up.dev.time.ctrl.toNat % 4 := 
  ⟨settled_up, booted_up, by intro v hv; simp only [List.mem_cons, List.not_mem_nil, or_false] at hv; rcases hv with rfl | rfl <;> simp, by simp, by simp⟩
abbrev held : State := { up with dev := { up.dev with time := { up.dev.time with sysRef := true, lost10m := true } } }
abbrev ten : State := { up with dev := { up.dev with time := { up.dev.time with sysRef := false } } }
theorem wit_SteerReferenceAndLatch : up.Open ∧ up.New tg ∧ up.dev.board.resetN = false ∧
    up.Free (.todSteer tg 0 0xFFC00000 0) tg 0 (cmdTodSteer tg 0 0xFFC00000 0 up.dev) ∧ ten.Open ∧
    ten.dev.time.sysRef = false ∧ up.dev.board.bootDone = true ∧ held.dev.time.sysRef = true ∧ held.dev.time.lost10m = true :=
  ⟨open_up, new_up, rfl, ⟨ready_of _ _ _ _ _ (by decide), by decide⟩, ⟨⟨by decide, rfl, rfl, fun i e h => by simp at h⟩, rfl, rfl, by decide⟩,
    by decide⟩
/-- Discipline in mode 1: an edge 2,000 ns late, the third of three; locked, an edge that comes too soon after the last; and seven good ones. -/
abbrev servo : State := { up with dev := { up.dev with time := { up.dev.time with ctrl := 0x3411, sec := 12, ns := 2000, last := some 11000000000, big := 2 } } }
abbrev locked : State := { up with dev := { up.dev with time := { up.dev.time with ctrl := 0x3411, sec := 12, locked := true, last := some 11500000000, good := 8 } } }
abbrev good7 : State := { up with dev := { up.dev with time := { up.dev.time with ctrl := 0x3411, sec := 12, ns := 20, last := some 11000000000, good := 7 } } }
theorem wit_ServoFollowsThePulse : servo.Settled ∧ servo.dev.board.resetN = false ∧ servo.dev.time.ctrl.toNat % 4 ≠ 0 ∧
    (∀ p, servo.dev.time.last = some p → p + 500000000 ≤ (servo.dev.devNs : Int) + servo.dev.time.adj.toInt) ∧
    servo.dev.time.big = 2 ∧ 1000 < (2000 : Int).natAbs ∧ locked.Settled ∧ locked.dev.time.locked = true ∧
    (∃ p, locked.dev.time.last = some p ∧ ¬p + 999000000 ≤ (locked.dev.devNs : Int) + locked.dev.time.adj.toInt) ∧
    good7.Settled ∧ 7 ≤ good7.dev.time.good ∧ (good7.dev.devNs : Int) % 1000000000 = 20 :=
  ⟨⟨by decide, rfl, rfl, fun i e h => by simp at h⟩, rfl, by simp, fun p h => by obtain rfl : 11000000000 = p := Option.some.inj h; simp [Dev.devNs], rfl, by simp,
    ⟨by decide, rfl, rfl, fun i e h => by simp at h⟩, rfl, ⟨_, rfl, by simp [Dev.devNs]⟩, ⟨by decide, rfl, rfl, fun i e h => by simp at h⟩,
    by simp, by simp [Dev.devNs]⟩
set_option maxRecDepth 8000 in
/-- Table 15-1: the word 0 and its check bits. -/
theorem wit_CheckCodesCorrectOneFindTwo : secded chipCols 0 = .good ∧ secded dramCols 0 = .good := by decide
abbrev frozen : State := { up with dev := { up.dev with ddr := { up.dev.ddr with subs := [(7, { st := 1 })] } } }
theorem wit_ScrubAndRetirement : up.Open ∧ up.New tg ∧ up.Free (.memScrubSet tg 0 0 168) tg 0 (cmdMemScrubSet tg 0 0 168 up.dev) ∧
    up.Free (.memRetire tg 0x0C000007) tg 0x0C000007 (cmdMemRetire tg 0x0C000007 up.dev) ∧ (up.dev.sub 7).st ≠ 1 ∧ frozen.Open ∧
    (frozen.dev.sub 7).st = 1 ∧ frozen.Ready (.memRetire tg 0x0C000007) tg 0x0C000007 (cmdMemRetire tg 0x0C000007 frozen.dev) :=
  ⟨open_up, new_up, ⟨ready_of _ _ _ _ _ (by decide), by decide⟩, ⟨ready_of _ _ _ _ _ (by decide), by decide⟩, by decide,
    ⟨⟨by decide, rfl, rfl, fun i e h => by simp at h⟩, rfl, rfl, by decide⟩, by decide, ready_of _ _ _ _ _ (by decide)⟩
theorem wit_CountersAreGathered : up.Settled ∧ up.dev.board.resetN = false ∧ up.dev.ddr.ready = true ∧ isGathered up.dev.variant 0 = true ∧
    up.dev.backOk 0 = true ∧ up.booted ∧ (0x70040 : Word).toNat < 0x1000000 ∧ isCtrReg up.dev.variant (0x70040 : Word).toNat = true :=
  ⟨settled_up, rfl, rfl, by decide, by decide, booted_up, by decide, by decide⟩
abbrev window : State := { up with dev := { up.dev with tally := { wins := [(95, { en := true, evt := true, ms := 1, cur := { outB := 9 } })] } } }
theorem wit_BandwidthWindows : window.Open ∧ window.dev.board.resetN = false ∧ window.dev.variant.hasLane (95 - 64) = true ∧
    window.dev.variant.hasPort 63 = true ∧ (window.dev.win 95).en = true ∧ (window.dev.win 95).evt = true ∧ (window.dev.win 63).en = false ∧
    window.dev.board.bootDone = true :=
  ⟨⟨⟨by decide, rfl, rfl, fun i e h => by simp at h⟩, rfl, rfl, by decide⟩, by decide⟩

/-! ### Results worked out by hand from the manual -/

/-- What the next state of an outcome shows. -/
def seen {α : Type} (o : Host.Outcome State Fault Refusal) (f : State → α) : Option α :=
  match o with
  | .next t => some (f t)
  | _ => none
abbrev gr (n : BitVec 5) (t : State) : Word := (t.dev.winder 0).rg n

-- Table 6-7, with g1 = 5, g2 = 0xFFFFFFFF, g3 = 3, g4 = 0x80000000.
theorem test_add_wraps : seen (exec (.add 0 8 2 3) (runAt 0x01021800)) (gr 8) = some 2 := by decide
theorem test_add_g0 : seen (exec (.add 0 0 2 3) (runAt 0x00021800)) (gr 0) = some 0 := by decide
theorem test_sub_wraps : seen (exec (.sub 0 1 3 1) (runAt 0x04230800)) (gr 1) = some 0xFFFFFFFE := by decide
theorem test_sar_sign : seen (exec (.sar 0 8 4 3) (runAt 0x1D041800)) (gr 8) = some 0xF0000000 := by decide
theorem test_shr_zero : seen (exec (.shr 0 8 4 3) (runAt 0x19041800)) (gr 8) = some 0x10000000 := by decide
theorem test_mulhu : seen (exec (.mulhu 0 8 2 2) (runAt 0x25021000)) (gr 8) = some 0xFFFFFFFE := by decide
theorem test_slt_signed : seen (exec (.slt 0 8 4 3) (runAt 0x31041800)) (gr 8) = some 1 := by decide
theorem test_sltu : seen (exec (.sltu 0 8 4 3) (runAt 0x35041800)) (gr 8) = some 0 := by decide
theorem test_subsat : seen (exec (.subsat 0 8 3 1) (runAt 0x39030800)) (gr 8) = some 0 := by decide
theorem test_mfs_rem : seen (exec (.mfs 0 8 2) (runAt 0x3D020000)) (gr 8) = some 100000 := by decide
-- Table 6-8.
theorem test_addi_sext : seen (exec (.addi 0 8 1 0xFFFF) (runAt 0x4101FFFF)) (gr 8) = some 4 := by decide
theorem test_andi_zext : seen (exec (.andi 0 8 2 0xFFFF) (runAt 0x4502FFFF)) (gr 8) = some 0xFFFF := by decide
theorem test_slti_sext : seen (exec (.slti 0 8 1 0xFFFF) (runAt 0x5901FFFF)) (gr 8) = some 0 := by decide
theorem test_sltiu_zext : seen (exec (.sltiu 0 8 1 0xFFFF) (runAt 0x5D01FFFF)) (gr 8) = some 1 := by decide
theorem test_rori : seen (exec (.rori 0 8 1 4) (runAt 0x55010064)) (gr 8) = some 0x50000000 := by decide
theorem test_lui : seen (exec (.lui 0 8 0x8001) (runAt 0x51008001)) (gr 8) = some 0x80010000 := by decide
-- R205 to R207: the post-increment of a base that a load also writes is lost; a store sees the base before it.
theorem test_ldw_own_base : seen (exec (.ldw 0 1 1 true 4) (runAt 0x60218004)) (gr 1) = some 0 := by decide
theorem test_stw_own_base : seen (exec (.stw 0 1 1 true 4) (runEnd 0x64218004)) (fun t => ((t.dev.winder 0).lw 4, gr 1 t)) = some (5, 9) := by decide
theorem test_stw_below_calendar : seen (exec (.stw 0 1 7 false 0) (runAt 0x64270000)) (fun t => (t.dev.winder 0).lw 0xDFFC) = some 5 := by decide
theorem test_sta_program_bytes : seen (exec (.sta 0 1 0 false 44) (runAt 0x7420002C)) (fun t => (t.dev.port 0).wnd.alloc) = some side.alloc := by decide
-- R208 and R210: the taken branch to 7 leaves the loop of 1 to 5; the link of a jump.
theorem test_beq_pops : seen (exec (.beq 0 0 0 4) (runAt 0x80000004)) (fun t => ((t.dev.winder 0).pc, (t.dev.winder 0).loops)) = some (7, []) := by decide
theorem test_bltu_falls : seen (exec (.bltu 0 2 1 4) (runAt 0x90410004)) (fun t => (t.dev.winder 0).pc) = some 3 := by decide
theorem test_jal_link : seen (exec (.jal 0 8 6) (runAt 0x99000006)) (fun t => ((t.dev.winder 0).pc, gr 8 t)) = some (6, 3) := by decide
-- R209: a count field of 0 is 4,096; a register count of 0 skips the body.
theorem test_loopi_zero : seen (exec (.loopi 0 0 2) (runAt 0x9E000002)) (fun t => (t.dev.winder 0).loops.head?) = some (some ⟨3, 4, 4096⟩) := by decide
theorem test_loop_skips : seen (exec (.loopR 0 0 3) (runAt 0x9C000003)) (fun t => (t.dev.winder 0).pc) = some 6 := by decide
-- Two loops that share their end (R209): the inner one is done, the outer one goes back.
theorem test_loop_shared_end : loopStep 7 [⟨1, 7, 1⟩, ⟨0, 7, 2⟩] = (0, [⟨0, 7, 1⟩]) := by decide
-- Tables 6-11 to 6-14, with v1 = 0 to 7 and p1 = 0x0F.
theorem test_vadd_zeroing : seen (exec (.vadd 0 1 1 (.sca 1) (.zeroing 1)) (runAt 0xA0210CC0)) (fun t => ((t.dev.winder 0).rv 1 3, (t.dev.winder 0).rv 1 4)) =
    some (8, 0) := by decide
theorem test_vadd_merging : seen (exec (.vadd 0 1 1 (.sca 1) (.merging 1)) (runAt 0xA0210C80)) (fun t => ((t.dev.winder 0).rv 1 3, (t.dev.winder 0).rv 1 4)) =
    some (8, 4) := by decide
theorem test_vcltu_inactive : seen (exec (.vcltu 0 2 1 (.sca 1) (.zeroing 1)) (runAt 0xA4410CC2)) (fun t => (t.dev.winder 0).rp 2) = some 0x0F := by decide
theorem test_vrsum : seen (exec (.vrsum 0 8 1 .all) (runAt 0xAD010200)) (gr 8) = some 28 := by decide
theorem test_vrmini_none : seen (exec (.vrmini 0 8 1 (.merging 0)) (runAt 0xAD010003)) (gr 8) = some 8 := by decide
theorem test_vrmaxi : seen (exec (.vrmaxi 0 8 1 (.merging 1)) (runAt 0xAD010084)) (gr 8) = some 3 := by decide
theorem test_vext : seen (exec (.vext 0 8 1 6) (runAt 0xB1013003)) (gr 8) = some 6 := by decide
theorem test_pfirst : seen (exec (.pfirst 0 2 1) (runAt 0xB4410005)) (fun t => (t.dev.winder 0).rp 2) = some 1 := by decide
theorem test_pcnt : seen (exec (.pcnt 0 8 1) (runAt 0xB5010006)) (gr 8) = some 4 := by decide
-- R224 with V = 100 and SHIFT = 8: lane 2 has 2 bytes at weight 3, so its cost is ceil(512 / 3) = 171; a weight of 0 costs 2^30.
theorem test_vft : seen (exec (.vft 0 2 1 (.sca 3) .all) (runAt 0xC0411E00)) (fun t => (t.dev.winder 0).rv 2 2) = some 271 := by decide
theorem test_vft_no_weight : seen (exec (.vft 0 2 1 (.sca 0) .all) (runAt 0xC0410600)) (fun t => (t.dev.winder 0).rv 2 2) = some (0x40000000 + 100) := by decide
-- R225: 5 lies behind V = 100.
theorem test_vtadv_behind : seen (exec (.vtadv 0 8 1) (runAt 0xC5010001)) (gr 8) = some 100 := by decide
-- R228 and R229.
theorem test_calpop : seen (exec (.calpop 0 8 3) (runAt 0xCD030000)) (fun t => (gr 8 t, (t.dev.port 0).wnd.cal)) = some (9, []) := by decide
theorem test_calpop_empty : seen (exec (.calpop 0 8 1) (runAt 0xCD010000)) (gr 8) = some 0xFFFFFFFF := by decide
theorem test_rptget : seen (exec (.rptget 0 8 9) (runAt 0xD1004800)) (fun t => (gr 8 t, gr 9 t)) = some (7, 1500) := by decide
-- R173 and R231: record 5 from word 100, 16 words, is accepted.
theorem test_grant : seen (exec (.grant 0 11 1 9) (runAt 0xD5614800)) (fun t =>
    (gr 11 t, (t.dev.port 0).main.map.grants.map fun g => (g.allocId, g.start, g.size))) = some (0, [(1025, 100, 16)]) := by decide
-- R232 and Table 7-3: a window of 20 us is 20/125 of the frame's words; bit 19 says ranging.
theorem test_rngwin : seen (exec (.rngwin 0 11 0 10) (runAt 0xD9605000)) (fun t =>
    ((gr 11 t).toNat - 2 ^ 19, (t.dev.port 0).rngReqs.length)) = some ((20 * wordsPerFrame 3 + 124) / 125, 0) := by decide
-- R235: 24 words are demanded, 20 are there; record 7 has the higher PREC and loses 4 of its 5.
theorem test_precut : seen (exec (.precut 0 11 8 12) (runAt 0xDD686000)) (fun t => (gr 11 t, (t.dev.winder 0).lw 0x48, (t.dev.winder 0).lw 0x50)) =
    some (4, 0x10010, 0x20001) := by decide
-- R216: WAIT until CYC is 8.
theorem test_wait : seen (exec (.wait 0 1 3) (runAt 0xF0010003)) (fun t => (t.dev.winder 0).cycle) = some 8 := by decide
theorem test_halt : seen (exec (.halt 0) (runAt 0xF8000000)) (fun t => (t.dev.port 0).wnd.run) = some .halted := by decide
-- The CMD_DONE of NOP with SEQ 7 on ring 0 (Tables 2-6 and 2-9).
theorem test_nop_done : seen (exec (.nop tg 0) up) (fun t => t.bank.backlog.map (·.bytes)) =
    some [[0, 0, 0, 0, 1, 0, 0, 0xA0, 0, 0, 0, 0, 0, 0, 0, 0, 7, 0, 0, 0, 0, 0, 1, 0, 0, 0, 0, 0, 0, 0, 0, 0]] := by decide
theorem test_wait_event_timeout : seen (exec (.waitEvent tg 0 1 0 0 0) up) (fun t => t.bank.backlog.map fun e => e.bytes.getD 20 0) = some [4] := by decide
-- R307: 1 ms is 40 ticks, and 101 us are 5.
theorem test_holddown : seen (exec (.tblHolddownSet tg 0x0F200025 1000) up) (fun t => t.dev.tbl.hold) = some [] := by decide
theorem test_holddown_up : seen (exec (.tblHolddownSet tg 0x0F200025 101) up) (fun t => t.dev.tbl.hold) = some [(0x25, 5)] := by decide
-- R245: decoder 0 is at work, decoder 1 takes the codeword.
theorem test_dispatch : seen (exec (.ldpcDispatch 0) pool) (fun t => (t.dev.dec 1).held) = some (some ⟨1, 0, 0⟩) := by decide
-- The worked example of R410: edge 1 at 12.000 000 040 s, e = 40, I = -2.5 ppb, FREQ = -97.
abbrev edge1 : State := { up with dev := { up.dev with time := { up.dev.time with ctrl := 0x3411, sec := 12, ns := 40 } } }
theorem test_servo_example : seen (exec .ppsInEdge edge1) (fun t => (t.dev.time.err, t.dev.time.integ, t.dev.time.freq)) =
    some (40, -10737418240, -97) := by decide +kernel
-- R416: the fraction and the seconds of the instant are latched.
theorem test_now_latch : seen (exec .todNowNsRead edge1) (fun t => (t.dev.time.latSec, t.dev.todReg 0x10)) = some (12, 12) := by decide
-- R451: a gather takes the pending carry as 2^32.
abbrev full : State := { up with dev := { up.dev with ctrs := [(0, { val := 0, cp := true })] } }
theorem test_gather_carry : seen (exec (.counterGather 0) full) (fun t => ((t.dev.back 0).b, (t.dev.ctr 0).cp)) =
    some (0x100000000, false) := by decide
-- R76: a gap in the sequence numbers halts the ring with status 5 (Table 2-5).
theorem test_gap : seen (exec (.commandEntryFetch 0) gap) (fun t => ((t.dev.cmdRing 0).halted, t.bank.backlog.map fun e => e.bytes.getD 20 0)) =
    some (true, [7, 5]) := by decide
-- Table 0-1: the ports 32 to 63 of an SKX3250 do not exist.
theorem test_absent : seen (exec (.treeDisable tg 0x0100003F 3) small) (fun t => t.bank.backlog.map fun e => e.bytes.getD 20 0) = some [1] := by decide

end Sys2Proof.Tests
end

section
/-! SUPPORT. Host writes of the registers of the hub, the memory unit and a tree port: where an offset of BAR0 leads, what each register
keeps of what is written, and that nothing else changes. -/
namespace Sys2Proof.Machine
open Sys2Proof

/-! ### Registers that are no counters (R450, Tables 19-2 and 19-3) -/

theorem CtrBlock.holds_eq_false (b : CtrBlock) (v : Variant) (off : Nat)
    (h : ¬ (b.base ≤ off ∧ (off - b.base) / b.stride < b.n ∧ b.lo ≤ (off - b.base) % b.stride ∧ (off - b.base) % b.stride ≤ b.hi)) :
    b.holds v off = false := by
  simp only [CtrBlock.holds, Bool.and_eq_false_iff, decide_eq_false_iff_not]
  exact .inl fun ⟨h1, h2, h3, h4, _⟩ => h ⟨h1, h2, h3, h4⟩

/-- The first 64 bytes of the HUB, the memory and the PAD block hold no counter. -/
abbrev plainHubReg (off : Nat) : Prop := (off / 0x10000 = 0 ∨ off / 0x10000 = 8 ∨ off / 0x10000 = 0xA) ∧ off % 0x10000 < 0x40

/-- In the area of a tree port the counters begin 64 bytes into a page of 256. -/
abbrev plainPortReg (o : Nat) : Prop := o < 0x400 ∧ o % 0x100 < 0x40

theorem isCtrReg_hub (v : Variant) (off : Nat) (h : plainHubReg off) : isCtrReg v off = false := by
  obtain ⟨hb, ho⟩ := h
  refine List.any_eq_false.2 fun b hm => Bool.eq_false_iff.1 (b.holds_eq_false v off ?_)
  revert b
  simp only [ctrBlocks, hubCtrs, dieCtrs, List.forall_mem_append, List.forall_mem_cons, List.not_mem_nil, false_imp_iff, implies_true, and_true]
  and_intros <;> omega

theorem isCtrReg_port (v : Variant) (p : Fin 64) (o : Nat) (h : plainPortReg o) : isCtrReg v (portBase p + o) = false := by
  obtain ⟨hb, ho⟩ := h
  have hp := p.isLt
  refine List.any_eq_false.2 fun b hm => Bool.eq_false_iff.1 (b.holds_eq_false v _ ?_)
  revert b
  simp only [ctrBlocks, hubCtrs, dieCtrs, List.forall_mem_append, List.forall_mem_cons, List.not_mem_nil, false_imp_iff, implies_true,
    and_true, portBase]
  and_intros <;> split <;> omega

/-! ### Where a write leads -/

theorem dieSite_port (p : Fin 64) (o : Nat) (h : o < 0x400) :
    dieSite ((portBase p + o) / 0x1000000 - 1) ((portBase p + o) % 0x1000000) = .port p o := by
  have hp := p.isLt
  have hx : (portBase p + o) / 0x1000000 - 1 = p / 32 := by unfold portBase; split <;> omega
  have hm : (portBase p + o) % 0x1000000 = 0x40000 * (p % 32) + o := by unfold portBase; split <;> omega
  rw [hx, hm, dieSite, if_pos (by omega), if_pos (by omega)]
  congr 1 <;> omega

theorem Dev.regSet_hub (d : Dev) (off : Nat) (v : Word) (h : plainHubReg off) : d.regSet off v = d.hubSet off v := by
  have hlt : off < 0x1000000 := by obtain ⟨hb, ho⟩ := h; omega
  simp [Dev.regSet, hlt, isCtrReg_hub _ _ h]

theorem Dev.regSet_port (d : Dev) (p : Fin 64) (o : Nat) (v : Word) (h : plainPortReg o) (hu : d.portUp p = true) :
    d.regSet (portBase p + o) v = d.portSet p o v := by
  have ho := h.1
  have hlo : ¬ portBase p + o < 0x1000000 := by unfold portBase; split <;> omega
  have hhi : portBase p + o < 0x3000000 := by unfold portBase; split <;> omega
  have hx : (portBase p + o) / 0x1000000 - 1 = dieOfPort p := by unfold portBase dieOfPort; split <;> omega
  simp only [Dev.portUp, Variant.hasPort, Bool.and_eq_true, Bool.not_eq_true'] at hu
  simp only [Dev.regSet, if_neg hlo, if_pos hhi, isCtrReg_port _ p o h, Dev.dieSet, dieSite_port p o ho]
  simp [hx, hu]

/-- Once the start-up is done a host write sets the register at its offset (R466). -/
theorem State.event_regWrite (s : State) (hs : s.Settled) (hb : s.booted) (off : Nat) (v : Word) (e : Dev)
    (he : s.dev.regSet off v = e) (ho : e.outbox = s.dev.outbox) (hd : e.dma = s.dev.dma) :
    s.event (fun d => d.regWrite off v) = .next { s with dev := e } := by
  obtain ⟨hr, hboot⟩ := hb
  have hw : s.dev.regWrite off v = e := by simp [Dev.regWrite, hr, hboot, he]
  rw [s.event_on _ hr, hw, s.run_silent hs e ho hd]

theorem State.event_hubWrite (s : State) (hs : s.Settled) (hb : s.booted) (off : Nat) (v : Word) (e : Dev) (h : plainHubReg off)
    (he : s.dev.hubSet off v = e) (ho : e.outbox = s.dev.outbox) (hd : e.dma = s.dev.dma) :
    s.event (fun d => d.regWrite off v) = .next { s with dev := e } :=
  s.event_regWrite hs hb off v e ((s.dev.regSet_hub off v h).trans he) ho hd

/-- A write at a multiple of 4 is a write of one register (R500). -/
theorem exec_registerWrite_aligned (s : State) (off v : Word) (h : off.toNat % 4 = 0) :
    exec (.registerWrite off v) s = s.event fun d => d.regWrite off.toNat v := by
  show (s.event fun d => d.anyWrite off.toNat v) = _
  simp only [Dev.anyWrite, if_pos h]

/-! ### Registers of the hub and the memory unit (Tables 0-7, 15-14, 19-4) -/

/-- What the two registers keep of a W1C bit: `w` is the bit written, `stamp` the cycle in which the device set it. -/
theorem w1c_kept (w : Bool) (stamp now : Option Nat) : (!w || stamp == now) = !(w && stamp != now) := by
  simp only [bne, Bool.not_and, Bool.not_not]

/-- HOST_RESET is a W1C bit (R13); one that the device set in the same cycle stays (R504). -/
theorem Dev.hubSet_bootStatus (d : Dev) (v : Word) : d.hubSet 8 v =
    { d with board := { d.board with hostReset := d.board.hostReset && (!v.getLsbD 6 || d.board.hostResetAt == some d.now) } } := by
  rw [w1c_kept]
  show (if _ then _ else _) = _
  split
  next h => simp only [h, Bool.not_true, Bool.and_false]; rfl
  next h => simp only [h, Bool.not_false, Bool.and_true]

/-- UE_SEEN is a W1C bit (R13, R504). -/
theorem Dev.hubSet_diagStatus (d : Dev) (v : Word) : d.hubSet 0x14 v =
    { d with board := { d.board with ueSeen := d.board.ueSeen && (!v.getLsbD 0 || d.board.ueAt == some d.now) } } := by
  rw [w1c_kept]
  show (if _ then _ else _) = _
  split
  next h => simp only [h, Bool.not_true, Bool.and_false]; rfl
  next h => simp only [h, Bool.not_false, Bool.and_true]

/-- MEM_DDR_CFG[k] is written only while DRAM_EN is 0 (Table 15-14). -/
theorem Dev.hubSet_memCfg (d : Dev) (k : Fin 4) (v : Word) : d.hubSet (0x80010 + 4 * k.val) v =
    if d.ddr.ctrl.getLsbD 0 then d
    else { d with ddr := { d.ddr with cfg := sset (fun _ => 0) d.ddr.cfg k (v &&& 0xFF) } } := by
  have hk := k.isLt
  have hq : (0x80010 + 4 * k.val) / 0x10000 = 8 := by omega
  have hm : (0x80010 + 4 * k.val) % 0x10000 = 0x10 + 4 * k.val := by omega
  have hi : (0x10 + 4 * k.val - 0x10) / 4 = k.val := by omega
  rw [Dev.hubSet, hq, hm]
  show d.memWriteReg _ _ = _
  rw [Dev.memWriteReg, if_neg (by omega), if_pos (by omega), hi]
  rfl

theorem Dev.hubSet_memCfg_frame (d : Dev) (k : Fin 4) (v : Word) : d.hubSet (0x80010 + 4 * k.val) v =
    { d with ddr := { d.ddr with cfg := (d.hubSet (0x80010 + 4 * k.val) v).ddr.cfg } } := by
  rw [d.hubSet_memCfg k v]
  split <;> rfl

theorem Dev.hubSet_memCfg_get (d : Dev) (k : Fin 4) (v : Word) (j : Nat) :
    sget (fun _ => 0) (d.hubSet (0x80010 + 4 * k.val) v).ddr.cfg j =
      if j = k.val ∧ d.ddr.ctrl.getLsbD 0 = false then v &&& 0xFF else sget (fun _ => 0) d.ddr.cfg j := by
  rw [d.hubSet_memCfg k v]
  cases d.ddr.ctrl.getLsbD 0 <;> simp [sget_sset]

theorem exec_memCfgWrite (s : State) (hs : s.Settled) (hb : s.booted) (k : Fin 4) (v : Word) :
    exec (.registerWrite (BitVec.ofNat 32 (0x80010 + 4 * k.val)) v) s =
      .next { s with dev := s.dev.hubSet (0x80010 + 4 * k.val) v } := by
  have hk := k.isLt
  have hoff : (BitVec.ofNat 32 (0x80010 + 4 * k.val)).toNat = 0x80010 + 4 * k.val := by rw [BitVec.toNat_ofNat]; omega
  have hframe := s.dev.hubSet_memCfg_frame k v
  rw [exec_registerWrite_aligned s _ v (by omega), hoff]
  exact s.event_hubWrite hs hb _ v _ (by unfold plainHubReg; omega) rfl (by rw [hframe]) (by rw [hframe])

/-! ### Registers of a tree port (Tables 3-12 and 4-8) -/

/-- Tree port `p` becomes `q` and nothing else changes. -/
def Dev.OnlyPort (d e : Dev) (p : Nat) (q : Port) : Prop :=
  e = { d with ports := e.ports } ∧ e.port p = q ∧ ∀ k, k ≠ p → e.port k = d.port k

theorem Dev.onlyPort_modPort (d : Dev) (p : Nat) (f : Port → Port) : d.OnlyPort (d.modPort p f) p (f (d.port p)) :=
  ⟨rfl, (d.modPort_get p f p).trans (if_pos rfl), fun k hk => (d.modPort_get p f k).trans (if_neg hk)⟩

theorem Dev.onlyPort_self (d : Dev) (p : Nat) : d.OnlyPort d p (d.port p) := ⟨rfl, rfl, fun _ _ => rfl⟩

/-- The FENCE bit of TREE_STATUS is W1C (R13, R504). -/
theorem Dev.onlyPort_status (d : Dev) (p : Nat) (v : Word) : d.OnlyPort (d.portSet p 0x004 v) p
    { d.port p with fence := (d.port p).fence && (!v.getLsbD 4 || (d.port p).fenceAt == some d.now) } :=
  d.onlyPort_modPort p fun q => { q with fence := q.fence && (!v.getLsbD 4 || q.fenceAt == some d.now) }

/-- TREE_FRAME_OFS keeps OFS (R93). -/
theorem Dev.onlyPort_ofs (d : Dev) (p : Nat) (v : Word) :
    d.OnlyPort (d.portSet p 0x00C v) p { d.port p with ofs := v &&& 0x7FFFFF } :=
  d.onlyPort_modPort p fun q => { q with ofs := v &&& 0x7FFFFF }

/-- RNG_TEQD is kept while no terminal is ranged, and ignored otherwise (R128). -/
theorem Dev.onlyPort_teqd (d : Dev) (p : Nat) (v : Word) :
    d.OnlyPort (d.portSet p 0x104 v) p { d.port p with teqd := if (d.port p).rangedCount = 0 then v else (d.port p).teqd } := by
  show d.OnlyPort (if _ then _ else _) _ _
  split
  next => exact d.onlyPort_modPort p fun q => { q with teqd := v }
  next => exact d.onlyPort_self p

/-- A write of TREE_RSSI (R114): TERM and ARM stay where ARM is written as 1 over an ARM that is 1, or was as the trigger fired in the same
cycle; DONE is a W1C bit (R13, R504). -/
theorem Port.rssiWrite_eq (q : Port) (now term : Nat) (arm clr : Bool) : q.rssiWrite now term arm clr =
    { q with
      rssiTerm := if (q.rssiArm = true ∨ q.firedAt = some now) ∧ arm = true then q.rssiTerm else term
      rssiArm := if q.firedAt = some now ∧ arm = true then q.rssiArm else arm
      rssiDone := q.rssiDone && (!clr || decide (q.firedAt = some now)) } := by
  have hf : (q.firedAt == some now) = decide (q.firedAt = some now) := by
    rw [Bool.eq_iff_iff, beq_iff_eq, decide_eq_true_iff]
  cases arm with
  | false => simp [Port.rssiWrite, hf]
  | true =>
    by_cases h : q.firedAt = some now
    · simp [Port.rssiWrite, h]
    · cases ha : q.rssiArm <;> simp [Port.rssiWrite, hf, h, ha]

theorem Dev.onlyPort_rssi (d : Dev) (p : Nat) (v : Word) : d.OnlyPort (d.portSet p 0x018 v) p { d.port p with
    rssiTerm := if ((d.port p).rssiArm = true ∨ (d.port p).firedAt = some d.now) ∧ v.getLsbD 12 = true then (d.port p).rssiTerm
      else v.toNat % 2 ^ 10
    rssiArm := if (d.port p).firedAt = some d.now ∧ v.getLsbD 12 = true then (d.port p).rssiArm else v.getLsbD 12
    rssiDone := (d.port p).rssiDone && (!v.getLsbD 13 || decide ((d.port p).firedAt = some d.now)) } := by
  rw [← Port.rssiWrite_eq]
  exact d.onlyPort_modPort p fun q => q.rssiWrite d.now (v.toNat % 2 ^ 10) (v.getLsbD 12) (v.getLsbD 13)

/-- TREE_RSSI_ARM_WRITE writes TERM, ARM, and a 0 for DONE. -/
theorem rssiArmWord_fields (term : BitVec 10) (arm : Bool) :
    let v := BitVec.ofNat 32 (term.toNat + 2 ^ 12 * b2n arm)
    v.toNat % 2 ^ 10 = term.toNat ∧ v.getLsbD 12 = arm ∧ v.getLsbD 13 = false := by
  have ht := term.isLt
  cases arm
  all_goals
    simp only [b2n, BitVec.toNat_ofNat, BitVec.getLsbD_ofNat, Nat.testBit_eq_decide_div_mod_eq]
    refine ⟨by omega, ?_, ?_⟩ <;> simp <;> omega

/-- TREE_RSSI_ARM_WRITE (R114). -/
theorem Dev.onlyPort_rssiArm (d : Dev) (p : Nat) (term : BitVec 10) (arm : Bool) :
    d.OnlyPort (d.portSet p 0x018 (BitVec.ofNat 32 (term.toNat + 2 ^ 12 * b2n arm))) p { d.port p with
      rssiTerm := if ((d.port p).rssiArm = true ∨ (d.port p).firedAt = some d.now) ∧ arm = true then (d.port p).rssiTerm else term.toNat
      rssiArm := if (d.port p).firedAt = some d.now ∧ arm = true then (d.port p).rssiArm else arm } := by
  obtain ⟨hterm, harm, hdone⟩ := rssiArmWord_fields term arm
  have h := d.onlyPort_rssi p (BitVec.ofNat 32 (term.toNat + 2 ^ 12 * b2n arm))
  rw [hterm, harm, hdone] at h
  simpa using h

/-- A host write of a register of a tree port that is there: the port it leaves, in the state that follows. -/
theorem State.event_portWrite (s : State) (hs : s.Settled) (hb : s.booted) (p : Fin 64) (hu : s.dev.portUp p = true) (o : Nat) (v : Word)
    (q : Port) (ho : plainPortReg o) (hq : s.dev.OnlyPort (s.dev.portSet p o v) p q) :
    ∃ t, s.event (fun d => d.regWrite (portBase p + o) v) = .next t ∧
      t = { s with dev := { s.dev with ports := t.dev.ports } } ∧ t.dev.port p = q ∧ ∀ k, k ≠ p.val → t.dev.port k = s.dev.port k := by
  have hset := s.dev.regSet_port p o v ho hu
  obtain ⟨hdev, hport, hother⟩ := hq
  refine ⟨{ s with dev := s.dev.portSet p o v }, s.event_regWrite hs hb _ v _ hset ?_ ?_, ?_, hport, hother⟩
  · rw [hdev]
  · rw [hdev]
  · exact congrArg (fun e => { s with dev := e }) hdev

/-- Settles O46: each offset is followed to its register, then the register's own rule says what it keeps. -/
theorem hubAndTreeRegisters : Obligations.HubAndTreeRegisters := by
  intro s p v hs hb hu
  refine ⟨?_, ?_, ?_, ?_, ?_, fun term arm => ?_, ?_, ?_, fun k => ?_, ?_, ?_, ?_, ?_⟩
  · exact s.event_hubWrite hs hb 8 v _ (by decide) (s.dev.hubSet_bootStatus v) rfl rfl
  · exact s.event_hubWrite hs hb 0x14 v _ (by decide) (s.dev.hubSet_diagStatus v) rfl rfl
  · exact s.event_hubWrite hs hb 0x10 v _ (by decide) rfl rfl rfl
  · exact s.event_portWrite hs hb p hu 0x004 v _ (by decide) (s.dev.onlyPort_status p v)
  · exact s.event_portWrite hs hb p hu 0x018 v _ (by decide) (s.dev.onlyPort_rssi p v)
  · exact s.event_portWrite hs hb p hu 0x018 _ _ (by decide) (s.dev.onlyPort_rssiArm p term arm)
  · exact s.event_portWrite hs hb p hu 0x00C v _ (by decide) (s.dev.onlyPort_ofs p v)
  · exact s.event_hubWrite hs hb 0x80000 v _ (by decide) rfl rfl rfl
  · exact ⟨_, exec_memCfgWrite s hs hb k v, congrArg (fun e => { s with dev := e }) (s.dev.hubSet_memCfg_frame k v),
      s.dev.hubSet_memCfg_get k v⟩
  · exact (exec_registerWrite_aligned s 0xC v rfl).trans (s.event_hubWrite hs hb 0xC v _ (by decide) rfl rfl rfl)
  · exact (exec_registerWrite_aligned s 0xA0004 v rfl).trans (s.event_hubWrite hs hb 0xA0004 v _ (by decide) rfl rfl rfl)
  · exact (exec_registerWrite_aligned s 0 v rfl).trans (s.event_hubWrite hs hb 0 v _ (by decide) rfl rfl rfl)
  · exact s.event_portWrite hs hb p hu 0x104 v _ (by decide) (s.dev.onlyPort_teqd p v)

end Sys2Proof.Machine
end

section
/-! SUPPORT. The events of the tree side, and the resets of PCI Express: an event of a unit has its effect where the unit is reached and none
elsewhere; a request that the banksman answers with nothing leaves the state to the command. -/
namespace Sys2Proof.Machine
open Sys2Proof

/-! ### Events of one unit (R23, R472, R486) -/

/-- How an event `o` of a unit meets the package: `f` where the unit is up, and nothing where it is not or while RESET_N is asserted. -/
def State.Meets (s : State) (up : Bool) (f : Dev → Dev) (o : Host.Outcome State Fault Refusal) : Prop :=
  (s.dev.board.resetN = false → up = true → o = .next (s.run (f s.dev))) ∧
  (¬s.dev.board.resetN = false ∨ up = false → o = .next (s.run s.dev))

theorem State.meets_of_eq (s : State) (up : Bool) (f : Dev → Dev) :
    s.Meets up f (.next (s.run (if s.dev.board.resetN = false ∧ up = true then f s.dev else s.dev))) := by
  refine ⟨fun hr hu => by rw [if_pos ⟨hr, hu⟩], fun hn => ?_⟩
  rw [if_neg]
  rintro ⟨hr, hu⟩
  rcases hn with hn | hn
  · exact hn hr
  · simp [hu] at hn

theorem State.atPort_meets (s : State) (p : Nat) (f : Dev → Dev) : s.Meets (s.dev.portUp p) f (s.atPort p f) :=
  s.atPort_eq p f ▸ s.meets_of_eq _ f

theorem State.atWinder_meets (s : State) (w : Nat) (f : Dev → Dev) : s.Meets (s.dev.winderUp w) f (s.atWinder w f) :=
  s.atWinder_eq w f ▸ s.meets_of_eq _ f

theorem State.atCluster_meets (s : State) (c : Nat) (f : Dev → Dev) : s.Meets (s.dev.portUp (4 * c)) f (s.atCluster c f) :=
  s.atCluster_eq c f ▸ s.meets_of_eq _ f

theorem State.atDecoder_meets (s : State) (n : Nat) (f : Dev → Dev) :
    s.Meets (s.dev.variant.hasDecoders && s.dev.winderUp n) f (s.atDecoder n f) :=
  s.atDecoder_eq n f ▸ s.meets_of_eq _ f

theorem Variant.hasDecoders_iff (v : Variant) : v.hasDecoders = true ↔ v ≠ .skx6410 := by simp [Variant.hasDecoders]

/-- An event of an LDPC decoder, by the variants that have decoders (Table 0-1). -/
theorem State.atDecoder_cases (s : State) (n : Nat) (f : Dev → Dev) :
    (s.dev.board.resetN = false → s.dev.variant ≠ .skx6410 → s.dev.winderUp n = true → s.atDecoder n f = .next (s.run (f s.dev))) ∧
    (¬s.dev.board.resetN = false ∨ s.dev.variant = .skx6410 ∨ s.dev.winderUp n = false → s.atDecoder n f = .next (s.run s.dev)) := by
  obtain ⟨hup, hno⟩ := s.atDecoder_meets n f
  refine ⟨fun hr hv hw => hup hr ?_, fun h => hno (h.imp_right ?_)⟩
  · rw [Bool.and_eq_true]
    exact ⟨s.dev.variant.hasDecoders_iff.2 hv, hw⟩
  · rintro (hv | hw)
    · rw [hv]; rfl
    · rw [hw, Bool.and_false]

/-! ### Events that give way to commands of the same cycle (R69, R171) -/

theorem State.yielding_held (s : State) (q : Instr → Bool) (i : Instr) (f : Dev → Dev) (hr : ¬s.dev.board.resetN = false) :
    s.yielding q i f = .next (s.run s.dev) := s.event_held _ (eq_true_of_ne_false hr)

/-- An event `o` of a tree port that gives way while `q` holds of a waiting command. -/
theorem State.yielding_port_cases (s : State) (q : Instr → Bool) (i : Instr) (p : Nat) (f : Dev → Dev)
    (o : Host.Outcome State Fault Refusal) (ho : o = s.yielding q i fun d => if d.portUp p = true then f d else d) :
    (s.dev.board.resetN = false → s.pending.any q = false → s.dev.portUp p = true → o = .next (s.run (f s.dev))) ∧
    (s.dev.board.resetN = false → s.pending.any q = true → o = .next (s.run { s.dev with late := s.dev.late ++ [i] })) ∧
    (¬s.dev.board.resetN = false ∨ (s.pending.any q = false ∧ s.dev.portUp p = false) → o = .next (s.run s.dev)) := by
  subst ho
  obtain ⟨hup, hno⟩ := s.atPort_meets p f
  refine ⟨fun hr hq hu => ?_, fun hr hq => ?_, ?_⟩
  · exact (s.yielding_now q i _ hq).trans (hup hr hu)
  · exact (s.yielding_late q i _ hq).trans (s.event_on _ hr)
  · rintro (hr | ⟨hq, hu⟩)
    · exact s.yielding_held q i _ hr
    · exact (s.yielding_now q i _ hq).trans (hno (.inr hu))

/-- What a timeout gives way to is any waiting command. -/
theorem any_true_eq_not_isEmpty {α : Type} (l : List α) : l.any (fun _ => true) = !l.isEmpty := by cases l <;> rfl

/-- Every row of the list is the operation `unit` of one unit. -/
def State.Rows (s : State) (unit : (Dev → Dev) → Host.Outcome State Fault Refusal) (l : List (Instr × (Dev → Dev))) : Prop :=
  ∀ r ∈ l, exec r.1 s = unit r.2

theorem State.rows_nil (s : State) (unit : (Dev → Dev) → Host.Outcome State Fault Refusal) : s.Rows unit [] :=
  fun _ h => (List.not_mem_nil h).elim

theorem State.rows_cons_iff (s : State) (unit : (Dev → Dev) → Host.Outcome State Fault Refusal) (r : Instr × (Dev → Dev))
    (l : List (Instr × (Dev → Dev))) : s.Rows unit (r :: l) ↔ exec r.1 s = unit r.2 ∧ s.Rows unit l := List.forall_mem_cons

theorem State.Rows.exec_eq {s : State} {unit : (Dev → Dev) → Host.Outcome State Fault Refusal} {l : List (Instr × (Dev → Dev))}
    {e : Instr × (Dev → Dev)} (he : e ∈ l) (h : s.Rows unit l) : exec e.1 s = unit e.2 := h e he

/-- Settles O35: each row is the shared operation of its unit, and that operation says when the effect takes place. -/
theorem treeSideEvents : Obligations.TreeSideEvents := by
  intro s p n80 n16 cyc rem slot b o t flow lane found resp dec items i2c there
  refine ⟨fun e he => ?_, fun e he => ?_, fun e he => ?_, fun e he => ?_, fun e he => ?_, ?_⟩
  · have hrow : exec e.1 s = s.atPort p e.2 := State.Rows.exec_eq he (by
      simp only [State.rows_cons_iff, State.rows_nil, and_true]
      and_intros <;> rfl)
    exact hrow ▸ s.atPort_meets p e.2
  · simp only [List.mem_cons, List.not_mem_nil, or_false] at he
    rcases he with rfl | rfl
    · exact s.yielding_port_cases _ _ _ _ _ rfl
    · rw [← any_true_eq_not_isEmpty]
      exact s.yielding_port_cases _ _ _ _ _ rfl
  · have hrow : exec e.1 s = s.atWinder n80 e.2 := State.Rows.exec_eq he (by
      simp only [State.rows_cons_iff, State.rows_nil, and_true]
      and_intros <;> rfl)
    exact hrow ▸ s.atWinder_meets n80 e.2
  · have hrow : exec e.1 s = s.atDecoder n80 e.2 := State.Rows.exec_eq he (by
      simp only [State.rows_cons_iff, State.rows_nil, and_true]
      and_intros <;> rfl)
    exact hrow ▸ s.atDecoder_cases n80 e.2
  · have hrow : exec e.1 s = s.atCluster n16 e.2 := State.Rows.exec_eq he (by
      simp only [State.rows_cons_iff, State.rows_nil, and_true]
      and_intros <;> rfl)
    exact hrow ▸ s.atCluster_meets n16 e.2
  · have hrow : exec (.moduleI2cDone n16 i2c) s = s.yielding (fun _ => i2c == .noAnswer) (.moduleI2cDone n16 i2c) fun d =>
        if d.portUp (4 * n16) = true then d.i2cDone n16 i2c else d := rfl
    rw [hrow]
    refine ⟨fun hr hnow => ?_, fun hr hna hne => ?_, s.yielding_held _ _ _⟩
    · have hq : s.pending.any (fun _ => i2c == .noAnswer) = false := by rcases hnow with hnow | hnow <;> simp [hnow]
      exact (s.yielding_now _ _ _ hq).trans (s.event_on _ hr)
    · have hq : s.pending.any (fun _ => i2c == .noAnswer) = true := by
        simpa [hna] using List.exists_mem_of_ne_nil _ hne
      exact (s.yielding_late _ _ _ hq).trans (s.event_on _ hr)

/-! ### PCI Express resets (R38, R475) -/

/-- With no request left, nothing is delivered. -/
theorem State.deliver_none (n : Nat) (s : State) (ho : s.dev.outbox = []) : s.deliver n = s := by
  cases n with
  | zero => rw [State.deliver, ← ho]
  | succ n => rw [State.deliver, ho]

/-- A request that the banksman answers with no event, no write and no change is taken off. -/
theorem State.deliver_unanswered (n : Nat) (s : State) (op : BankOp) (rest : List BankOp) (ho : s.dev.outbox = op :: rest)
    (ha : op.apply s.bank = (s.bank, [])) : s.deliver (n + 1) = State.deliver n { s with dev := { s.dev with outbox := rest } } := by
  simp [State.deliver, ho, ha, newEvents]

/-- With nothing written to host memory, the end of a command is the delivery of its requests. -/
theorem State.run_of_no_dma (s : State) (d : Dev) (hd : d.dma = []) :
    s.run d = State.deliver (d.outbox.length + d.cmds.length + 1) { s with dev := d } := by
  obtain ⟨⟩ := d
  subst hd
  rfl

/-- A command whose one request goes unanswered changes the device alone. -/
theorem State.run_unanswered (s : State) (d : Dev) (op : BankOp) (ho : d.outbox = [op]) (hd : d.dma = [])
    (ha : op.apply s.bank = (s.bank, [])) : s.run d = { s with dev := { d with outbox := [] } } := by
  rw [s.run_of_no_dma d hd, State.deliver_unanswered _ { s with dev := d } op [] ho ha, State.deliver_none _ _ rfl]

/-- Out of reset, HOST_RESET is set (R475) and the banksman is told. -/
theorem Dev.pcieReset_eq (d : Dev) (kind : PcieReset) (hr : d.board.resetN = false) : d.pcieReset kind =
    { d with
      board := { d.board with hostReset := true, hostResetAt := some d.now }
      outbox := d.outbox ++ [.pcieReset] } := by
  rw [Dev.pcieReset, if_neg (by simp [hr])]
  rfl

/-- Settles O44: the reset sets HOST_RESET and tells the banksman, for whom it changes nothing. -/
theorem pcieResetKeepsTheDevice : Obligations.PcieResetKeepsTheDevice := by
  intro s kind hs hr
  have hrow : exec (.pcieReset kind) s = s.event fun d => d.pcieReset kind := rfl
  have hask := s.dev.pcieReset_eq kind hr
  have hrun := s.run_unanswered (s.dev.pcieReset kind) .pcieReset (by rw [hask, hs.outbox]; rfl) (by rw [hask]; exact hs.dma) rfl
  rw [hrow, s.event_on _ hr, hrun, hask, ← hs.outbox]

end Sys2Proof.Machine
end

section
/-! SUPPORT. What an Oliol instruction keeps of its winder and of what lies outside it; STA and the allocation-table window. -/
namespace Sys2Proof.Machine
open Sys2Proof

/-! ### What an instruction of a run keeps -/

/-- A winder without what an instruction of a run may write: its registers, its local memory, where it is in the program and the cycles
in which its parts are free. -/
def Winder.kept (x : Winder) : Winder :=
  { x with
    g := [], v := [], p := [], lmem := [], pc := 0, loops := [], cycle := 0, ready := []
    portFree := 0, loads := [], calFree := 0, localFree := 0 }

theorem Winder.setG_kept (x : Winder) (n : BitVec 5) (v : Word) : (x.setG n v).kept = x.kept := by
  unfold Winder.setG
  split <;> rfl

theorem Winder.sameRun_of_kept {x y : Winder} (h : y.kept = x.kept) : x.SameRun y :=
  ⟨(congrArg Winder.st h :), (congrArg Winder.port h :), (congrArg Winder.cause h :), (congrArg Winder.running h :),
    (congrArg Winder.cyc0 h :), (congrArg Winder.rem0 h :), (congrArg Winder.frameNo h :), (congrArg Winder.sfc h :),
    (congrArg Winder.allocN h :), (congrArg Winder.imem h :)⟩

/-- What it leaves alone outside its winder, when it may write tree ports too. -/
theorem State.sameOutside_ports (s : State) (hs : s.Settled) (w c : Nat) (ps : Sparse Port) (y : Winder) :
    s.SameOutside (s.run ({ s.dev.profIssue w c with ports := ps }.setWinder w y)) w false where
  winders u hu := by
    rw [State.run_winder, Dev.setWinder_get, if_neg hu]
    exact s.dev.profIssue_winder w c u
  ports h := by cases h
  mem a := by
    unfold State.byte
    rw [State.run_mem_quiet]
    · refine Dev.profIssue_quiet s.dev w c ?_
      rw [hs.outbox]; intro op ho; cases ho
    · simp [hs.dma]
  queue := by simp
  units := by simp
  clusters k hk := by
    rw [State.run_cluster, Dev.setWinder_cluster_at]
    exact Dev.profIssue_cluster _ _ _ _ hk

/-- One scalar register of the winder was written, whatever the instruction did outside its winder. -/
theorem State.wroteG_of_winder (s t : State) (hs : s.Settled) (w c : Nat) (rd : BitVec 5) (v : Word) (lat cost : Nat)
    (h : t.dev.winder w = (((s.dev.winder w).setG rd v).writes c lat (kG rd)).retire c cost) : s.WroteG t w rd v c lat cost := by
  obtain ⟨⟨h1, h2, h3, h4, h5⟩, _⟩ := s.onlyG hs w c rd v lat cost
  rw [State.run_winder_set, ← h] at h1 h2 h3 h4 h5
  exact ⟨h1, h2, h3, h4, h5⟩

/-! ### STA (R165, R205, R206) -/

/-- Clearing the two low bits of an address rounds it down to a word. -/
theorem toNat_and_wordMask (v : Word) : (v &&& 0xFFFFFFFC#32).toNat = v.toNat / 4 * 4 := by
  have hmask : ∀ i : Fin 32, (0xFFFFFFFC#32).getLsbD i = decide (2 ≤ i.val) := by decide
  have h : v &&& 0xFFFFFFFC#32 = v >>> 2 <<< 2 := by
    refine BitVec.eq_of_getLsbD_eq fun i hi => ?_
    rw [BitVec.getLsbD_and, hmask ⟨i, hi⟩, BitVec.getLsbD_shiftLeft, BitVec.getLsbD_ushiftRight]
    by_cases h2 : i < 2
    · simp [h2, Nat.not_le.mpr h2]
    · simp [h2, hi, Nat.not_lt.mp h2]
  have hv := v.isLt
  rw [h, BitVec.toNat_shiftLeft, BitVec.toNat_ushiftRight, Nat.shiftLeft_eq, Nat.shiftRight_eq_div_pow]
  omega

theorem eaW_eq (base : Word) (pi : Bool) (disp : BitVec 15) :
    eaW base pi disp = (if pi then base else base + disp.signExtend 32).toNat / 4 * 4 := toNat_and_wordMask _

theorem Winder.postInc_kept (x : Winder) (t : Nat) (rb : BitVec 5) (pi : Bool) (disp : BitVec 15) :
    (x.postInc t rb pi disp).kept = x.kept := by
  unfold Winder.postInc
  split
  · exact x.setG_kept _ _
  · rfl

/-- The base alone of the scalar registers changes, and with PI clear none. -/
theorem Winder.rg_postInc (x : Winder) (t : Nat) (rb : BitVec 5) (pi : Bool) (disp : BitVec 15) (n : BitVec 5) :
    (x.postInc t rb pi disp).rg n = if n = 0 then 0 else if pi ∧ n = rb then x.rg rb + disp.signExtend 32 else x.rg n := by
  unfold Winder.postInc
  cases pi
  · by_cases hn : n = 0
    · rw [if_pos hn, hn]
      rfl
    · rw [if_neg hn]
      simp
  · simp [Winder.rg_setG, disp32]

/-- What else it leaves. -/
theorem Winder.postInc_frame (x : Winder) (t : Nat) (rb : BitVec 5) (pi : Bool) (disp : BitVec 15) :
    let y := x.postInc t rb pi disp
    x.SameRegs y false true true true ∧ y.pc = x.pc ∧ y.loops = x.loops ∧ y.loads = x.loads := by
  unfold Winder.postInc
  split
  · exact ⟨⟨(fun h => by cases h), by simp, by simp, by simp⟩, by simp⟩
  · exact ⟨⟨by simp, by simp, by simp, by simp⟩, rfl, rfl, rfl⟩

theorem Dev.awinStore_ports (d : Dev) (p a : Nat) (v : Word) : d.awinStore p a v = { d with ports := (d.awinStore p a v).ports } := by
  unfold Dev.awinStore
  split <;> rfl

/-- The allocation-table words of the port alone may change. -/
theorem Dev.awinStore_port (d : Dev) (p a : Nat) (v : Word) (j : Nat) : (d.awinStore p a v).port j =
    if j = p then { d.port p with wnd := { (d.port p).wnd with alloc := ((d.awinStore p a v).port p).wnd.alloc } } else d.port j := by
  unfold Dev.awinStore
  split
  · split
    · next h => rw [h]
    · rfl
  · simp [Dev.modPort_get]

/-- Bytes 0 to 47 of a record take no store (R165). -/
theorem Dev.awinStore_alloc (d : Dev) (p a : Nat) (v : Word) (k : Nat) : sget (fun _ => 0) ((d.awinStore p a v).port p).wnd.alloc k =
    if k = a / 4 ∧ 48 ≤ a % 64 then v else sget (fun _ => 0) (d.port p).wnd.alloc k := by
  unfold Dev.awinStore
  split
  · rw [if_neg]
    omega
  · have h : 48 ≤ a % 64 := by omega
    rw [Dev.modPort_get, if_pos rfl]
    simpa [h] using sget_sset (fun _ => 0#32) _ _ _ _

theorem exec_sta (s : State) {w : Fin 80} {rd rb : BitVec 5} {pi : Bool} {disp : BitVec 15} {c : Nat}
    (hi : s.dev.Issues w (kG rb ++ kG rd) portAt c) (hw : s.dev.Spells w (.sta w rd rb pi disp)) :
    let x := s.dev.winder w
    let a := eaW (x.rg rb) pi disp
    a < awinSize → exec (.sta w rd rb pi disp) s = .next (s.run (((s.dev.profIssue w c).awinStore x.port a (x.rg rd)).setWinder w
      ({ x.postInc c rb pi disp with portFree := c + 1 }.retire c 1))) := by
  intro x a ha
  have hrow : exec (.sta w rd rb pi disp) s = execSta w rd rb pi disp s := rfl
  rw [hrow, execSta, Dev.issue_eq hi]
  dsimp only
  rw [if_neg (Nat.not_le.mpr ha), s.oliol_at hi hw]

/-- Settles O9: the store lands in the allocation table where bytes 48 to 63 are meant and nowhere else. -/
theorem allocationStore : Obligations.AllocationStore := by
  intro s w rd rb pi disp c hs x base a hi ha hw
  have hea : eaW base pi disp = a := eaW_eq base pi disp
  refine ⟨_, exec_sta s hi hw (hea ▸ ha), ?_⟩
  obtain ⟨⟨_, hv, hp, hl⟩, hpc, hloops, hloads⟩ := x.postInc_frame c rb pi disp
  have hout := s.sameOutside_ports hs w c ((s.dev.profIssue w c).awinStore x.port a (x.rg rd)).ports
    ({ x.postInc c rb pi disp with portFree := c + 1 }.retire c 1)
  rw [← Dev.awinStore_ports] at hout
  have hport (j : Nat) := (s.dev.profIssue w c).awinStore_port x.port a (x.rg rd) j
  simp only [Dev.profIssue_port] at hport
  rw [hea, State.run_winder_set]
  refine ⟨Winder.sameRun_of_kept (x.postInc_kept c rb pi disp), Winder.retire_fellThrough _ _ _ _ hpc hloops, hout,
    ⟨(fun h => by cases h), hv, hp, hl⟩, x.rg_postInc c rb pi disp, rfl, hloads, fun p hne => ?_, ?_, fun k => ?_⟩
  · simpa [hne] using hport p
  · simpa using hport x.port
  · simpa using (s.dev.profIssue w c).awinStore_alloc x.port a (x.rg rd) k

end Sys2Proof.Machine
end

section
/-! SUPPORT. A program start (R162): what it does to the winder and the tree port; the profiler and the mirror, which follow it, leave both. -/
namespace Sys2Proof.Machine
open Sys2Proof

theorem Dev.profRunStart_winder (d : Dev) (p sfc j : Nat) : (d.profRunStart p sfc).winder j = d.winder j := by
  unfold Dev.profRunStart
  dsimp only
  split <;> split <;> simp [Dev.winder]

theorem Dev.profRunStart_port (d : Dev) (p sfc j : Nat) : (d.profRunStart p sfc).port j = d.port j := by
  unfold Dev.profRunStart
  dsimp only
  split <;> split <;> simp [Dev.port]

theorem Dev.mirror_winder (d : Dev) (p : Nat) (r : MirrorRecord) (j : Nat) : (d.mirror p r).winder j = d.winder j := by
  unfold Dev.mirror
  split
  · rfl
  · split <;> rfl

theorem Dev.mirror_port (d : Dev) (p : Nat) (r : MirrorRecord) (j : Nat) : (d.mirror p r).port j = d.port j := by
  unfold Dev.mirror
  split
  · rfl
  · split <;> rfl

theorem Dev.startProgram_winder (d : Dev) (p cyc rem j : Nat) : (d.startProgram p cyc rem).winder j =
    if j = (d.port p).wnd.winder then (d.winder j).startRun (d.port p) cyc rem else d.winder j := by
  unfold Dev.startProgram
  rw [Dev.profRunStart_winder, Dev.modPort_winder_at, Dev.modWinder_get]
  split
  · next h => rw [h]
  · rfl

theorem Dev.startProgram_port (d : Dev) (p cyc rem j : Nat) : (d.startProgram p cyc rem).port j =
    if j = p then { d.port p with wnd := { (d.port p).wnd with run := .running, runSfc := (d.port p).sfc, marks := [] } } else d.port j := by
  unfold Dev.startProgram
  rw [Dev.profRunStart_port, Dev.modPort_get]
  rfl

/-- No swap is due: the image that is active starts. -/
theorem Dev.programStart_eq (d : Dev) (p cyc rem : Nat) (hu : d.portUp p = true) (hc : (d.port p).counting = true)
    (hr : (d.port p).wnd.run = .none) (ht : (d.port p).wnd.takeover = none) (hs : (d.port p).wnd.swap = none)
    (hm : (d.port p).wnd.image = true) (hst : (d.winder (d.port p).wnd.winder).st = 1) :
    d.programStart p cyc rem = d.startProgram p cyc rem := by
  have hswap : d.doSwap p = d := by simp [Dev.doSwap, hs]
  simp [Dev.programStart, hswap, hu, hc, hr, ht, hm, hst]

theorem exec_programStart (s : State) (p : Fin 64) (cyc rem : Nat) (hr : s.dev.board.resetN = false) (hu : s.dev.portUp p = true)
    (hd : s.dev.deputy p = false) (hc : (s.dev.port p).counting = true) :
    exec (.programStart p cyc rem) s = .next (s.run ((s.dev.programStart p cyc rem).mirrorFrame p cyc rem)) := by
  have hrow : exec (.programStart p cyc rem) s = s.atPort p fun d => d.programStartRow p cyc rem := rfl
  rw [hrow, State.atPort_eq, if_pos ⟨hr, hu⟩]
  simp [Dev.programStartRow, hu, hd, hc]

/-- Settles O47: registers are cleared by the winder's start, and nothing that follows touches a winder or a tree port. -/
theorem programStartClearsRegisters : Obligations.ProgramStartClearsRegisters := by
  intro s p cyc rem _ hr hu hd q w x hc hrun ht hsw him hst
  have hw (j : Nat) : (s.run ((s.dev.startProgram p cyc rem).mirrorFrame p cyc rem)).dev.winder j =
      if j = w then (s.dev.winder j).startRun q cyc rem else s.dev.winder j := by
    rw [State.run_winder, Dev.mirrorFrame, Dev.mirror_winder, Dev.startProgram_winder]
  have hp (j : Nat) : (s.run ((s.dev.startProgram p cyc rem).mirrorFrame p cyc rem)).dev.port j =
      if j = p then { q with wnd := { q.wnd with run := .running, runSfc := q.sfc, marks := [] } } else s.dev.port j := by
    rw [State.run_port, Dev.mirrorFrame, Dev.mirror_port, Dev.startProgram_port]
  refine ⟨_, s.dev.programStart_eq p cyc rem hu hc hrun ht hsw him hst ▸ exec_programStart s p cyc rem hr hu hd hc, ?_, ?_,
    fun k hk => by rw [hw, if_neg hk], fun k hk => by rw [hp, if_neg hk]⟩
  · rw [hw, if_pos rfl]
    exact ⟨rfl, rfl, fun n => ite_self 0, fun _ _ => rfl, fun _ => rfl, rfl, rfl, rfl, rfl, rfl, rfl⟩
  · rw [hp, if_pos rfl]
    exact ⟨rfl, rfl, rfl, rfl, rfl⟩

end Sys2Proof.Machine
end

section
/-! SUPPORT. The map builder (R172 to R174, R231, R232): how it decides a grant and a window, and what the decision leaves alone. -/
namespace Sys2Proof.Machine
open Sys2Proof

theorem Port.modLane_const (q : Port) (l : Lane) (f : LaneS → LaneS) : q.modLane l f = q.modLane l fun _ => f (q.lane l) := by
  cases l <;> rfl

/-! ### Counters leave every unit -/

@[simp] theorem Dev.countPort_winder_at (d : Dev) (p ofs n j : Nat) : (d.countPort p ofs n).winder j = d.winder j := by
  unfold Dev.countPort Dev.count Dev.bump Dev.halfRange
  dsimp only
  split <;> rfl

@[simp] theorem Dev.countPort_port_at (d : Dev) (p ofs n j : Nat) : (d.countPort p ofs n).port j = d.port j := by
  unfold Dev.countPort Dev.count Dev.bump Dev.halfRange
  dsimp only
  split <;> rfl

/-! ### Grants (R173, R174, R231) -/

/-- R173: the record, its terminal, its lane and the profile take a grant that occupies `sp`, and the frame holds it. -/
def Port.GrantFits (q : Port) (ri profIx : Nat) (sp : Int × Int) : Prop :=
  q.wnd.rValid ri = true ∧ (q.term (q.wnd.rTerm ri)).ranged = true ∧ (q.lane (laneOf (q.wnd.rLane ri))).live = true ∧
    (q.prof profIx).valid = true ∧ (q.prof profIx).lane = laneOf (q.wnd.rLane ri) ∧ 0 ≤ sp.1 ∧ sp.2 ≤ frameF

/-- The grants of a map that meet an interval. -/
def MapB.hits (m : MapB) (gen : Nat) (sp : Int × Int) : List Grant := m.grants.filter fun g => meets (g.span gen) sp

/-- R174: the interval meets the tail, a window, or a grant that one of class `cls` may not displace. -/
def MapB.MeetsKept (m : MapB) (gen cls : Nat) (sp : Int × Int) : Prop :=
  meets (0, (m.tail * wordF gen : Nat)) sp = true ∨ (∃ v ∈ m.wins, meets (v.span gen) sp = true) ∨
    ∃ g ∈ m.hits gen sp, cls = 0 ∨ classRank g.cls ≤ classRank cls

theorem meets_comm (a b : Int × Int) : meets a b = meets b a := by simp [meets, and_comm]

/-- Fixed is the class of rank 1 (Table 5-3). -/
theorem classRank_eq_one (cls : Nat) : classRank cls = 1 ↔ cls = 0 := by
  unfold classRank
  split <;> omega

theorem Port.grantFits_iff (q : Port) (ri profIx : Nat) (sp : Int × Int) :
    (!q.grantFits ri profIx || decide (sp.1 < 0 ∨ (frameF : Int) < sp.2)) = false ↔ q.GrantFits ri profIx sp := by
  simp [Port.grantFits, Port.GrantFits, and_assoc]

theorem MapB.meetsKept_iff (m : MapB) (gen cls : Nat) (sp : Int × Int) :
    (meets sp (0, (m.tail * wordF gen : Nat)) || m.wins.any (fun w => meets (w.span gen) sp) ||
      (m.hits gen sp).any fun g => classRank cls == 1 || decide (classRank g.cls ≤ classRank cls)) = true ↔ m.MeetsKept gen cls sp := by
  simp [MapB.MeetsKept, meets_comm sp, classRank_eq_one, or_assoc]

section
variable (q : Port) (ri profIx flags start size0 : Nat)

/-- The lane that a grant of a record goes to. -/
abbrev Port.grantLane : Lane := laneOf (q.wnd.rLane ri)
/-- A witness grant holds one word (R181). -/
abbrev grantSize : Nat := if bitOf flags 3 then 1 else size0
/-- The interval a grant would occupy. -/
abbrev Port.grantIv : Int × Int :=
  grantSpan (q.lane (q.grantLane ri)).gen start (grantSize flags size0) (q.prof profIx)
/-- The grant as its map holds it. -/
def Port.grantOf : Grant :=
  { ri := ri, allocId := q.wnd.rAllocId ri, term := q.wnd.rTerm ri, lane := q.grantLane ri, cls := q.wnd.rClass ri
    start := start, size := grantSize flags size0, profIx := profIx, prof := q.prof profIx, ploamUp := bitOf flags 0
    rptReq := bitOf flags 1 || bitOf flags 3, wake := bitOf flags 2, witness := bitOf flags 3 }

/-- Code 1: the grant does not fit. -/
theorem Port.decideGrant_unfit (h : ¬q.GrantFits ri profIx (q.grantIv ri profIx flags start size0)) :
    q.decideGrant ri profIx flags start size0 = (.rejected 1, q) := by
  have h1 := mt (q.grantFits_iff ri profIx _).1 h
  unfold Port.decideGrant
  exact if_pos (eq_true_of_ne_false h1)

variable {q ri profIx flags start size0} {y : LaneS} {iv : Int × Int}
variable (hy : q.lane (q.grantLane ri) = y) (hiv : q.grantIv ri profIx flags start size0 = iv) (hfit : q.GrantFits ri profIx iv)
include hy hiv hfit

/-- Code 2: it fits, and meets what it may not displace. -/
theorem Port.decideGrant_kept (h : y.map.MeetsKept y.gen (q.wnd.rClass ri) iv) :
    q.decideGrant ri profIx flags start size0 = (.rejected 2, q) := by
  subst hy hiv
  have h1 := (q.grantFits_iff ri profIx _).2 hfit
  have h2 := (MapB.meetsKept_iff ..).2 h
  unfold Port.decideGrant
  exact (if_neg (Bool.eq_false_iff.1 h1)).trans (if_pos h2)

/-- Code 3: the map is full. -/
theorem Port.decideGrant_full (hkept : ¬y.map.MeetsKept y.gen (q.wnd.rClass ri) iv)
    (h : 2048 ≤ y.map.entries - (y.map.hits y.gen iv).length) :
    q.decideGrant ri profIx flags start size0 = (.rejected 3, q) := by
  subst hy hiv
  have h1 := (q.grantFits_iff ri profIx _).2 hfit
  have h2 := mt (MapB.meetsKept_iff ..).1 hkept
  unfold Port.decideGrant
  exact ((if_neg (Bool.eq_false_iff.1 h1)).trans (if_neg h2)).trans (if_pos h)

/-- Otherwise the grant is accepted, in place of those that it meets. -/
theorem Port.decideGrant_accepted (hkept : ¬y.map.MeetsKept y.gen (q.wnd.rClass ri) iv)
    (hfull : ¬2048 ≤ y.map.entries - (y.map.hits y.gen iv).length) :
    q.decideGrant ri profIx flags start size0 = (.accepted (y.map.hits y.gen iv).length,
      q.modLane (q.grantLane ri) fun _ => { y with map := { y.map with
        grants := (y.map.grants.filter fun g => !meets (g.span y.gen) iv) ++ [q.grantOf ri profIx flags start size0] } }) := by
  subst hy hiv
  have h1 := (q.grantFits_iff ri profIx _).2 hfit
  have h2 := mt (MapB.meetsKept_iff ..).1 hkept
  unfold Port.decideGrant
  refine ((if_neg (Bool.eq_false_iff.1 h1)).trans (if_neg h2)).trans ((if_neg hfull).trans (congrArg (Prod.mk _) ?_))
  exact q.modLane_const _ _

end

/-- A grant that is not accepted leaves its port. -/
theorem Port.decideGrant_rejected (q : Port) (ri profIx flags start size n : Nat)
    (h : (q.decideGrant ri profIx flags start size).1 = .rejected n) : (q.decideGrant ri profIx flags start size).2 = q := by
  by_cases hfit : q.GrantFits ri profIx (q.grantIv ri profIx flags start size)
  · by_cases hkept : (q.lane (q.grantLane ri)).map.MeetsKept (q.lane (q.grantLane ri)).gen (q.wnd.rClass ri)
      (q.grantIv ri profIx flags start size)
    · rw [Port.decideGrant_kept rfl rfl hfit hkept]
    · by_cases hfull : 2048 ≤ (q.lane (q.grantLane ri)).map.entries -
        ((q.lane (q.grantLane ri)).map.hits (q.lane (q.grantLane ri)).gen (q.grantIv ri profIx flags start size)).length
      · rw [Port.decideGrant_full rfl rfl hfit hkept hfull]
      · rw [Port.decideGrant_accepted rfl rfl hfit hkept hfull] at h
        cases h
  · rw [q.decideGrant_unfit ri profIx flags start size hfit]

section
variable (d : Dev) (p ri profIx flags start size : Nat) (h : (d.port p).wnd.odd = false)
include h

/-- With records that hold what Table 5-2 allows, the decision is on the size that the instruction names. -/
theorem Dev.grant_result :
    (d.grant p ri profIx flags start size).1 = ((d.port p).decideGrant ri profIx flags start size).1 := by
  unfold Dev.grant Dev.oddSize
  rw [h]
  generalize hr : (d.port p).decideGrant ri profIx flags start size = r
  obtain ⟨_ | _, _⟩ := r <;> simp [hr]

theorem Dev.grant_winder (j : Nat) : (d.grant p ri profIx flags start size).2.winder j = d.winder j := by
  unfold Dev.grant Dev.oddSize
  rw [h]
  generalize hr : (d.port p).decideGrant ri profIx flags start size = r
  obtain ⟨_ | _, _⟩ := r
  · simp only [Bool.false_eq_true, ↓reduceIte, hr]
    split <;> split <;> simp
  · simp [hr]

theorem Dev.grant_port (j : Nat) : (d.grant p ri profIx flags start size).2.port j =
    if j = p then ((d.port p).decideGrant ri profIx flags start size).2 else d.port j := by
  have hrej (n : Nat) := (d.port p).decideGrant_rejected ri profIx flags start size n
  unfold Dev.grant Dev.oddSize
  rw [h]
  generalize hr : (d.port p).decideGrant ri profIx flags start size = r at hrej
  obtain ⟨n | n, q⟩ := r
  · simp only [Bool.false_eq_true, ↓reduceIte, hr]
    split <;> split <;> simp [Dev.setPort_get]
  · have hq : q = d.port p := hrej n rfl
    by_cases hj : j = p <;> simp [hr, hq, hj]

end

/-- GRANT: the operands have no RSV bit set. -/
theorem exec_grant (s : State) (hs : s.Settled) {w : Fin 80} {rd rs rt : BitVec 5} {c : Nat}
    (hi : s.dev.Issues w (kG rs ++ kG rt ++ kG rd) noWait c) (hw : s.dev.Spells w (.grant w rd rs rt)) :
    let x := s.dev.winder w
    let a := (x.rg rs).toNat
    let b := (x.rg rt).toNat
    let r := (s.dev.port x.port).decideGrant (a % 4096) (a / 2 ^ 12 % 4) (a / 2 ^ 16) (b % 2 ^ 16) (b / 2 ^ 16)
    a / 2 ^ 20 = 0 → a / 2 ^ 14 % 4 = 0 → (s.dev.port x.port).wnd.odd = false → ∃ t, exec (.grant w rd rs rt) s = .next t ∧
      s.WroteG t w rd r.1.word c 20 2 ∧ ∀ j, t.dev.port j = if j = x.port then r.2 else s.dev.port j := by
  intro x a b r ha1 ha2 hodd
  have hrow : exec (.grant w rd rs rt) s = execGrant w rd rs rt s := rfl
  have hflags : a / 2 ^ 16 % 16 = a / 2 ^ 16 := by omega
  have hops : (s.dev.profIssue w c).grantOps a b = ((a / 2 ^ 12 % 4, a / 2 ^ 16, b % 2 ^ 16, b / 2 ^ 16), s.dev.profIssue w c) := by
    have hrsv : (a / 2 ^ 20 = 0 && a / 2 ^ 14 % 4 = 0) = true := by rw [ha1, ha2]; rfl
    rw [Dev.grantOps, if_pos hrsv, hflags]
  have hodd' : ((s.dev.profIssue w c).port x.port).wnd.odd = false := by rwa [Dev.profIssue_port]
  have hres := Dev.grant_result (s.dev.profIssue w c) x.port (a % 4096) (a / 2 ^ 12 % 4) (a / 2 ^ 16) (b % 2 ^ 16) (b / 2 ^ 16) hodd'
  have hport := Dev.grant_port (s.dev.profIssue w c) x.port (a % 4096) (a / 2 ^ 12 % 4) (a / 2 ^ 16) (b % 2 ^ 16) (b / 2 ^ 16) hodd'
  rw [hrow, execGrant, Dev.issue_eq hi]
  dsimp only
  rw [hops, s.oliol_at hi hw]
  refine ⟨_, rfl, s.wroteG_of_winder _ hs _ _ _ _ _ _ ?_, fun j => ?_⟩
  · rw [State.run_winder_set, hres, Dev.profIssue_port]
  · rw [State.run_port, Dev.setWinder_port_at, hport]
    simp only [Dev.profIssue_port]
    rfl

/-! ### Windows (R172, R176, R232) -/

/-- The kind of a request in bits 19 and 18 of RNGWIN's result. -/
def RngReq.kind (r : RngReq) : Nat := if r.ranging then 2 ^ 19 else 2 ^ 18

/-- The window that RNGWIN would place for a request. -/
def Port.winOf (q : Port) (l : Lane) (req : RngReq) (reserve s : Nat) : Win :=
  let y := q.lane l
  let n := wordsPerFrame y.gen
  let pr := q.prof req.prof
  let o := s - pr.hw y.gen
  let last := 2 * n - min reserve n
  let stop := match nextBlock y.gen y.map o with
    | some e => min e last
    | none => last
  { req := req, s := s, o := o, len := min (ceilDiv (req.wUs * n) 125) (stop - o), prof := pr }

/-- R172 and R232: the window begins in the frame, where words are free, is 16 us long at least, and the map has room for it. -/
def Port.WinFits (q : Port) (l : Lane) (v : Win) : Prop :=
  let y := q.lane l
  v.prof.hw y.gen ≤ v.s ∧ y.live = true ∧ y.map.tail ≤ v.o ∧ v.o < wordsPerFrame y.gen ∧ blocked y.gen y.map v.o = false ∧
    ceilDiv (16 * wordsPerFrame y.gen) 125 ≤ v.len ∧ y.map.entries - (y.map.hits y.gen (v.span y.gen)).length < 2048

theorem Port.placeWindow_none {q : Port} {l : Lane} (h : q.oldestReq l = none) (reserve s : Nat) (odd : Option (Nat × Nat)) :
    q.placeWindow l reserve s odd = { val := 0, port := q } := by
  unfold Port.placeWindow
  rw [h]

/-- The port with a window in the map of its lane, in place of the grants it meets. -/
def Port.withWindow (q : Port) (l : Lane) (v : Win) : Port :=
  let y := q.lane l
  { (q.modLane l fun _ => { y with
        map := { y.map with
          grants := y.map.grants.filter fun g => !meets (g.span y.gen) (v.span y.gen), wins := y.map.wins ++ [v] }
        disc := if v.req.ranging then y.disc else y.disc.onPlaced }) with
      rngReqs := dropFirst (fun r => r == v.req) q.rngReqs }

section
variable {q : Port} {l : Lane} {req : RngReq} (h : q.oldestReq l = some req) (reserve s : Nat)
include h

/-- RNGWIN on a request, condition by condition. -/
theorem Port.placeWindow_some :
    let y := q.lane l
    let v := q.winOf l req reserve s
    let deferred : WinRes := { val := req.kind + 2 ^ 20, port := q }
    q.placeWindow l reserve s none =
      if v.s < v.prof.hw y.gen || !y.live then deferred
      else if v.o < y.map.tail || wordsPerFrame y.gen ≤ v.o || blocked y.gen y.map v.o then deferred
      else if v.len < ceilDiv (16 * wordsPerFrame y.gen) 125 then deferred
      else if 2048 ≤ y.map.entries - (y.map.hits y.gen (v.span y.gen)).length then { deferred with full := true }
      else { val := v.len + req.kind, port := q.withWindow l v, hit := (y.map.hits y.gen (v.span y.gen)).length } := by
  have hkind : (if req.ranging then 2 else 1) * 2 ^ 18 = req.kind := by
    unfold RngReq.kind
    split <;> rfl
  unfold Port.placeWindow
  rw [h, ← hkind]
  cases l <;> rfl

/-- A request whose window does not fit stays. -/
theorem Port.placeWindow_deferred (hn : ¬q.WinFits l (q.winOf l req reserve s)) :
    (q.placeWindow l reserve s none).val = req.kind + 2 ^ 20 ∧ (q.placeWindow l reserve s none).port = q := by
  rw [Port.placeWindow_some h]
  split
  · exact ⟨rfl, rfl⟩
  split
  · exact ⟨rfl, rfl⟩
  split
  · exact ⟨rfl, rfl⟩
  split
  · exact ⟨rfl, rfl⟩
  next h1 h2 h3 h4 =>
    simp only [Bool.or_eq_true, decide_eq_true_eq, Bool.not_eq_true', not_or, Nat.not_lt, Nat.not_le, Bool.not_eq_false,
      Bool.not_eq_true] at h1 h2 h3 h4
    obtain ⟨hstart, hlive⟩ := h1
    obtain ⟨⟨htail, hframe⟩, hfree⟩ := h2
    exact absurd ⟨hstart, hlive, htail, hframe, hfree, h3, h4⟩ hn

/-- One that fits is placed. -/
theorem Port.placeWindow_placed (hfit : q.WinFits l (q.winOf l req reserve s)) :
    (q.placeWindow l reserve s none).val = (q.winOf l req reserve s).len + req.kind ∧
      (q.placeWindow l reserve s none).port = q.withWindow l (q.winOf l req reserve s) := by
  obtain ⟨hstart, hlive, htail, hframe, hfree, hlong, hroom⟩ := hfit
  rw [Port.placeWindow_some h, if_neg (by simp [hstart, hlive]), if_neg (by simp [htail, hframe, hfree]), if_neg (by simpa using hlong),
    if_neg (Nat.not_le.mpr hroom)]
  exact ⟨rfl, rfl⟩

end

/-- A window, placed or not, leaves every winder and every other port. -/
theorem Dev.windowPlaced_winder (d : Dev) (p : Nat) (r : WinRes) (j : Nat) : (d.windowPlaced p r).winder j = d.winder j := by
  unfold Dev.windowPlaced
  dsimp only
  split <;> split <;> simp

theorem Dev.windowPlaced_port (d : Dev) (p : Nat) (r : WinRes) (j : Nat) :
    (d.windowPlaced p r).port j = if j = p then r.port else d.port j := by
  unfold Dev.windowPlaced
  dsimp only
  split <;> split <;> simp [Dev.setPort_get]

/-- RNGWIN: the operands have no RSV bit set. -/
theorem exec_rngwin (s : State) (hs : s.Settled) {w : Fin 80} {rd rs rt : BitVec 5} {c : Nat}
    (hi : s.dev.Issues w (kG rs ++ kG rt ++ kG rd) noWait c) (hw : s.dev.Spells w (.rngwin w rd rs rt)) :
    let x := s.dev.winder w
    let a := (x.rg rs).toNat
    let b := (x.rg rt).toNat
    let r := (s.dev.port x.port).placeWindow (laneOf (a % 2)) (a / 2 ^ 16) b none
    a / 2 % 2 ^ 15 = 0 → b / 2 ^ 16 = 0 → ∃ t, exec (.rngwin w rd rs rt) s = .next t ∧
      s.WroteG t w rd (BitVec.ofNat 32 r.val) c 24 24 ∧ ∀ j, t.dev.port j = if j = x.port then r.port else s.dev.port j := by
  intro x a b r ha hb
  have hrow : exec (.rngwin w rd rs rt) s = execRngwin w rd rs rt s := rfl
  have hops : (s.dev.profIssue w c).rngOps a b = ((laneOf (a % 2), a / 2 ^ 16, b, none), s.dev.profIssue w c) := by
    have hrsv : (a / 2 % 2 ^ 15 = 0 && b / 2 ^ 16 = 0) = true := by rw [ha, hb]; rfl
    rw [Dev.rngOps, if_pos hrsv]
  rw [hrow, execRngwin, Dev.issue_eq hi]
  dsimp only
  rw [hops, s.oliol_at hi hw]
  refine ⟨_, rfl, s.wroteG_of_winder _ hs _ _ _ _ _ _ ?_, fun j => ?_⟩
  · rw [State.run_winder_set, Dev.profIssue_port]
  · rw [State.run_port, Dev.setWinder_port_at, Dev.windowPlaced_port]
    simp only [Dev.profIssue_port]
    rfl

end Sys2Proof.Machine
end

section
/-! SUPPORT. The precedence cut (R235, R236): the list PRECUT reads, the words it rewrites, what else it leaves. -/
namespace Sys2Proof.Machine
open Sys2Proof

theorem eraseDups_of_nodup : ∀ {l : List Nat}, l.Nodup → l.eraseDups = l
  | [], _ => rfl
  | a :: l, h => by
    obtain ⟨ha, hl⟩ := List.nodup_cons.1 h
    have hf : l.filter (fun b => !b == a) = l := List.filter_eq_self.2 fun b hb => by
      have : b ≠ a := fun e => ha (e ▸ hb)
      simpa using this
    rw [List.eraseDups_cons, hf, eraseDups_of_nodup hl]

/-! ### The list (Table 7-5) -/

/-- The demand of entry `k` of a list at local address `a`. -/
def Winder.demandAt (x : Winder) (a k : Nat) : Demand :=
  ⟨(x.lw (a + 4 + 8 * k)).toNat, (x.lw (a + 8 + 8 * k)).toNat % 2 ^ 16, (x.lw (a + 8 + 8 * k)).toNat / 2 ^ 16⟩

/-- A list that Table 7-9 allows is read entry by entry. -/
theorem Winder.cutList_eq (x : Winder) (a h : Nat) (hh : (x.lw a).toNat = h) (hlen : h ≤ 4096) (hend : a + 4 + 8 * h ≤ 0x10000)
    (hri : ∀ k, k < h → (x.lw (a + 4 + 8 * k)).toNat < 4096)
    (hinj : ∀ j k, j < h → k < h → (x.lw (a + 4 + 8 * j)).toNat = (x.lw (a + 4 + 8 * k)).toNat → j = k) :
    x.cutList a = some ((List.range h).map (x.demandAt a)) := by
  have hnodup : (((List.range h).map (x.demandAt a)).map (·.ri)).Nodup := by
    rw [List.map_map, List.Nodup, List.pairwise_map]
    exact List.nodup_range.imp_of_mem fun hj hk hne e => hne (hinj _ _ (List.mem_range.1 hj) (List.mem_range.1 hk) e)
  have hbound : ((List.range h).map fun k => (x.lw (a + 4 + 8 * k), (x.lw (a + 8 + 8 * k)).toNat)).any
      (fun v => decide (4096 ≤ v.1.toNat)) = false := by
    simpa using hri
  have hmap : ((List.range h).map fun k => (x.lw (a + 4 + 8 * k), (x.lw (a + 8 + 8 * k)).toNat)).map
      (fun v => (⟨v.1.toNat, v.2 % 2 ^ 16, v.2 / 2 ^ 16⟩ : Demand)) = (List.range h).map (x.demandAt a) := List.map_map
  have hend' : ¬lmemSize < a + 4 + 8 * h := Nat.not_lt.mpr hend
  have hshape : (4096 < h || lmemSize < a + 4 + 8 * h) = false := by simp [hlen, hend']
  unfold Winder.cutList
  dsimp only
  rw [hh, hshape, hbound, hmap, eraseDups_of_nodup hnodup]
  simp

/-! ### The words rewritten -/

/-- Word 1 of an entry after the cuts: of one that is cut the payload left, and no overhead once none is left. -/
def Demand.rewritten (e : Demand) (cuts : List (Nat × Nat × Nat)) (old : Word) : Word :=
  (cuts.find? fun c => c.1 == e.ri).elim old fun c => BitVec.ofNat 32 (c.2.2 + if c.2.2 = 0 then 0 else e.ovh * 2 ^ 16)

/-- One entry is rewritten when it is among the cuts. -/
def Winder.writeCut (x : Winder) (a : Nat) (cuts : List (Nat × Nat × Nat)) (e : Demand × Nat) : Winder :=
  match cuts.find? fun c => c.1 == e.1.ri with
  | none => x
  | some c => x.setLw (a + 8 + 8 * e.2) (BitVec.ofNat 32 (c.2.2 + (if c.2.2 = 0 then 0 else e.1.ovh) * 2 ^ 16))

theorem Winder.writeCuts_eq (x : Winder) (a : Nat) (l : List Demand) (cuts : List (Nat × Nat × Nat)) :
    x.writeCuts a l cuts = l.zipIdx.foldl (fun x e => x.writeCut a cuts e) x := rfl

theorem Winder.lw_writeCut (x : Winder) (a : Nat) (cuts : List (Nat × Nat × Nat)) (e : Demand) (k m : Nat) :
    (x.writeCut a cuts (e, k)).lw m = if m / 4 = (a + 8 + 8 * k) / 4 then e.rewritten cuts (x.lw m) else x.lw m := by
  unfold Winder.writeCut Demand.rewritten
  cases cuts.find? fun c => c.1 == e.ri with
  | none => exact (ite_self _).symm
  | some c =>
    have hovh : (if c.2.2 = 0 then 0 else e.ovh) * 2 ^ 16 = if c.2.2 = 0 then 0 else e.ovh * 2 ^ 16 := by
      by_cases h0 : c.2.2 = 0 <;> simp [h0]
    rw [Option.elim_some, ← hovh]
    exact x.lw_setLw _ _ _

/-- Local data memory alone changes. -/
theorem Winder.writeCut_lmem (x : Winder) (a : Nat) (cuts : List (Nat × Nat × Nat)) (e : Demand × Nat) :
    x.writeCut a cuts e = { x with lmem := (x.writeCut a cuts e).lmem } := by
  unfold Winder.writeCut
  split <;> rfl

theorem Winder.writeCuts_lmem (x : Winder) (a : Nat) (l : List Demand) (cuts : List (Nat × Nat × Nat)) :
    x.writeCuts a l cuts = { x with lmem := (x.writeCuts a l cuts).lmem } := by
  rw [Winder.writeCuts_eq]
  generalize l.zipIdx = es
  induction es generalizing x with
  | nil => rfl
  | cons e es ih =>
    rw [List.foldl_cons, ih, x.writeCut_lmem]

theorem Winder.writeCuts_frame (x : Winder) (a : Nat) (l : List Demand) (cuts : List (Nat × Nat × Nat)) :
    (x.writeCuts a l cuts).kept = x.kept ∧ x.SameRegs (x.writeCuts a l cuts) true true true false ∧
      (x.writeCuts a l cuts).pc = x.pc ∧ (x.writeCuts a l cuts).loops = x.loops := by
  rw [x.writeCuts_lmem]
  exact ⟨rfl, ⟨fun _ _ => rfl, fun _ _ _ => rfl, fun _ _ => rfl, fun h => by cases h⟩, rfl, rfl⟩

/-- Words that are word 1 of no entry from `n` on stay. -/
theorem Winder.lw_writeCuts_other (a : Nat) (cuts : List (Nat × Nat × Nat)) (m : Nat) (l : List Demand) (n : Nat) (x : Winder)
    (h : ∀ k, n ≤ k → k < n + l.length → m / 4 ≠ (a + 8 + 8 * k) / 4) :
    ((l.zipIdx n).foldl (fun x e => x.writeCut a cuts e) x).lw m = x.lw m := by
  induction l generalizing n x with
  | nil => rfl
  | cons e l ih =>
    rw [List.length_cons] at h
    have hrest (k : Nat) (h1 : n + 1 ≤ k) (h2 : k < n + 1 + l.length) := h k (by omega) (by omega)
    rw [List.zipIdx_cons, List.foldl_cons, ih (n + 1) _ hrest, Winder.lw_writeCut, if_neg (h n (Nat.le_refl n) (by omega))]

/-- Word 1 of each entry from `n` on. -/
theorem Winder.lw_writeCuts_entry (a : Nat) (cuts : List (Nat × Nat × Nat)) (l : List Demand) (n k : Nat) (x : Winder) (hk : k < l.length) :
    ((l.zipIdx n).foldl (fun x e => x.writeCut a cuts e) x).lw (a + 8 + 8 * (n + k)) =
      l[k].rewritten cuts (x.lw (a + 8 + 8 * (n + k))) := by
  induction l generalizing n k x with
  | nil => cases hk
  | cons e l ih =>
    rw [List.zipIdx_cons, List.foldl_cons]
    cases k with
    | zero =>
      rw [Winder.lw_writeCuts_other _ _ _ _ _ _ fun j hj _ => by omega, Winder.lw_writeCut]
      exact if_pos rfl
    | succ k =>
      rw [show n + (k + 1) = n + 1 + k by omega, ih (n + 1) k _ (Nat.lt_of_succ_lt_succ hk), Winder.lw_writeCut, if_neg (by omega)]
      rfl

/-! ### PRECUT -/

/-- Words below the calendar's, or a calendar that holds no record: a store leaves the calendar as it is. -/
theorem Dev.calStored_eq (d : Dev) (w p a : Nat) (h : a < 0xE000 ∨ d.calBusy p = false) : d.calStored w p a = d := by
  unfold Dev.calStored
  refine if_neg ?_
  rcases h with h | h
  · simp [Nat.not_le.mpr h]
  · simp [h]

theorem Dev.calBusy_modWnd (d : Dev) (p w : Nat) (f : WndPort → WndPort) (y : Winder) (h : ∀ q, (f q).cal = q.cal) :
    ((d.modWnd p f).setWinder w y).calBusy p = d.calBusy p := by simp [Dev.calBusy, Dev.modWnd, Dev.modPort_get, h]

theorem Dev.calBusy_profIssue (d : Dev) (w t p : Nat) : (d.profIssue w t).calBusy p = d.calBusy p := by simp [Dev.calBusy]

theorem foldl_max_lt {α : Type} (c : α → Bool) (f : α → Nat) (b : Nat) (l : List α) (m : Nat) (hm : m < b) (h : ∀ e ∈ l, f e < b) :
    l.foldl (fun m e => if c e then max m (f e) else m) m < b := by
  induction l generalizing m with
  | nil => exact hm
  | cons e l ih =>
    have he := h e List.mem_cons_self
    refine ih _ ?_ fun x hx => h x (List.mem_cons_of_mem _ hx)
    dsimp only
    split <;> omega

/-- Cycles that PRECUT takes (Table 7-2). -/
def precutCost (l : List Demand) (cuts : List (Nat × Nat × Nat)) : Nat := 24 + 3 * l.length + 16 * cuts.length

/-- The winder after a PRECUT that issued in cycle `c` has made `cuts`. -/
def Winder.afterPrecut (x : Winder) (rd : BitVec 5) (c a : Nat) (l : List Demand) (cuts : List (Nat × Nat × Nat)) : Winder :=
  let cost := precutCost l cuts
  let y : Winder := { x.writeCuts a l cuts with portFree := c + cost, localFree := c + cost }
  ((y.setG rd (BitVec.ofNat 32 (cuts.foldl (fun m e => m + e.2.1) 0))).writes c cost (kG rd)).retire c cost

section
variable (x : Winder) (rd : BitVec 5) (c a : Nat) (l : List Demand) (cuts : List (Nat × Nat × Nat))

theorem Winder.rg_afterPrecut (n : BitVec 5) : (x.afterPrecut rd c a l cuts).rg n =
    if n = 0 then 0 else if n = rd then BitVec.ofNat 32 (cuts.foldl (fun m e => m + e.2.1) 0) else x.rg n := by
  obtain ⟨_, ⟨hg, _, _, _⟩, _, _⟩ := x.writeCuts_frame a l cuts
  unfold Winder.afterPrecut
  rw [Winder.retire_rg, Winder.writes_rg, Winder.rg_setG, ← hg rfl n]
  rfl

theorem Winder.lw_afterPrecut (m : Nat) : (x.afterPrecut rd c a l cuts).lw m = (x.writeCuts a l cuts).lw m := by
  unfold Winder.afterPrecut
  rw [Winder.retire_lw, Winder.writes_lw, Winder.setG_lw]
  rfl

theorem Winder.afterPrecut_sameRegs : x.SameRegs (x.afterPrecut rd c a l cuts) false true true false := by
  obtain ⟨_, ⟨_, hv, hp, _⟩, _, _⟩ := x.writeCuts_frame a l cuts
  refine ⟨(fun h => by cases h), fun h n i => ?_, fun h n => ?_, (fun h => by cases h)⟩
  · rw [← hv h n i, Winder.afterPrecut, Winder.retire_rv, Winder.writes_rv, Winder.setG_rv]
    rfl
  · rw [← hp h n, Winder.afterPrecut, Winder.retire_rp, Winder.writes_rp, Winder.setG_rp]
    rfl

theorem Winder.afterPrecut_sameRun : x.SameRun (x.afterPrecut rd c a l cuts) := by
  obtain ⟨hkept, _, _, _⟩ := x.writeCuts_frame a l cuts
  exact Winder.sameRun_of_kept ((Winder.setG_kept _ _ _).trans hkept)

theorem Winder.afterPrecut_fellThrough : x.FellThrough (x.afterPrecut rd c a l cuts) c (precutCost l cuts) := by
  obtain ⟨_, _, hpc, hloops⟩ := x.writeCuts_frame a l cuts
  exact Winder.retire_fellThrough _ _ _ _ ((Winder.setG_pc _ _ _).trans hpc) ((Winder.setG_loops _ _ _).trans hloops)

theorem Winder.afterPrecut_ports : (x.afterPrecut rd c a l cuts).portFree = c + precutCost l cuts ∧
    (x.afterPrecut rd c a l cuts).localFree = c + precutCost l cuts := by simp [Winder.afterPrecut]

end

/-- PRECUT on a list that Table 7-9 allows. -/
theorem exec_precut (s : State) {w : Fin 80} {rd rs rt : BitVec 5} {c : Nat} {l : List Demand}
    (hi : s.dev.Issues w (kG rs ++ kG rt ++ kG rd) precutAt c) (hw : s.dev.Spells w (.precut w rd rs rt)) :
    let x := s.dev.winder w
    let a := (x.rg rs).toNat / 4 * 4
    let cuts := precut (s.dev.port x.port).wnd l (x.rg rt).toNat
    x.cutList a = some l → a + 4 + 8 * l.length ≤ 0xE000 ∨ s.dev.calBusy x.port = false →
    exec (.precut w rd rs rt) s = .next (s.run (((s.dev.profIssue w c).modWnd x.port fun p =>
        { p with marks := cuts.foldl (fun m c => addMark m c.1 c.2.1) p.marks }).setWinder w (x.afterPrecut rd c a l cuts))) := by
  intro x a cuts hl hcal
  have hrow : exec (.precut w rd rs rt) s = execPrecut w rd rs rt s := rfl
  have htop (h : a + 4 + 8 * l.length ≤ 0xE000) :
      l.zipIdx.foldl (fun m e => if cuts.any fun c => c.1 == e.1.ri then max m (a + 8 + 8 * e.2) else m) 0 < 0xE000 := by
    refine foldl_max_lt _ _ _ _ _ (by omega) fun e he => ?_
    obtain ⟨_, hk, _⟩ := List.mem_zipIdx (x := e.1) (i := e.2) he
    omega
  rw [hrow, execPrecut, Dev.issue_eq hi]
  dsimp only
  rw [toNat_and_wordMask, hl]
  dsimp only
  rw [Dev.profIssue_port, Dev.calStored_eq _ _ _ _ (hcal.imp ?_ fun h =>
      (Dev.calBusy_modWnd _ _ _ _ _ ?_).trans ((Dev.calBusy_profIssue _ _ _ _).trans h)), s.oliol_at hi hw]
  · rfl
  · exact htop
  · exact fun _ => rfl

end Sys2Proof.Machine
end

section
/-! SUPPORT. The instructions that build the map (R173, R174, R231, R232, R234, R235), from what the map builder and the cut decide. -/
namespace Sys2Proof.Machine
open Sys2Proof

theorem exec_rngtail (s : State) {w : Fin 80} {rd rs : BitVec 5} {c : Nat} (hi : s.dev.Issues w (kG rs ++ kG rd) noWait c)
    (hw : s.dev.Spells w (.rngtail w rd rs)) :
    let x := s.dev.winder w
    exec (.rngtail w rd rs) s = .next (s.run ((s.dev.profIssue w c).setWinder w (((x.setG rd (BitVec.ofNat 32
      ((s.dev.port x.port).lane (laneOf ((x.rg rs).toNat % 2))).map.tail)).writes c 4 (kG rd)).retire c 1))) := by
  intro x
  have hrow : exec (.rngtail w rd rs) s = execRngtail w rd rs s := rfl
  rw [hrow, execRngtail, Dev.issue_eq hi]
  dsimp only
  rw [s.oliol_at hi hw, Dev.profIssue_port]

/-- Settles O18: each result is what the map builder, or the precedence cut, decides. That a fixed grant displaces none is log entry 7, the
count of displaced grants modulo 256 log entry 48. -/
theorem mapInstructions : Obligations.MapInstructions := by
  intro s w rd rs rt c hs x q a b alone
  refine ⟨fun hi hw => ⟨_, exec_rngtail s hi hw, s.onlyG hs w c rd _ 4 1⟩, ?grant, ?rngwin, ?precut⟩
  case grant =>
    intro hi ha1 ha2 hodd ri l y pr flag start size lo hi' clash hit fits meetsKept full g hw
    obtain ⟨t, hex, hres, hport⟩ := exec_grant s hs hi hw ha1 ha2 hodd
    have hown := (hport x.port).trans (if_pos rfl)
    have hdone {r : GrantRes} {q' : Port} (hd : q.decideGrant ri (a / 2 ^ 12 % 4) (a / 2 ^ 16) start (b / 2 ^ 16) = (r, q')) :
        s.WroteG t w rd r.word c 20 2 ∧ t.dev.port x.port = q' := by
      rw [hd] at hres hown
      exact ⟨hres, hown⟩
    exact ⟨t, hex, fun p hp => (hport p).trans (if_neg hp),
      fun hn => hdone (q.decideGrant_unfit _ _ _ _ _ hn),
      fun hf hm => hdone (Port.decideGrant_kept (y := y) (iv := (lo, hi')) rfl rfl hf hm),
      fun hf hm hfull => hdone (Port.decideGrant_full (y := y) (iv := (lo, hi')) rfl rfl hf hm hfull),
      fun hf hm hfull => hdone (Port.decideGrant_accepted (y := y) (iv := (lo, hi')) rfl rfl hf hm hfull)⟩
  case rngwin =>
    intro hi ha hb hw l y n
    obtain ⟨t, hex, hres, hport⟩ := exec_rngwin s hs hi hw ha hb
    have hown := (hport x.port).trans (if_pos rfl)
    have halone : alone t := fun p hp => (hport p).trans (if_neg hp)
    have hdone {v : Nat} {q' : Port} (hd : (q.placeWindow l (a / 2 ^ 16) b none).val = v ∧
        (q.placeWindow l (a / 2 ^ 16) b none).port = q') :
        s.WroteG t w rd (BitVec.ofNat 32 v) c 24 24 ∧ t.dev.port x.port = q' := by
      obtain ⟨rfl, rfl⟩ := hd
      exact ⟨hres, hown⟩
    refine ⟨fun hnone => ⟨t, hex, halone, ?_⟩, fun req hreq => ⟨t, hex, halone, ?_, ?_⟩⟩
    · exact hdone (by rw [Port.placeWindow_none hnone]; exact ⟨rfl, rfl⟩)
    · exact fun hn => hdone (Port.placeWindow_deferred hreq (a / 2 ^ 16) b hn)
    · exact fun hf => hdone (Port.placeWindow_placed hreq (a / 2 ^ 16) b hf)
  case precut =>
    intro hi at0 h ri dem l cuts cost hlen hend hri hinj hcal hw
    have hl : x.cutList at0 = some l := x.cutList_eq at0 h rfl hlen hend hri hinj
    have hll : l.length = h := by simp [l]
    have hcost : precutCost l cuts = cost := by rw [precutCost, hll]
    have hport (j : Nat) := (s.dev.profIssue w c).modPort_get x.port (fun q => { q with wnd := { q.wnd with
      marks := cuts.foldl (fun m c => addMark m c.1 c.2.1) q.wnd.marks } }) j
    simp only [Dev.profIssue_port] at hport
    refine ⟨_, exec_precut s hi hw hl (hll.symm ▸ hcal), fun p hne => ?_, ?_⟩
    · rw [State.run_port, Dev.setWinder_port_at]
      exact (hport p).trans (if_neg hne)
    rw [State.run_winder_set, State.run_port, Dev.setWinder_port_at, ← hcost]
    refine ⟨x.rg_afterPrecut rd c at0 l cuts, fun k hk => ?_, fun m hm => ?_, (hport x.port).trans (if_pos rfl),
      x.afterPrecut_sameRun rd c at0 l cuts, x.afterPrecut_sameRegs rd c at0 l cuts, x.afterPrecut_fellThrough rd c at0 l cuts,
      x.afterPrecut_ports rd c at0 l cuts⟩
    · have hentry := Winder.lw_writeCuts_entry at0 cuts l 0 k x (hll ▸ hk)
      have hk' : l[k]'(hll ▸ hk) = x.demandAt at0 k := (List.getElem_map ..).trans (by rw [List.getElem_range]; rfl)
      rw [hk', Nat.zero_add] at hentry
      refine (x.lw_afterPrecut rd c at0 l cuts _).trans (hentry.trans ?_)
      change (cuts.find? fun e => e.1 == ri k).elim _ _ = _
      cases cuts.find? fun e => e.1 == ri k <;> rfl
    · exact (x.lw_afterPrecut rd c at0 l cuts m).trans
        (Winder.lw_writeCuts_other at0 cuts m l 0 x fun k _ hk => hm k (by omega))

end Sys2Proof.Machine
end

section
/-! SUPPORT. Finish tags, virtual time and reports (R224, R225, R229): instructions that read the winder side of the tree port, or write it
alone. -/
namespace Sys2Proof.Machine
open Sys2Proof

/-! ### The winder side of the served tree port -/

theorem Dev.modWnd_get (d : Dev) (p : Nat) (f : WndPort → WndPort) (j : Nat) :
    (d.modWnd p f).port j = if j = p then { d.port p with wnd := f (d.port p).wnd } else d.port j := d.modPort_get p _ j

/-- The device with `n` free values taken (a value the manual leaves open). -/
def Dev.atFree (d : Dev) (n : Nat) : Dev := { d with free := n }

/-- An instruction that changes its winder and the winder side of tree port `p`, and may take free values, leaves the rest alone. -/
theorem State.modWnd_frame (s : State) (hs : s.Settled) (w c p n : Nat) (f : WndPort → WndPort) (y : Winder) :
    let t := s.run ((((s.dev.profIssue w c).atFree n).modWnd p f).setWinder w y)
    s.SameOutside t w false ∧ (∀ j, j ≠ p → t.dev.port j = s.dev.port j) ∧
      t.dev.port p = { s.dev.port p with wnd := f (s.dev.port p).wnd } := by
  intro t
  have hport (j : Nat) : t.dev.port j = if j = p then { s.dev.port p with wnd := f (s.dev.port p).wnd } else s.dev.port j := by
    have hprof (k : Nat) : ((s.dev.profIssue w c).atFree n).port k = s.dev.port k := s.dev.profIssue_port w c k
    rw [State.run_port, Dev.setWinder_port_at, Dev.modWnd_get, hprof, hprof]
  have hquiet : quiet (s.dev.profIssue w c).outbox := by
    refine Dev.profIssue_quiet s.dev w c ?_
    rw [hs.outbox]
    intro op ho
    cases ho
  refine ⟨⟨fun u hu => ?_, (fun h => by cases h), fun a => ?_, State.run_pending _ _, ?_, fun k hk => ?_⟩, fun j hj => ?_, ?_⟩
  · rw [State.run_winder, Dev.setWinder_get, if_neg hu]
    exact s.dev.profIssue_winder w c u
  · exact congrArg (sget memDflt · a) (s.run_mem_quiet _ hquiet ((s.dev.profIssue_dma w c).trans hs.dma))
  · simp [t, Dev.modWnd, Dev.atFree]
  · rw [State.run_cluster, Dev.setWinder_cluster_at]
    exact Dev.profIssue_cluster _ _ _ _ hk
  · rw [hport, if_neg hj]
  · rw [hport, if_pos rfl]

/-! ### Finish tags (R224) -/

/-- A tag is followed when it does not lie behind V. -/
theorem finishTag_eq (v : Word) (shift : Nat) (cont : Bool) (prev bytes weight : Word) :
    finishTag v shift cont prev bytes weight = BitVec.ofNat 32
      ((if cont = true ∧ (prev - v).toNat < 2 ^ 31 then prev.toNat else v.toNat) +
        if weight.toNat = 0 then 2 ^ 30 else min ((bytes.toNat * 2 ^ shift + weight.toNat - 1) / weight.toNat) (2 ^ 30)) := by
  have hstart : (cont && !(prev - v).msb) = true ↔ cont = true ∧ (prev - v).toNat < 2 ^ 31 := by simp [BitVec.msb_eq_decide]
  have hzero : weight = 0 ↔ weight.toNat = 0 := BitVec.toNat_inj.symm
  have hval (a b : Word) (P : Prop) [Decidable P] : BitVec.ofNat 32 (if P then a.toNat else b.toNat) = if P then a else b := by
    split <;> simp
  unfold finishTag ceilDiv
  simp only [hstart, hzero, BitVec.ofNat_add, hval]
  congr 2
  split <;> rfl

theorem exec_vft (s : State) {w : Fin 80} {vd vs : BitVec 4} {src : VecSrc} {pr : Pred} {c : Nat}
    (hi : s.dev.Issues w (kV vs ++ vecKeys src ++ predKeys pr ++ kV vd) noWait c) (hw : s.dev.Spells w (.vft w vd vs src pr)) :
    let x := s.dev.winder w
    let p := (s.dev.port x.port).wnd
    exec (.vft w vd vs src pr) s = .next (s.run ((s.dev.profIssue w c).setWinder w (((x.setVs vd fun i =>
      finishTag p.v p.shift (x.lane pr i) (x.rv vd i) (x.rv vs i) (x.src src i)).writes c 4 (kV vd)).retire c 1))) := by
  intro x p
  have hrow : exec (.vft w vd vs src pr) s = execVft w vd vs src pr s := rfl
  rw [hrow, execVft, Dev.issue_eq hi]
  dsimp only
  rw [s.oliol_at hi hw, Dev.profIssue_port]
  rfl

/-- Settles O14: each lane is `finishTag` of what the lane holds. -/
theorem finishTags : Obligations.FinishTags := by
  intro s w vd vs src pr c hs _ hi hw
  refine ⟨_, exec_vft s hi hw, ?_⟩
  simp only [finishTag_eq]
  cases src <;> exact s.onlyV hs w c vd _ 4 1

/-! ### Virtual time (R225) -/

/-- V goes forward by less than half its range. -/
theorem advV_eq (v g : Word) : advV v g = if 1 ≤ (g - v).toNat ∧ (g - v).toNat < 2 ^ 31 then g else v := by
  have hzero : g - v ≠ 0 ↔ 1 ≤ (g - v).toNat := by rw [ne_eq, ← BitVec.toNat_inj]; exact Nat.one_le_iff_ne_zero.symm
  have hmsb : (g - v).msb = false ↔ (g - v).toNat < 2 ^ 31 := by simp [BitVec.msb_eq_decide]
  unfold advV
  simp only [hzero, hmsb]

section
variable (s : State) {w : Fin 80} {rd rs : BitVec 5} {c : Nat}

theorem exec_vtnow (hi : s.dev.Issues w (kG rd) noWait c) (hw : s.dev.Spells w (.vtnow w rd)) :
    let x := s.dev.winder w
    exec (.vtnow w rd) s = .next (s.run ((s.dev.profIssue w c).setWinder w
      (((x.setG rd (s.dev.port x.port).wnd.v).writes c 1 (kG rd)).retire c 1))) := by
  intro x
  have hrow : exec (.vtnow w rd) s = execVtnow w rd s := rfl
  rw [hrow, execVtnow, Dev.issue_eq hi]
  rw [s.oliol_at hi hw, Dev.profIssue_port]

theorem exec_vtadv (hi : s.dev.Issues w (kG rs ++ kG rd) noWait c) (hw : s.dev.Spells w (.vtadv w rd rs)) :
    let x := s.dev.winder w
    let v := advV (s.dev.port x.port).wnd.v (x.rg rs)
    exec (.vtadv w rd rs) s = .next (s.run (((s.dev.profIssue w c).modWnd x.port fun p => { p with v := v }).setWinder w
      (((x.setG rd v).writes c 1 (kG rd)).retire c 1))) := by
  intro x v
  have hrow : exec (.vtadv w rd rs) s = execVtadv w rd rs s := rfl
  rw [hrow, execVtadv, Dev.issue_eq hi]
  dsimp only
  rw [s.oliol_at hi hw, Dev.profIssue_port]

theorem exec_vtset (hi : s.dev.Issues w (kG rs) noWait c) (hw : s.dev.Spells w (.vtset w rs)) :
    let x := s.dev.winder w
    exec (.vtset w rs) s = .next (s.run (((s.dev.profIssue w c).modWnd x.port fun p => { p with v := x.rg rs }).setWinder w
      (x.retire c 1))) := by
  intro x
  have hrow : exec (.vtset w rs) s = execVtset w rs s := rfl
  rw [hrow, execVtset, Dev.issue_eq hi]
  exact s.oliol_at hi hw _

theorem exec_vtshift (hi : s.dev.Issues w (kG rs) noWait c) (hw : s.dev.Spells w (.vtshift w rs)) :
    let x := s.dev.winder w
    exec (.vtshift w rs) s = .next (s.run (((s.dev.profIssue w c).modWnd x.port fun p =>
      { p with shift := (x.rg rs).toNat % 16 }).setWinder w (x.retire c 1))) := by
  intro x
  have hrow : exec (.vtshift w rs) s = execVtshift w rs s := rfl
  rw [hrow, execVtshift, Dev.issue_eq hi]
  exact s.oliol_at hi hw _

end

theorem Winder.samePorts_setG (x : Winder) (rd : BitVec 5) (v : Word) (c lat cost : Nat) :
    x.SamePorts (((x.setG rd v).writes c lat (kG rd)).retire c cost) := ⟨by simp, by simp, by simp, by simp⟩

/-- An instruction that falls through and writes no register. -/
theorem Winder.retire_frame (x : Winder) (c cost : Nat) : x.SameRegs (x.retire c cost) true true true true ∧
    x.SameRun (x.retire c cost) ∧ (x.retire c cost).ready = x.ready ∧ x.FellThrough (x.retire c cost) c cost ∧
    x.SamePorts (x.retire c cost) :=
  ⟨⟨fun _ _ => rfl, fun _ _ _ => rfl, fun _ _ => rfl, fun _ _ => rfl⟩, Winder.sameRun_of_kept rfl, rfl,
    Winder.retire_fellThrough _ _ _ _ rfl rfl, ⟨rfl, rfl, rfl, rfl⟩⟩

/-- Settles O15: VTNOW reads V; the others change V or SHIFT alone, on the winder side of the port. -/
theorem virtualTime : Obligations.VirtualTime := by
  intro s w rd rs c hs x q g port only
  refine ⟨fun hi hw => ⟨_, exec_vtnow s hi hw, s.onlyG hs w c rd _ 1 1⟩, ?vtadv, fun hi => ⟨?vtset, ?vtshift⟩⟩
  case vtadv =>
    intro hi v hw
    have hv : advV q.wnd.v g = v := advV_eq _ _
    refine ⟨_, exec_vtadv s hi hw, ?_⟩
    simp only [← hv]
    refine ⟨s.wroteG_of_winder _ hs w c rd _ 1 1 (State.run_winder_set ..), ?_, s.modWnd_frame hs w c x.port _ _ _⟩
    rw [State.run_winder_set]
    exact x.samePorts_setG rd _ c 1 1
  case vtset =>
    intro hw
    refine ⟨_, exec_vtset s hi hw, ?_, s.modWnd_frame hs w c x.port _ _ _⟩
    dsimp only [only]
    rw [State.run_winder_set]
    exact x.retire_frame c 1
  case vtshift =>
    intro hw
    refine ⟨_, exec_vtshift s hi hw, ?_, s.modWnd_frame hs w c x.port _ _ _⟩
    dsimp only [only]
    rw [State.run_winder_set]
    exact x.retire_frame c 1

/-! ### Reports (R229) -/

/-- The record that RPTGET fetches from a report set. -/
def fetchedRecord : List Rpt → Word
  | [] => 0xFFFFFFFF
  | r :: _ => BitVec.ofNat 32 r.ri

/-- The bytes that it reports. -/
def fetchedBytes : List Rpt → Word
  | [] => 0
  | r :: _ => BitVec.ofNat 32 r.bytes

/-- The winder after RPTGET has written the two results. -/
def Winder.afterFetch (x : Winder) (rd rt : BitVec 5) (c : Nat) (a b : Word) : Winder :=
  (((x.setG rd a).setG rt b).writes c 6 (kG rd ++ kG rt)).retire c 1

section
variable (x : Winder) (rd rt : BitVec 5) (c : Nat) (a b : Word)

theorem Winder.rg_afterFetch (n : BitVec 5) :
    (x.afterFetch rd rt c a b).rg n = if n = 0 then 0 else if n = rt then b else if n = rd then a else x.rg n := by
  unfold Winder.afterFetch
  rw [Winder.retire_rg, Winder.writes_rg, Winder.rg_setG, Winder.rg_setG]
  by_cases hn : n = 0
  · rw [if_pos hn, if_pos hn]
  · rw [if_neg hn, if_neg hn, if_neg hn]

theorem Winder.afterFetch_ready (k : Nat) : sget (fun _ => 0) (x.afterFetch rd rt c a b).ready k =
    if k ∈ kG rd ∨ k ∈ kG rt then c + 6 else sget (fun _ => 0) x.ready k := by
  unfold Winder.afterFetch
  simp only [Winder.retire_ready, sget_writes, Winder.setG_ready, List.mem_append]

theorem Winder.afterFetch_frame : x.SameRegs (x.afterFetch rd rt c a b) false true true true ∧ x.SameRun (x.afterFetch rd rt c a b) ∧
    x.FellThrough (x.afterFetch rd rt c a b) c 1 := by
  refine ⟨⟨(fun h => by cases h), fun _ n i => ?_, fun _ n => ?_, fun _ a => ?_⟩, Winder.sameRun_of_kept ?_,
    Winder.retire_fellThrough _ _ _ _ ?_ ?_⟩
  · simp [Winder.afterFetch]
  · simp [Winder.afterFetch]
  · simp [Winder.afterFetch]
  · exact (Winder.setG_kept _ _ _).trans (Winder.setG_kept _ _ _)
  · simp
  · simp

end

/-- RPTGET on two registers. -/
theorem exec_rptget (s : State) {w : Fin 80} {rd rt : BitVec 5} {c : Nat} (hi : s.dev.Issues w (kG rd ++ kG rt) noWait c)
    (hne : rd ≠ rt) (hw : s.dev.Spells w (.rptget w rd rt)) :
    let x := s.dev.winder w
    let set := (s.dev.port x.port).wnd.rptSet
    exec (.rptget w rd rt) s = .next (s.run (((s.dev.profIssue w c).modWnd x.port fun p =>
      { p with rptSet := set.drop 1, rptFetched := p.rptFetched ++ set.take 1 }).setWinder w
        (x.afterFetch rd rt c (fetchedRecord set) (fetchedBytes set)))) := by
  intro x set
  have hrow : exec (.rptget w rd rt) s = execRptget w rd rt s := rfl
  rw [hrow, execRptget, Dev.issue_eq hi]
  dsimp only
  rw [if_neg hne, if_neg hne, s.oliol_at hi hw, Dev.profIssue_port]
  rfl

theorem exec_rptcnt (s : State) {w : Fin 80} {rd : BitVec 5} {c : Nat} (hi : s.dev.Issues w (kG rd) noWait c)
    (hw : s.dev.Spells w (.rptcnt w rd)) :
    let x := s.dev.winder w
    exec (.rptcnt w rd) s = .next (s.run ((s.dev.profIssue w c).setWinder w
      (((x.setG rd (BitVec.ofNat 32 (s.dev.port x.port).wnd.rptSet.length)).writes c 6 (kG rd)).retire c 1))) := by
  intro x
  have hrow : exec (.rptcnt w rd) s = execRptcnt w rd s := rfl
  rw [hrow, execRptcnt, Dev.issue_eq hi]
  rw [s.oliol_at hi hw, Dev.profIssue_port]

/-- Settles O17: the head of the set goes to the two registers and to the fetched reports. -/
theorem reportFetch : Obligations.ReportFetch := by
  intro s w rd rt c hs x q set
  refine ⟨?rptget, fun hi hw => ⟨_, exec_rptcnt s hi hw, s.onlyG hs w c rd _ 6 1⟩⟩
  case rptget =>
    intro hi hne a b hw
    obtain ⟨hout, hother, hport⟩ := s.modWnd_frame hs w c x.port (s.dev.profIssue w c).free
      (fun p => { p with rptSet := set.drop 1, rptFetched := p.rptFetched ++ set.take 1 }) (x.afterFetch rd rt c a b)
    obtain ⟨hregs, hrun, hnext⟩ := x.afterFetch_frame rd rt c a b
    refine ⟨_, exec_rptget s hi hne hw, hout, hother, hport, ?_⟩
    rw [State.run_winder_set]
    exact ⟨x.rg_afterFetch rd rt c a b, hregs, hrun, hnext, x.afterFetch_ready rd rt c a b⟩

end Sys2Proof.Machine
end

section
/-! SUPPORT. The calendar wheel (R226 to R228): link words, slots, and what each instruction of the calendar does to them. -/
namespace Sys2Proof.Machine
open Sys2Proof

/-! ### Link words (R226) -/

/-- Replacing one half of a word leaves the other. -/
theorem half_replace (o v i j : Nat) (ho : o < 2 ^ 32) (hv : v < 2 ^ 16) (hi : i < 2) (hj : j < 2) :
    (o - o / 2 ^ (16 * i) % 2 ^ 16 * 2 ^ (16 * i) + v * 2 ^ (16 * i)) % 2 ^ 32 / 2 ^ (16 * j) % 2 ^ 16 =
      if j = i then v else o / 2 ^ (16 * j) % 2 ^ 16 := by
  have hi' : i = 0 ∨ i = 1 := by omega
  have hj' : j = 0 ∨ j = 1 := by omega
  rcases hi' with rfl | rfl <;> rcases hj' with rfl | rfl <;> simp <;> omega

theorem Winder.link_setLink (x : Winder) (r : Nat) (v : Half) (j : Nat) : (x.setLink r v).link j = if j = r then v else x.link j := by
  refine BitVec.eq_of_toNat_eq ?_
  have hrep := half_replace (x.lw (0xE000 + 2 * r)).toNat v.toNat (r % 2) (j % 2) (BitVec.isLt _) v.isLt (Nat.mod_lt _ (by decide))
    (Nat.mod_lt _ (by decide))
  unfold Winder.setLink Winder.link
  dsimp only
  rw [Winder.lw_setLw, BitVec.toNat_ofNat]
  by_cases hword : (0xE000 + 2 * j) / 4 = (0xE000 + 2 * r) / 4
  · have hlw : x.lw (0xE000 + 2 * r) = x.lw (0xE000 + 2 * j) := by unfold Winder.lw; rw [hword]
    have hhalf : j % 2 = r % 2 ↔ j = r := by omega
    rw [if_pos hword, BitVec.toNat_ofNat, hrep, hlw]
    simp only [hhalf]
    split
    · rfl
    · exact (BitVec.toNat_ofNat _ _).symm
  · have hne : j ≠ r := fun h => hword (by rw [h])
    rw [if_neg hword, if_neg hne]
    exact (BitVec.toNat_ofNat _ _).symm

theorem Winder.member_setLink (x : Winder) (r : Nat) (v : Half) (j : Nat) :
    (x.setLink r v).member j = if j = r then v.getLsbD 15 else x.member j := by
  unfold Winder.member
  rw [Winder.link_setLink]
  split <;> rfl

theorem Winder.nextRec_setLink (x : Winder) (r : Nat) (v : Half) (j : Nat) :
    (x.setLink r v).nextRec j = if j = r then v.toNat % 4096 else x.nextRec j := by
  unfold Winder.nextRec
  rw [Winder.link_setLink]
  split <;> rfl

/-- MEMBER is the top bit of a link word. -/
theorem getLsbD_fifteen (n : Nat) (h : n < 2 ^ 16) : (BitVec.ofNat 16 n).getLsbD 15 = decide (2 ^ 15 ≤ n) := by
  rw [BitVec.getLsbD_ofNat, Nat.testBit_eq_decide_div_mod_eq]
  simp
  omega

/-- The links after record `r` joins a slot `c`: its own, and that of the record that was the tail (R227). -/
def Winder.appendLink (x : Winder) (c : CalSlot) (r next : Nat) : Winder :=
  let x1 := x.setLink r (BitVec.ofNat 16 (0x8000 + next))
  if c.count = 0 then x1 else x1.setLink c.tail (BitVec.ofNat 16 ((x1.link c.tail).toNat / 2 ^ 12 * 2 ^ 12 + r))

section
variable (x : Winder) (c : CalSlot) (r next : Nat)

theorem Winder.member_appendLink (hr : r < 4096) (hn : next < 4096) : (x.appendLink c r next).member r = true := by
  have hown : (BitVec.ofNat 16 (0x8000 + next)).toNat = 0x8000 + next := by rw [BitVec.toNat_ofNat]; omega
  have hjoin : (BitVec.ofNat 16 (0x8000 + next)).getLsbD 15 = true := by
    rw [getLsbD_fifteen _ (by omega)]
    exact decide_eq_true (by omega)
  unfold Winder.appendLink
  dsimp only
  split
  · rw [Winder.member_setLink, if_pos rfl, hjoin]
  · rw [Winder.member_setLink]
    split
    next htail =>
      rw [← htail, Winder.link_setLink, if_pos rfl, hown, getLsbD_fifteen _ (by omega)]
      exact decide_eq_true (by omega)
    · rw [Winder.member_setLink, if_pos rfl, hjoin]

theorem Winder.nextRec_appendLink (hr : r < 4096) (hc : c.count ≠ 0) : (x.appendLink c r next).nextRec c.tail = r := by
  unfold Winder.appendLink
  dsimp only
  rw [if_neg hc, Winder.nextRec_setLink, if_pos rfl, BitVec.toNat_ofNat]
  omega

/-- A record that leaves the calendar. -/
def Winder.unlink (x : Winder) (r : Nat) : Winder := x.setLink r (BitVec.ofNat 16 ((x.link r).toNat % 2 ^ 15))

theorem Winder.member_unlink : (x.unlink r).member r = false := by
  unfold Winder.unlink
  rw [Winder.member_setLink, if_pos rfl, getLsbD_fifteen _ (by omega)]
  exact decide_eq_false (by omega)

end

/-! ### Slots -/

theorem WndPort.slot_setSlot (p : WndPort) (k : Nat) (c : CalSlot) (j : Nat) :
    (p.setSlot k c).slot j = if j = k then c else p.slot j := sget_sset _ _ _ _ _

/-- A slot with record `r` at its tail (R227). -/
def slotAppend (c : CalSlot) (r : Nat) : CalSlot :=
  { head := if c.count = 0 then r else c.head, tail := r, count := c.count + 1 }

/-- A slot without its head, which record `next` follows (R228). -/
def slotPop (c : CalSlot) (next : Nat) : CalSlot := if c.count = 1 then {} else { c with head := next, count := c.count - 1 }

theorem slotPop_count (c : CalSlot) (next : Nat) : (slotPop c next).count = c.count - 1 := by
  unfold slotPop
  split
  next h => rw [h]
  · rfl

theorem slotPop_ends (c : CalSlot) (next : Nat) (h : c.count ≠ 1) : (slotPop c next).head = next ∧ (slotPop c next).tail = c.tail := by
  unfold slotPop
  rw [if_neg h]
  exact ⟨rfl, rfl⟩

theorem calAppend_eq (x : Winder) (p : WndPort) (k r next : Nat) : calAppend x p k r next =
    ({ x with lmem := (x.appendLink (p.slot k) r next).lmem }, p.setSlot k (slotAppend (p.slot k) r)) := by
  unfold calAppend Winder.appendLink slotAppend
  dsimp only
  split <;> rfl

/-! ### The winder after an instruction of the calendar -/

/-- It takes the calendar for three cycles, leaves local data memory `m` and writes `v` to `rd` (R220, R227, R228). -/
def Winder.afterCal (x : Winder) (rd : BitVec 5) (c lat : Nat) (m : Sparse Word) (v : Word) : Winder :=
  (({ x with lmem := m, calFree := c + 3 }.setG rd v).writes c lat (kG rd)).retire c 1

section
variable (x y : Winder) (rd : BitVec 5) (c lat : Nat) (m : Sparse Word) (v : Word)

theorem Winder.rg_afterCal (n : BitVec 5) :
    (x.afterCal rd c lat m v).rg n = if n = 0 then 0 else if n = rd then v else x.rg n := by
  unfold Winder.afterCal
  rw [Winder.retire_rg, Winder.writes_rg, Winder.rg_setG]
  rfl

theorem Winder.afterCal_ready (k : Nat) : sget (fun _ => 0) (x.afterCal rd c lat m v).ready k =
    if k ∈ kG rd then c + lat else sget (fun _ => 0) x.ready k := by
  unfold Winder.afterCal
  rw [Winder.retire_ready, sget_writes, Winder.setG_ready]

theorem Winder.afterCal_fellThrough : x.FellThrough (x.afterCal rd c lat m v) c 1 :=
  Winder.retire_fellThrough _ _ _ _ (Winder.setG_pc _ _ _) (Winder.setG_loops _ _ _)

theorem Winder.afterCal_sameRun : x.SameRun (x.afterCal rd c lat m v) := Winder.sameRun_of_kept (Winder.setG_kept _ _ _)

theorem Winder.afterCal_sameRegs : x.SameRegs (x.afterCal rd c lat m v) false true true false := by
  refine ⟨(fun h => by cases h), fun _ n i => ?_, fun _ n => ?_, (fun h => by cases h)⟩
  · exact Winder.setG_rv _ _ _ _ _
  · exact Winder.setG_rp _ _ _ _

theorem Winder.afterCal_ports : (x.afterCal rd c lat m v).calFree = c + 3 ∧ (x.afterCal rd c lat m v).portFree = x.portFree ∧
    (x.afterCal rd c lat m v).loads = x.loads :=
  ⟨Winder.setG_calFree _ _ _, Winder.setG_portFree _ _ _, Winder.setG_loads _ _ _⟩

theorem Winder.lw_afterCal (a : Nat) : (x.afterCal rd c lat y.lmem v).lw a = y.lw a := Winder.setG_lw _ _ _ _

theorem Winder.member_afterCal (r : Nat) : (x.afterCal rd c lat y.lmem v).member r = y.member r := by
  unfold Winder.member Winder.link
  rw [Winder.lw_afterCal]

theorem Winder.nextRec_afterCal (r : Nat) : (x.afterCal rd c lat y.lmem v).nextRec r = y.nextRec r := by
  unfold Winder.nextRec Winder.link
  rw [Winder.lw_afterCal]

end

/-! ### The state after an instruction of the calendar -/

/-- What every instruction of the calendar leaves of a state, when it used slot `k` in cycle `c`. -/
def State.CalFrame (s t : State) (w c k : Nat) : Prop :=
  let x := s.dev.winder w
  let q := s.dev.port x.port
  s.SameOutside t w false ∧ (∀ p, p ≠ x.port → t.dev.port p = s.dev.port p) ∧
    t.dev.port x.port = { q with wnd := { q.wnd with cal := (t.dev.port x.port).wnd.cal } } ∧ x.SameRun (t.dev.winder w) ∧
    x.FellThrough (t.dev.winder w) c 1 ∧ (t.dev.winder w).calFree = c + 3 ∧
    (∀ j, j ≠ k → (t.dev.port x.port).wnd.slot j = q.wnd.slot j) ∧
    x.SameRegs (t.dev.winder w) false true true false ∧ (t.dev.winder w).portFree = x.portFree ∧ (t.dev.winder w).loads = x.loads

section
variable (s : State) (hs : s.Settled) (w c k : Nat) (rd : BitVec 5) (lat : Nat) (v : Word)
include hs

/-- The calendar stays as it was. -/
theorem State.cal_kept :
    let x := s.dev.winder w
    let t := s.run ((s.dev.profIssue w c).setWinder w (x.afterCal rd c lat x.lmem v))
    s.CalFrame t w c k ∧ (t.dev.port x.port).wnd.slot k = (s.dev.port x.port).wnd.slot k ∧
      ∀ a, (t.dev.winder w).lw a = x.lw a := by
  intro x t
  have hout := s.sameOutside hs w c (x.afterCal rd c lat x.lmem v)
  have hports : ∀ p, t.dev.port p = s.dev.port p := hout.ports rfl
  have ht : t.dev.winder w = x.afterCal rd c lat x.lmem v := State.run_winder_set ..
  obtain ⟨hcal, hport, hloads⟩ := x.afterCal_ports rd c lat x.lmem v
  unfold State.CalFrame
  rw [ht]
  exact ⟨⟨{ hout with ports := fun h => by cases h }, fun p _ => hports p, by rw [hports], x.afterCal_sameRun ..,
    x.afterCal_fellThrough .., hcal, fun j _ => by rw [hports], x.afterCal_sameRegs .., hport, hloads⟩, by rw [hports], x.lw_afterCal x rd c lat v⟩

/-- One slot of the calendar changes. -/
theorem State.cal_setSlot (n : Nat) (slot : CalSlot) (m : Sparse Word) :
    let x := s.dev.winder w
    let t := s.run ((((s.dev.profIssue w c).atFree n).modWnd x.port fun p => p.setSlot k slot).setWinder w
      (x.afterCal rd c lat m v))
    s.CalFrame t w c k ∧ (t.dev.port x.port).wnd.slot k = slot := by
  intro x t
  obtain ⟨hout, hother, hown⟩ := s.modWnd_frame hs w c x.port n (fun p => p.setSlot k slot) (x.afterCal rd c lat m v)
  have ht : t.dev.winder w = x.afterCal rd c lat m v := State.run_winder_set ..
  have hslot (j : Nat) : (t.dev.port x.port).wnd.slot j = if j = k then slot else (s.dev.port x.port).wnd.slot j := by
    rw [show t.dev.port x.port = _ from hown]
    exact WndPort.slot_setSlot ..
  obtain ⟨hcal, hport, hloads⟩ := x.afterCal_ports rd c lat m v
  unfold State.CalFrame
  rw [ht]
  refine ⟨⟨hout, hother, ?_, x.afterCal_sameRun .., x.afterCal_fellThrough .., hcal, fun j hj => (hslot j).trans (if_neg hj),
    x.afterCal_sameRegs .., hport, hloads⟩, (hslot k).trans (if_pos rfl)⟩
  rw [show t.dev.port x.port = _ from hown]
  rfl

end

/-! ### CALINS, CALPOP, CALCNT -/

/-- What an instruction of the calendar decides: the device, local data memory, the result. -/
structure CalRes where
  dev : Dev
  lmem : Sparse Word
  val : Word

/-- The device once the winder has taken the result. -/
def CalRes.finish (r : CalRes) (w : Nat) (x : Winder) (rd : BitVec 5) (c lat : Nat) : Dev :=
  r.dev.setWinder w (x.afterCal rd c lat r.lmem r.val)

/-- CALINS of record `r` in slot `k` (R227). -/
def Winder.calins (x : Winder) (d : Dev) (k r : Nat) : CalRes :=
  let c := (d.port x.port).wnd.slot k
  if x.member r then { dev := d, lmem := x.lmem, val := 0xFFFFFFFF }
  else
    { dev := (d.atFree (d.free + 1)).modWnd x.port fun p => p.setSlot k (slotAppend c r)
      lmem := (x.appendLink c r (d.pick 12).1).lmem
      val := BitVec.ofNat 32 (c.count + 1) }

/-- CALPOP from slot `k` (R228). -/
def Winder.calpop (x : Winder) (d : Dev) (k : Nat) : CalRes :=
  let c := (d.port x.port).wnd.slot k
  if c.count = 0 then { dev := d, lmem := x.lmem, val := 0xFFFFFFFF }
  else
    { dev := d.modWnd x.port fun p => p.setSlot k (slotPop c (x.nextRec c.head))
      lmem := (x.unlink c.head).lmem
      val := BitVec.ofNat 32 c.head }

/-- CALCNT of slot `k` (R228). -/
def Winder.calcnt (x : Winder) (d : Dev) (k : Nat) : CalRes :=
  { dev := d, lmem := x.lmem, val := BitVec.ofNat 32 ((d.port x.port).wnd.slot k).count }

section
variable {x : Winder} {d : Dev} {k r : Nat} {c : CalSlot}

theorem Winder.calins_member (hm : x.member r = true) : x.calins d k r = { dev := d, lmem := x.lmem, val := 0xFFFFFFFF } := by
  unfold Winder.calins
  exact if_pos hm

theorem Winder.calins_new (hm : x.member r = false) (hc : (d.port x.port).wnd.slot k = c) : x.calins d k r =
    { dev := (d.atFree (d.free + 1)).modWnd x.port fun p => p.setSlot k (slotAppend c r)
      lmem := (x.appendLink c r (d.pick 12).1).lmem
      val := BitVec.ofNat 32 (c.count + 1) } := by
  unfold Winder.calins
  rw [hc]
  exact if_neg (Bool.eq_false_iff.1 hm)

theorem Winder.calpop_empty (hc : (d.port x.port).wnd.slot k = c) (h : c.count = 0) :
    x.calpop d k = { dev := d, lmem := x.lmem, val := 0xFFFFFFFF } := by
  unfold Winder.calpop
  rw [hc]
  exact if_pos h

theorem Winder.calpop_head (hc : (d.port x.port).wnd.slot k = c) (h : c.count ≠ 0) : x.calpop d k =
    { dev := d.modWnd x.port fun p => p.setSlot k (slotPop c (x.nextRec c.head))
      lmem := (x.unlink c.head).lmem
      val := BitVec.ofNat 32 c.head } := by
  unfold Winder.calpop
  rw [hc]
  exact if_neg h

theorem Winder.calcnt_eq (hc : (d.port x.port).wnd.slot k = c) :
    x.calcnt d k = { dev := d, lmem := x.lmem, val := BitVec.ofNat 32 c.count } := by rw [Winder.calcnt, hc]

end

theorem exec_calins (s : State) (w : Fin 80) (rd rs rt : BitVec 5) : exec (.calins w rd rs rt) s =
    s.oliol w (.calins w rd rs rt) (s.dev.calIssue w (kG rs ++ kG rt ++ kG rd) fun n x d =>
      some ((x.calins d ((x.rg rs).toNat % 1024) ((x.rg rt).toNat % 4096)).finish w x rd n 4)) := by
  have hrow : exec (.calins w rd rs rt) s = execCalins w rd rs rt s := rfl
  rw [hrow, execCalins]
  congr 2
  funext n x d
  unfold Winder.calins
  dsimp only
  split
  · rfl
  · rw [calAppend_eq, WndPort.slot_setSlot, if_pos rfl]
    rfl

theorem exec_calpop (s : State) (w : Fin 80) (rd rs : BitVec 5) : exec (.calpop w rd rs) s =
    s.oliol w (.calpop w rd rs) (s.dev.calIssue w (kG rs ++ kG rd) fun n x d =>
      some ((x.calpop d ((x.rg rs).toNat % 1024)).finish w x rd n 5)) := by
  have hrow : exec (.calpop w rd rs) s = execCalpop w rd rs s := rfl
  rw [hrow, execCalpop]
  congr 2
  funext n x d
  unfold Winder.calpop
  dsimp only
  split <;> rfl

theorem exec_calcnt (s : State) (w : Fin 80) (rd rs : BitVec 5) : exec (.calcnt w rd rs) s =
    s.oliol w (.calcnt w rd rs) (s.dev.calIssue w (kG rs ++ kG rd) fun n x d =>
      some ((x.calcnt d ((x.rg rs).toNat % 1024)).finish w x rd n 5)) := rfl

section
variable (s : State) {w : Fin 80} {i : Instr} {keys : List Nat} {c : Nat} (f : Nat → Winder → Dev → Dev)
variable (hi : s.dev.Issues w keys calAt c) (hw : s.dev.Spells w i)
include hi hw

/-- A calendar that no store has opened is used as it stands. -/
theorem State.calIssue_closed (h : (s.dev.port (s.dev.winder w).port).wnd.calOpen = false) :
    s.oliol w i (s.dev.calIssue w keys fun n x d => some (f n x d)) =
      .next (s.run (f c (s.dev.winder w) (s.dev.profIssue w c))) := by
  rw [Dev.calIssue, Dev.issue_eq hi, Dev.profIssue_port, h]
  exact s.oliol_at hi hw _

/-- An open one may hold anything (Table 7-9): another device, other local data memory. -/
theorem State.calIssue_open (h : (s.dev.port (s.dev.winder w).port).wnd.calOpen = true) : ∃ d m,
    s.oliol w i (s.dev.calIssue w keys fun n x d => some (f n x d)) = .next (s.run (f c { s.dev.winder w with lmem := m } d)) := by
  rw [Dev.calIssue, Dev.issue_eq hi, Dev.profIssue_port, h]
  exact ⟨_, _, s.oliol_at hi hw _⟩

end

/-- Settles O16: a closed calendar is read and changed as it stands; of an open one the result alone is left open. -/
theorem calendarWheel : Obligations.CalendarWheel := by
  intro s w rd rs rt c hs x q k r slot old frame wrote lmemSame
  have hr : r < 4096 := Nat.mod_lt _ (by decide)
  have hwrote (t : State) (lat : Nat) (m : Sparse Word) (v : Word) (ht : t.dev.winder w = x.afterCal rd c lat m v) : wrote t v lat := by
    dsimp only [wrote]
    rw [ht]
    exact ⟨x.rg_afterCal rd c lat m v, x.afterCal_ready rd c lat m v⟩
  have hkept (lat : Nat) (v : Word) :
      let t := s.run ((s.dev.profIssue w c).setWinder w (x.afterCal rd c lat x.lmem v))
      frame t ∧ wrote t v lat ∧ slot t k = old ∧ lmemSame t := by
    obtain ⟨hframe, hslot, hlmem⟩ := s.cal_kept hs w c k rd lat v
    exact ⟨hframe, hwrote _ lat x.lmem v (State.run_winder_set ..), hslot, hlmem⟩
  have hopen (lat : Nat) (m m' : Sparse Word) (d : Dev) (v : Word) :
      let t := s.run (d.setWinder w ({ x with lmem := m }.afterCal rd c lat m' v))
      wrote t v lat ∧ x.FellThrough (t.dev.winder w) c 1 := by
    have ht := State.run_winder_set s d w (x.afterCal rd c lat m' v)
    exact ⟨hwrote _ lat m' v ht, (congrArg (x.FellThrough · c 1) ht).mpr (x.afterCal_fellThrough rd c lat m' v)⟩
  have hold : ((s.dev.profIssue w c).port x.port).wnd.slot k = old := congrArg (·.wnd.slot k) (s.dev.profIssue_port w c x.port)
  refine ⟨fun hclosed hi => ⟨?insMember, ?insNew⟩, fun hclosed hi => ⟨?popEmpty, ?popHead, ?cnt⟩,
    fun hop => ⟨?insOpen, ?popOpen⟩⟩
  case insMember =>
    intro hm hw
    rw [exec_calins, s.calIssue_closed _ hi hw hclosed, Winder.calins_member hm]
    exact ⟨_, rfl, hkept 4 _⟩
  case insNew =>
    intro hm hw
    rw [exec_calins, s.calIssue_closed _ hi hw hclosed, Winder.calins_new hm hold]
    obtain ⟨hframe, hslot⟩ := s.cal_setSlot hs w c k rd 4 (BitVec.ofNat 32 (old.count + 1)) ((s.dev.profIssue w c).free + 1)
      (slotAppend old r) (x.appendLink old r ((s.dev.profIssue w c).pick 12).1).lmem
    refine ⟨_, rfl, hframe, hwrote _ 4 _ _ (State.run_winder_set ..), hslot, ?_⟩
    dsimp only [CalRes.finish]
    rw [State.run_winder_set, Winder.member_afterCal, Winder.nextRec_afterCal]
    exact ⟨x.member_appendLink old r _ hr (Nat.mod_lt _ (by decide)), x.nextRec_appendLink old r _ hr⟩
  case popEmpty =>
    intro hz hw
    rw [exec_calpop, s.calIssue_closed _ hi hw hclosed, Winder.calpop_empty hold hz]
    exact ⟨_, rfl, hkept 5 _⟩
  case popHead =>
    intro hz hw
    rw [exec_calpop, s.calIssue_closed _ hi hw hclosed, Winder.calpop_head hold hz]
    obtain ⟨hframe, hslot⟩ := s.cal_setSlot hs w c k rd 5 (BitVec.ofNat 32 old.head) (s.dev.profIssue w c).free
      (slotPop old (x.nextRec old.head)) (x.unlink old.head).lmem
    refine ⟨_, rfl, hframe, hwrote _ 5 _ _ (State.run_winder_set ..), ?_, ?_, fun hone => ?_⟩
    · dsimp only [CalRes.finish]
      rw [State.run_winder_set, Winder.member_afterCal]
      exact x.member_unlink old.head
    · exact (congrArg CalSlot.count hslot).trans (slotPop_count old _)
    · obtain ⟨hhead, htail⟩ := slotPop_ends old (x.nextRec old.head) hone
      exact ⟨(congrArg CalSlot.head hslot).trans hhead, (congrArg CalSlot.tail hslot).trans htail⟩
  case cnt =>
    intro hw
    rw [exec_calcnt, s.calIssue_closed _ hi hw hclosed, Winder.calcnt_eq hold]
    exact ⟨_, rfl, hkept 5 _⟩
  case insOpen =>
    intro hi hw
    obtain ⟨d, m, he⟩ := s.calIssue_open (fun n x d => _) hi hw hop
    rw [exec_calins, he]
    exact ⟨_, _, rfl, hopen 4 m _ _ _⟩
  case popOpen =>
    intro hi g hg hw
    simp only [List.mem_cons, List.not_mem_nil, or_false] at hg
    rcases hg with rfl | rfl
    · obtain ⟨d, m, he⟩ := s.calIssue_open (fun n x d => _) hi hw hop
      rw [exec_calpop, he]
      exact ⟨_, _, rfl, hopen 5 m _ _ _⟩
    · obtain ⟨d, m, he⟩ := s.calIssue_open (fun n x d => _) hi hw hop
      rw [exec_calcnt, he]
      exact ⟨_, _, rfl, hopen 5 m _ _ _⟩

end Sys2Proof.Machine
end

section
/-! SUPPORT. SEAL (R161, R163, R236, R237): what closing the maps and ending the run write of the tree port, and what both leave. -/
namespace Sys2Proof.Machine
open Sys2Proof

/-! ### What the steps of a seal leave of a tree port -/

/-- The winder side of a tree port without the records, the report queue and the witness mark. -/
def WndPort.sealKept (x : WndPort) : WndPort :=
  { x with
    alloc := [], admitSeq := 0, allocPend := [], rptQ := [], rptSet := [], rptFetched := [], ckptRpts := [], noWitness := false }

/-- A tree port without these and the maps under construction: what CUT bits, witness grants and record writes leave. -/
def Port.sealKept (q : Port) : Port :=
  { q with main := { q.main with map := {} }, comp := { q.comp with map := {} }, wnd := q.wnd.sealKept }

theorem Port.sealKept_eq {q r : Port} (h : r.sealKept = q.sealKept) :
    r.wnd.winder = q.wnd.winder ∧ r.wnd.run = q.wnd.run ∧ r.wnd.sealCyc = q.wnd.sealCyc ∧ r.wnd.lastMissed = q.wnd.lastMissed ∧
      ∀ l, (r.lane l).st = (q.lane l).st ∧ (r.lane l).sealed = (q.lane l).sealed := by
  refine ⟨(congrArg (·.wnd.winder) h :), (congrArg (·.wnd.run) h :), (congrArg (·.wnd.sealCyc) h :),
    (congrArg (·.wnd.lastMissed) h :), fun l => ?_⟩
  cases l with
  | main => exact ⟨(congrArg (·.main.st) h :), (congrArg (·.main.sealed) h :)⟩
  | comp => exact ⟨(congrArg (·.comp.st) h :), (congrArg (·.comp.sealed) h :)⟩

theorem Port.sealKept_setWnd (q : Port) (x : WndPort) (h : x.sealKept = q.wnd.sealKept) : { q with wnd := x }.sealKept = q.sealKept := by
  unfold Port.sealKept
  rw [h]

theorem WndPort.setAw_sealKept (x : WndPort) (r k v : Nat) : (x.setAw r k v).sealKept = x.sealKept := rfl

theorem WndPort.setDbit_sealKept (x : WndPort) (r bit : Nat) (on : Bool) : (x.setDbit r bit on).sealKept = x.sealKept :=
  x.setAw_sealKept _ _ _

theorem WndPort.setRpts_sealKept (x : WndPort) (a b c e : List Rpt) :
    { x with rptQ := a, rptSet := b, rptFetched := c, ckptRpts := e }.sealKept = x.sealKept := rfl

theorem WndPort.foldl_sealKept {β : Type} (f : WndPort → β → WndPort) (h : ∀ x b, (f x b).sealKept = x.sealKept) (l : List β)
    (x : WndPort) : (l.foldl f x).sealKept = x.sealKept :=
  List.foldlRecOn (motive := fun y => y.sealKept = x.sealKept) l f rfl fun y hy b _ => (h y b).trans hy

theorem Port.lane_setWnd (q : Port) (x : WndPort) (l : Lane) : { q with wnd := x }.lane l = q.lane l := by cases l <;> rfl

/-- Between `d` and `e` every winder and every other port stays, and of tree port `p` what `sealKept` keeps. -/
structure Dev.SealFrame (d e : Dev) (p : Nat) : Prop where
  winder : ∀ j, e.winder j = d.winder j
  other : ∀ j, j ≠ p → e.port j = d.port j
  own : (e.port p).sealKept = (d.port p).sealKept

theorem Dev.SealFrame.trans {d e f : Dev} {p : Nat} (h : d.SealFrame e p) (k : e.SealFrame f p) : d.SealFrame f p :=
  ⟨fun j => (k.winder j).trans (h.winder j), fun j hj => (k.other j hj).trans (h.other j hj), k.own.trans h.own⟩

/-- Neither a port nor a winder changes. -/
theorem Dev.sealFrame_of_same {d e : Dev} (p : Nat) (hw : ∀ j, e.winder j = d.winder j) (hp : ∀ j, e.port j = d.port j) :
    d.SealFrame e p := ⟨hw, fun j _ => hp j, by rw [hp]⟩

theorem Dev.sealFrame_modPort (d : Dev) (p : Nat) (f : Port → Port) (h : ∀ q, (f q).sealKept = q.sealKept) :
    d.SealFrame (d.modPort p f) p :=
  ⟨fun _ => rfl, fun j hj => (d.modPort_get p f j).trans (if_neg hj), by rw [d.modPort_get, if_pos rfl, h]⟩

theorem Dev.sealFrame_foldl {β : Type} (p : Nat) (f : Dev → β → Dev) (h : ∀ (d : Dev) (b : β), d.SealFrame (f d b) p)
    (l : List β) (d : Dev) :
    d.SealFrame (l.foldl f d) p :=
  List.foldlRecOn (motive := fun e => d.SealFrame e p) l f (Dev.sealFrame_of_same p (fun _ => rfl) fun _ => rfl)
    fun e he b _ => he.trans (h e b)

theorem Dev.sealFrame_ite {d e f : Dev} {p : Nat} {c : Prop} [Decidable c] (he : d.SealFrame e p) (hf : d.SealFrame f p) :
    d.SealFrame (if c then e else f) p := by
  split
  · exact he
  · exact hf

theorem Dev.countPort_sealFrame (d : Dev) (k ofs n p : Nat) : d.SealFrame (d.countPort k ofs n) p :=
  Dev.sealFrame_of_same p (d.countPort_winder_at k ofs n) (d.countPort_port_at k ofs n)

theorem Dev.emitPort_sealFrame (d : Dev) (k ty : Nat) (pl : Bytes) (p : Nat) : d.SealFrame (d.emitPort k ty pl) p :=
  Dev.sealFrame_of_same p (fun _ => rfl) fun _ => rfl

/-! ### Closing the maps (R179, R180, R236) -/

theorem Dev.breach_sealFrame (d : Dev) (p : Nat) (cut : List (Nat × Nat)) : d.SealFrame (d.breach p cut) p := by
  unfold Dev.breach
  refine Dev.SealFrame.trans (d.sealFrame_modPort p _ fun q => q.sealKept_setWnd _ ?_) (Dev.sealFrame_foldl p _ (fun e b => ?_) cut _)
  · rw [WndPort.foldl_sealKept (fun (x : WndPort) (e : Nat × Nat) => x.setDbit e.1 1 true) fun x e => x.setDbit_sealKept e.1 1 true]
    refine WndPort.foldl_sealKept _ (fun x r => ?_) q.wnd.recs _
    split
    · exact x.setDbit_sealKept r 1 false
    · rfl
  · exact (e.countPort_sealFrame p _ _ p).trans (Dev.emitPort_sealFrame _ _ _ _ p)

theorem Port.sealKept_addWitness (q : Port) (l : Lane) (g : List Grant) :
    { (q.modLane l fun x => { x with map := { x.map with grants := x.map.grants ++ g } }) with
      wnd := { q.wnd with noWitness := false } }.sealKept = q.sealKept := by cases l <;> rfl

theorem Dev.insertWitness_sealFrame (d : Dev) (p : Nat) : d.SealFrame (d.insertWitness p) p := by
  have hself : d.SealFrame d p := Dev.sealFrame_of_same p (fun _ => rfl) fun _ => rfl
  have hmark (b : Bool) : d.SealFrame (d.modPort p fun q => { q with wnd := { q.wnd with noWitness := b } }) p :=
    d.sealFrame_modPort p _ fun _ => rfl
  have hadd (l : Lane) (g : List Grant) : d.SealFrame (d.modPort p fun q =>
      { (q.modLane l fun x => { x with map := { x.map with grants := x.map.grants ++ g } }) with
        wnd := { q.wnd with noWitness := false } }) p :=
    d.sealFrame_modPort p _ fun q => q.sealKept_addWitness l g
  unfold Dev.insertWitness
  refine Dev.sealFrame_ite (Dev.sealFrame_ite hself (hmark false)) (Dev.sealFrame_ite (Dev.sealFrame_ite hself ?_)
    (Dev.sealFrame_ite (hadd _ _) ?_))
  · exact (hmark true).trans (Dev.emitPort_sealFrame _ _ _ _ p)
  · exact (hadd _ _).trans (Dev.countPort_sealFrame _ _ _ _ p)

/-- A lane's map is sealed when the lane runs. -/
theorem LaneS.close_sealed (x : LaneS) : x.close.sealed.isSome = x.running := by
  unfold LaneS.close
  dsimp only
  cases x.running <;> rfl

/-- A tree port whose maps were closed: the lanes that run have theirs sealed. -/
structure Port.ClosedFrom (r q : Port) : Prop where
  winder : r.wnd.winder = q.wnd.winder
  sealCyc : r.wnd.sealCyc = q.wnd.sealCyc
  lastMissed : r.wnd.lastMissed = q.wnd.lastMissed
  lanes : ∀ l, (r.lane l).sealed.isSome = (q.lane l).running

theorem Port.closedFrom_close {q q0 : Port} (h : q.sealKept = q0.sealKept) :
    { q with main := q.main.close, comp := q.comp.close }.ClosedFrom q0 := by
  obtain ⟨hwinder, _, hcyc, hmissed, hlane⟩ := Port.sealKept_eq h
  refine ⟨hwinder, hcyc, hmissed, fun l => ?_⟩
  obtain ⟨hst, _⟩ := hlane l
  have hrun : (q.lane l).running = (q0.lane l).running := by rw [LaneS.running, hst, LaneS.running]
  rw [← hrun]
  cases l with
  | main => exact q.main.close_sealed
  | comp => exact q.comp.close_sealed

theorem Dev.finishMaps_frame (d : Dev) (p : Nat) (cut : List (Nat × Nat)) :
    (∀ j, j ≠ p → (d.finishMaps p cut).port j = d.port j) ∧ ((d.finishMaps p cut).port p).ClosedFrom (d.port p) := by
  have he : d.SealFrame ((d.breach p cut).insertWitness p) p :=
    (d.breach_sealFrame p cut).trans ((d.breach p cut).insertWitness_sealFrame p)
  unfold Dev.finishMaps
  refine ⟨fun j hj => ?_, ?_⟩
  · rw [Dev.modPort_get, if_neg hj, he.other j hj]
  · rw [Dev.modPort_get, if_pos rfl]
    exact Port.closedFrom_close he.own

/-! ### The end of a run (R163, R166, R184) -/

theorem Port.applyAlloc_sealKept (q : Port) (ri : Nat) (recd : Option Bytes) : (q.applyAlloc ri recd).sealKept = q.sealKept := by
  have hset (x : WndPort) (k v : Nat) := x.setAw_sealKept ri k v
  unfold Port.applyAlloc
  cases recd with
  | none => exact q.sealKept_setWnd _ ((WndPort.setRpts_sealKept _ _ _ _ _).trans ((hset _ 11 0).trans (hset _ 1 _)))
  | some bs =>
    have hrec := WndPort.foldl_sealKept (fun x k => x.setAw ri k (fld bs (4 * k) 4)) (fun x k => hset x k _) (List.range 8) q.wnd
    dsimp only
    generalize (List.range 8).foldl (fun x k => x.setAw ri k (fld bs (4 * k) 4)) q.wnd = x1 at hrec ⊢
    split
    · have hnew := WndPort.foldl_sealKept (fun x k => x.setAw ri k 0) (fun x k => hset x k 0) [8, 9, 11, 12, 13, 14, 15]
        (x1.setAw ri 10 q.wnd.admitSeq.toNat)
      generalize [8, 9, 11, 12, 13, 14, 15].foldl (fun x k => x.setAw ri k 0) (x1.setAw ri 10 q.wnd.admitSeq.toNat) = x2 at hnew ⊢
      split
      · exact q.sealKept_setWnd _ ((WndPort.setDbit_sealKept _ ri 0 true).trans (hnew.trans ((hset x1 10 _).trans hrec)))
      · exact q.sealKept_setWnd _ (hnew.trans ((hset x1 10 _).trans hrec))
    · split
      · exact q.sealKept_setWnd _ ((WndPort.setRpts_sealKept _ _ _ _ _).trans ((hset x1 11 0).trans hrec))
      · exact q.sealKept_setWnd _ hrec

theorem Dev.applyAllocs_sealFrame (d : Dev) (p : Nat) : d.SealFrame (d.applyAllocs p) p := by
  unfold Dev.applyAllocs
  refine Dev.SealFrame.trans (e := d.modPort p fun q => { q with wnd := { q.wnd with allocPend := [] } })
    (d.sealFrame_modPort p _ fun _ => rfl) ?_
  refine Dev.sealFrame_foldl p _ (fun e b => ?_) _ _
  exact (e.sealFrame_modPort p _ fun q => q.applyAlloc_sealKept _ _).trans
    (Dev.sealFrame_of_same p (fun j => Dev.winder_of_eq _ _ j (Dev.complete_winders ..))
      fun j => Dev.port_of_eq _ _ j (Dev.complete_ports ..))

theorem Dev.profRunEnd_sans (d : Dev) (p : Nat) : (d.profRunEnd p).sansProf = d.sansProf := by
  unfold Dev.profRunEnd
  dsimp only
  split
  · rfl
  · split
    · exact Dev.profStop_sans _ _ _
    · rfl

/-- A run's end: its winder stops, and the port holds how it ended and a checkpoint on its way. -/
theorem Dev.endRun_eq (d : Dev) (p : Nat) (how : RunEnd) :
    let q := d.port p
    let x := d.winder q.wnd.winder
    (∀ j, (d.endRun p how).winder j = if j = q.wnd.winder then { x with running := false, late := how == .running } else d.winder j) ∧
    (∀ j, j ≠ p → (d.endRun p how).port j = d.port j) ∧
    ((d.endRun p how).port p).sealKept =
      { q with wnd := { q.wnd with run := how, ckptPend := some (takeCkpt q x) } }.sealKept := by
  intro q x
  let d1 := (d.setWinder q.wnd.winder { x with running := false, late := how == .running }).profRunEnd p
  have hsans : d1.sansProf = (d.setWinder q.wnd.winder { x with running := false, late := how == .running }).sansProf :=
    Dev.profRunEnd_sans _ p
  have hw (j : Nat) : d1.winder j = if j = q.wnd.winder then { x with running := false, late := how == .running } else d.winder j :=
    (Dev.winder_of_eq _ _ j (congrArg Dev.winders hsans :)).trans (d.setWinder_get _ _ j)
  have hp (j : Nat) : d1.port j = d.port j := Dev.port_of_eq _ _ j (congrArg Dev.ports hsans :)
  unfold Dev.endRun
  refine ⟨fun j => ?_, fun j hj => ?_, ?_⟩
  · rw [(Dev.applyAllocs_sealFrame _ p).winder, Dev.modPort_winder_at]
    exact hw j
  · rw [(Dev.applyAllocs_sealFrame _ p).other j hj, Dev.modPort_get, if_neg hj]
    exact hp j
  · rw [(Dev.applyAllocs_sealFrame _ p).own, Dev.modPort_get, if_pos rfl]
    change Port.sealKept { d1.port p with wnd := _ } = _
    rw [hp]
    rfl

/-! ### SEAL (R163, R237) -/

/-- The maps closed and the run ended: the winder stops, the port holds a sealed map for each lane that runs. -/
theorem Dev.closeAndEnd_frame (d : Dev) (p : Nat) (cut : List (Nat × Nat)) :
    let e := ((d.finishMaps p cut).mirrorMaps p).endRun p .sealedOk
    (∀ j, j ≠ p → e.port j = d.port j) ∧ (e.port p).ClosedFrom (d.port p) ∧ (e.port p).wnd.run = .sealedOk ∧
      (e.winder (d.port p).wnd.winder).running = false := by
  obtain ⟨hother, hclosed⟩ := d.finishMaps_frame p cut
  have hmirror (j : Nat) : ((d.finishMaps p cut).mirrorMaps p).port j = (d.finishMaps p cut).port j := Dev.mirror_port _ _ _ _
  obtain ⟨hstop, hother', hown⟩ := ((d.finishMaps p cut).mirrorMaps p).endRun_eq p .sealedOk
  rw [hmirror] at hstop hown
  obtain ⟨hwinder, hcyc, hmissed, hlanes⟩ := hclosed
  obtain ⟨hwinder', hrun', hcyc', hmissed', hlanes'⟩ := Port.sealKept_eq hown
  refine ⟨fun j hj => (hother' j hj).trans ((hmirror j).trans (hother j hj)), ⟨hwinder'.trans hwinder, hcyc'.trans hcyc,
    hmissed'.trans hmissed, fun l => ?_⟩, hrun', ?_⟩
  · obtain ⟨_, hsealed⟩ := hlanes' l
    rw [hsealed, Port.lane_setWnd]
    exact hlanes l
  · rw [hstop, if_pos hwinder.symm]

/-- A tree port as SEAL begins: WND_SEAL_CYC holds SEALREM, the map counts as not missed, the marks of the run are taken. -/
def Port.onSeal (q : Port) (sealrem : Nat) : Port :=
  { q with wnd := { q.wnd with sealCyc := sealrem, lastMissed := false, marks := [] } }

theorem Dev.sealMaps_eq (d : Dev) (p sealrem : Nat) : d.sealMaps p sealrem =
    (((d.modPort p fun q => q.onSeal sealrem).finishMaps p (d.port p).wnd.marks).mirrorMaps p).endRun p .sealedOk := rfl

/-- SEAL in good time on tree port `p`, which winder `w` serves. -/
theorem Dev.sealMaps_frame (d : Dev) (p w sealrem : Nat) (hw : (d.port p).wnd.winder = w) :
    let e := d.sealMaps p sealrem
    (e.winder w).running = false ∧ (∀ l, ((e.port p).lane l).sealed.isSome = ((d.port p).lane l).running) ∧
      (e.port p).wnd.run = .sealedOk ∧ (e.port p).wnd.sealCyc = sealrem ∧ (e.port p).wnd.lastMissed = false ∧
      ∀ j, j ≠ p → e.port j = d.port j := by
  have hbegin (j : Nat) := d.modPort_get p (fun q => q.onSeal sealrem) j
  obtain ⟨hother, ⟨_, hcyc, hmissed, hlanes⟩, hrun, hstop⟩ :=
    (d.modPort p fun q => q.onSeal sealrem).closeAndEnd_frame p (d.port p).wnd.marks
  rw [hbegin, if_pos rfl] at hcyc hmissed hstop
  rw [Dev.sealMaps_eq]
  refine ⟨hw ▸ hstop, fun l => ?_, hrun, hcyc, hmissed, fun j hj => ?_⟩
  · rw [hlanes l, hbegin, if_pos rfl, Port.onSeal, Port.lane_setWnd]
  · rw [hother j hj, hbegin, if_neg hj]

section
variable (s : State) {w : Fin 80} {inTime : Bool} {c : Nat}
variable (hi : s.dev.Issues w [] noWait c) (hw : s.dev.Spells w (.sealMap w inTime))
include hi hw

/-- SEAL that is honoured. -/
theorem exec_sealMap_honoured :
    let x := s.dev.winder w
    16 ≤ x.rem0 - c ∨ inTime = true → exec (.sealMap w inTime) s =
      .next (s.run (((s.dev.profIssue w c).setWinder w { x with cycle := c }).sealMaps x.port (x.rem0 - c))) := by
  intro x h
  have hrow : exec (.sealMap w inTime) s = execSealMap w inTime s := rfl
  have hgood : (decide (16 ≤ x.rem0 - c) || inTime) = true := by simpa using h
  rw [hrow, execSealMap, Dev.issue_eq hi]
  dsimp only
  rw [if_pos hgood, s.oliol_at hi hw]

/-- SEAL that comes too late: the winder stops. -/
theorem exec_sealMap_late :
    let x := s.dev.winder w
    x.rem0 - c < 16 → inTime = false → exec (.sealMap w inTime) s =
      .next (s.run (((s.dev.profIssue w c).setWinder w { x with cycle := c }).modWinder w fun x => { x with running := false })) := by
  intro x hlate hnot
  have hrow : exec (.sealMap w inTime) s = execSealMap w inTime s := rfl
  have hbad : ¬(decide (16 ≤ x.rem0 - c) || inTime) = true := by simp [hnot, hlate]
  rw [hrow, execSealMap, Dev.issue_eq hi]
  dsimp only
  rw [if_neg hbad, s.oliol_at hi hw]

end

/-- Settles O19: an honoured SEAL closes both lanes and ends the run; a late one stops the winder and touches no port. -/
theorem sealCloses : Obligations.SealCloses := by
  intro s w inTime c _ x hi _ hserved hw
  have hport (j : Nat) : ((s.dev.profIssue w c).setWinder w { x with cycle := c }).port j = s.dev.port j := s.dev.profIssue_port w c j
  refine ⟨fun hgood => ⟨_, exec_sealMap_honoured s hi hw hgood, ?_⟩,
    fun hlate hnot => ⟨_, exec_sealMap_late s hi hw hlate hnot, ?_, fun p => ?_⟩⟩
  · have hseal := ((s.dev.profIssue w c).setWinder w { x with cycle := c }).sealMaps_frame x.port w (x.rem0 - c)
      ((congrArg (·.wnd.winder) (hport x.port)).trans hserved)
    simp only [hport] at hseal
    generalize ((s.dev.profIssue w c).setWinder w { x with cycle := c }).sealMaps x.port (x.rem0 - c) = e at hseal ⊢
    simpa only [State.run_winder, State.run_port] using hseal
  · rw [State.run_winder, Dev.modWinder_get, if_pos rfl]
  · rw [State.run_port, Dev.modWinder_port_at]
    exact hport p

end Sys2Proof.Machine
end

section
/-! SUPPORT. The upstream policer (R257, R258): the record UPS_POLICER_SET writes, and the token bucket that judges a frame. -/
namespace Sys2Proof.Machine
open Sys2Proof

/-! ### The flow records of a tree port -/

theorem Dev.modFlow_port_ne (d : Dev) {p : Nat} (k : Nat) (f : Flow → Flow) {j : Nat} (hj : j ≠ p) : (d.modFlow p k f).port j = d.port j := by
  rw [Dev.modFlow, Dev.modPort_get, if_neg hj]

theorem Dev.modFlow_flow (d : Dev) (p k : Nat) (f : Flow → Flow) (j : Nat) :
    ((d.modFlow p k f).port p).flow j = if j = k then f ((d.port p).flow k) else (d.port p).flow j := by
  rw [Dev.modFlow, Dev.modPort_get, if_pos rfl]
  exact sget_sset _ _ _ _ _

/-! ### The token bucket (R257) -/

section
variable (x : Flow) (now len : Nat)

theorem Flow.tNow_le_cbs : x.tNow now ≤ x.cbs * 1000000 := Nat.min_le_left _ _

/-- Counting the tokens again in the cycle of the count gives the same count. -/
theorem Flow.tNow_counted : { x with t := x.tNow now, tAt := now }.tNow now = x.tNow now := by
  have hle := x.tNow_le_cbs now
  rw [Flow.tNow, Nat.sub_self, Nat.zero_mul, Nat.zero_mul, Nat.add_zero, Nat.min_eq_right hle]

variable {x now len}
variable (hpoliced : x.flags.getLsbD 4 = true)
include hpoliced

theorem Flow.judge_conforming (hlen : len * 1000000 ≤ x.tNow now) :
    x.judge now len = (true, { x with t := x.tNow now - len * 1000000, tAt := now }) := by
  rw [Flow.judge, if_neg (by simp [hpoliced])]
  exact if_pos hlen

theorem Flow.judge_exceeding (hlen : x.tNow now < len * 1000000) :
    x.judge now len = (false, { x with t := x.tNow now, tAt := now }) := by
  rw [Flow.judge, if_neg (by simp [hpoliced])]
  exact if_neg (Nat.not_le.2 hlen)

/-- A bucket of no depth, as that of a policer never set (R258), passes no byte. -/
theorem Flow.judge_of_no_depth (hcbs : x.cbs = 0) (hlen : 0 < len) : (x.judge now len).1 = false := by
  have hle := x.tNow_le_cbs now
  have hexceeds : x.tNow now < len * 1000000 := by rw [hcbs] at hle; omega
  rw [Flow.judge_exceeding hpoliced hexceeds]

end

/-! ### UPS_POLICER_SET (R258) -/

/-- A host command that nothing keeps waiting and whose effect ends in its completion, with no event before it. -/
theorem State.host_completes (s : State) (ho : s.Open) {i : Instr} {c : Tag} {obj : Word} {h : HostCmd} (hn : s.New c) (hf : s.Free i c obj h)
    (g : Dev) {st : Nat} {r : Bytes} (hb : h.body (s.dev.startOn i c obj h.opc .running) = g.complete c st r)
    (hc : g.cmds = (s.dev.startOn i c obj h.opc .running).cmds) (hx : g.outbox = s.dev.outbox) (ht : g.stamp = s.dev.stamp) :
    ∃ t, s.host i c obj h = .next t ∧ s.Completes t c h.opc st r ∧ t.dev = { g with cmds := t.dev.cmds, outbox := [], dma := [] } :=
  ⟨_, s.host_free i c obj h hf, s.after_completes ho i c obj hn h g st r hb hc hx ht⟩

/-- The flow record after UPS_POLICER_SET. -/
def Flow.withPolicer (x : Flow) (cir cbs : Word) (pflags : Byte) (now : Nat) : Flow :=
  { x with
    cir := cir.toNat % 2 ^ 24
    cbs := cbs.toNat % 2 ^ 24
    t := if pflags.getLsbD 0 then cbs.toNat % 2 ^ 24 * 1000000 else 0
    tAt := now }

/-- The command writes the record of its flow and completes. -/
theorem exec_upsPolicerSet (s : State) {c : Tag} {obj cir cbs : Word} {pflags : Byte} (ho : s.Open) (hn : s.New c)
    (hf : s.Free (.upsPolicerSet c obj cir cbs pflags) c obj (cmdUpsPolicerSet c obj cir cbs pflags s.dev)) :
    ∃ t, exec (.upsPolicerSet c obj cir cbs pflags) s = .next t ∧ s.Completes t c 0x0402 0 [] ∧
      t.dev = { s.dev with cmds := t.dev.cmds, lastRing := t.dev.lastRing, ports := t.dev.ports } ∧
      t.dev.ports = (s.dev.modFlow (objFlow obj).1 (objFlow obj).2 fun x => x.withPolicer cir cbs pflags s.dev.now).ports := by
  have hrow : exec (.upsPolicerSet c obj cir cbs pflags) s = execUpsPolicerSet c obj cir cbs pflags s := rfl
  obtain ⟨t, hexec, hdone, hdev⟩ := s.host_completes ho hn hf
    ((s.dev.startOn (.upsPolicerSet c obj cir cbs pflags) c obj 0x0402 .running).modFlow (objFlow obj).1 (objFlow obj).2
      fun x => x.withPolicer cir cbs pflags s.dev.now) (st := stOk) (r := []) rfl rfl rfl rfl
  refine ⟨t, hrow.trans hexec, hdone, ?_, (congrArg Dev.ports hdev :)⟩
  rw [← ho.settled.outbox, ← ho.settled.dma] at hdev
  rw [hdev]
  rfl

/-- Settles O50: the command writes one flow record; the verdict is whether the tokens of that moment reach the frame's length. -/
theorem upstreamPolicer : Obligations.UpstreamPolicer := by
  refine ⟨fun s c obj cir cbs pflags ho hn hf => ?_, fun x now len hpoliced => ⟨Flow.judge_conforming hpoliced, fun hlen => ?_,
    x.tNow_le_cbs now, Flow.judge_of_no_depth hpoliced⟩, fun _ _ => rfl⟩
  · obtain ⟨t, hexec, hdone, hframe, hports⟩ := exec_upsPolicerSet s ho hn hf
    have hport (j : Nat) := Dev.port_of_eq _ _ j hports
    refine ⟨t, hexec, hdone, hframe, fun j hj => ?_, fun j hj => ?_, ?_⟩
    · rw [hport, Dev.modFlow_port_ne _ _ _ hj]
    · rw [hport, Dev.modFlow_flow, if_neg hj]
    · rw [hport, Dev.modFlow_flow, if_pos rfl, Flow.withPolicer]
  · rw [Flow.judge_exceeding hpoliced hlen]
    exact ⟨rfl, x.tNow_counted now⟩

end Sys2Proof.Machine
end

section
/-! SUPPORT. The rule sets and default actions of the classifier (R278, R282, R283): what CLS_RULES_SWAP and CLS_DEFAULT_SET write, and when
a generation retires. -/
namespace Sys2Proof.Machine
open Sys2Proof

/-! ### The rule sets (R273, R282) -/

theorem Dev.ruleSet_of_eq (d e : Dev) (x : Nat) (h : d.cls = e.cls) : d.ruleSet x = e.ruleSet x := by rw [Dev.ruleSet, Dev.ruleSet, h]

@[simp] theorem State.run_ruleSet (s : State) (d : Dev) (x : Nat) : (s.run d).dev.ruleSet x = d.ruleSet x :=
  Dev.ruleSet_of_eq _ _ x (s.run_cls d)

/-- A change of a rule set is one of the classifier. -/
theorem Dev.modSet_frame (d : Dev) (x : Nat) (f : RuleSet → RuleSet) : d.modSet x f = { d with cls := (d.modSet x f).cls } := by
  unfold Dev.modSet
  split <;> rfl

theorem Dev.modSet_get (d : Dev) (n k : Fin 2) (f : RuleSet → RuleSet) :
    (d.modSet n f).ruleSet k = if k = n then f (d.ruleSet n) else d.ruleSet k :=
  match n, k with
  | 0, 0 => rfl
  | 0, 1 => rfl
  | 1, 0 => rfl
  | 1, 1 => rfl

/-! ### CLS_RULES_SWAP (R282) -/

/-- A rule set whose swap is under way for command `c`. -/
def RuleSet.swapping (x : RuleSet) (c : Tag) : RuleSet := { x with gen := (x.gen + 1) % 16, old := x.gen, swap := some c }

theorem clsNum_of_index {obj : Word} {n : Fin 2} (h : objIndex obj = n.val) : clsNum obj = n.val := by
  rw [clsNum, h]
  omega

/-- The command begins the swap and asks nothing of the banksman yet. -/
theorem State.after_rulesSwap (s : State) {c : Tag} {obj : Word} {n : Fin 2} (hs : s.Settled) (hobj : objIndex obj = n.val) :
    s.after (.clsRulesSwap c obj) c obj (cmdClsRulesSwap c obj s.dev) =
      { s with dev := (s.dev.startOn (.clsRulesSwap c obj) c obj 0x0502 .running).modSet n fun x => x.swapping c } := by
  have hbody : s.after (.clsRulesSwap c obj) c obj (cmdClsRulesSwap c obj s.dev) =
      s.run ((s.dev.startOn (.clsRulesSwap c obj) c obj 0x0502 .running).modSet (clsNum obj) fun x => x.swapping c) := rfl
  rw [hbody, clsNum_of_index hobj]
  refine s.run_silent hs _ ?_ ?_ <;> rw [Dev.modSet_frame] <;> rfl

/-! ### GENERATION_RETIRE (R283) -/

/-- A frame that recirculates carries the old generation of a rule set. -/
def Dev.carriesOld (d : Dev) (x : Nat) : Bool := d.cls.recQ.any fun r => r.fr.dir == x && r.gen == (d.ruleSet x).old

theorem Dev.retireGen_of_no_swap {d : Dev} {x : Nat} (h : (d.ruleSet x).swap = none) : d.retireGen x = d := by
  simp only [Dev.retireGen, h]

theorem Dev.retireGen_of_swap {d : Dev} {x : Nat} {w : Tag} (h : (d.ruleSet x).swap = some w) :
    d.retireGen x = if d.carriesOld x = true then d
      else (d.modSet x fun y => { y with swap := none }).complete w stOk (le 1 (d.ruleSet x).gen ++ le 1 (d.ruleSet x).old) := by
  simp only [Dev.retireGen, h]
  rfl

theorem exec_generationRetire (s : State) (n : Fin 2) (hr : s.dev.board.resetN = false) :
    exec (.generationRetire n) s = .next (s.run (s.dev.retireGen n)) := s.event_on (fun d => d.retireGen n) hr

/-- While there is nothing to retire the event changes nothing. -/
theorem exec_generationRetire_idle (s : State) (n : Fin 2) (hs : s.Settled) (hr : s.dev.board.resetN = false)
    (h : s.dev.retireGen n = s.dev) : exec (.generationRetire n) s = .next s := by
  rw [exec_generationRetire s n hr, h, s.run_self hs]

/-- An accepted command completes, with no event before it. -/
theorem State.run_complete_completes (s : State) (ho : s.Open) {w : Tag} {a : Active} (g : Dev) (st : Nat) (r : Bytes)
    (ha : (g.cmds.find? fun a => a.tag == w) = some a) (hx : g.outbox = s.dev.outbox) (ht : g.stamp = s.dev.stamp) :
    s.Completes (s.run (g.complete w st r)) w a.opc st r := by
  refine s.run_completes ho _ w a.opc st r [] ?_ (by simp)
  simp only [Dev.complete, ha, hx, ht, ho.settled.outbox, List.nil_append]

/-- The end of a swap. -/
theorem State.run_swap_done (s : State) (ho : s.Open) (n : Fin 2) {w : Tag} {a : Active} (r : Bytes)
    (ha : (s.dev.cmds.find? fun a => a.tag == w) = some a) :
    let t := s.run ((s.dev.modSet n fun y => { y with swap := none }).complete w stOk r)
    t.dev.ruleSet n = { s.dev.ruleSet n with swap := none } ∧ s.Completes t w a.opc 0 r := by
  refine ⟨?_, ?_⟩
  · rw [State.run_ruleSet, Dev.ruleSet_of_eq _ _ n (Dev.complete_cls _ w stOk r), Dev.modSet_get, if_pos rfl]
  · apply s.run_complete_completes ho
    · rw [Dev.modSet_frame]; exact ha
    · rw [Dev.modSet_frame]
    · rw [Dev.modSet_frame]; rfl

/-! ### CLS_DEFAULT_SET (R278) -/

theorem padTo_length_self (b : Bytes) : padTo b.length b = b := by
  simp [padTo, bslice]

/-- The classifier with the default action of one port written: a tree port's for class 1, else an uplink port's. -/
def Cls.withDefault (x : Cls) (obj : Word) (action : Bytes) : Cls :=
  if objClass obj = 1 then { x with upDflt := sset (fun _ => []) x.upDflt (objIndex obj) action }
  else { x with dnDflt := sset (fun _ => []) x.dnDflt (objIndex obj) action }

theorem Cls.withDefault_frame (x : Cls) (obj : Word) (action : Bytes) : x.withDefault obj action =
    { x with upDflt := (x.withDefault obj action).upDflt, dnDflt := (x.withDefault obj action).dnDflt } := by
  unfold Cls.withDefault
  split <;> rfl

theorem Cls.withDefault_up (x : Cls) (obj : Word) (action : Bytes) (k : Nat) :
    sget (fun _ => []) (x.withDefault obj action).upDflt k =
      if objClass obj = 1 ∧ k = objIndex obj then action else sget (fun _ => []) x.upDflt k := by
  unfold Cls.withDefault
  split
  next h => simp only [sget_sset, h, true_and]
  next h => simp only [h, false_and, if_false]

theorem Cls.withDefault_dn (x : Cls) (obj : Word) (action : Bytes) (k : Nat) :
    sget (fun _ => []) (x.withDefault obj action).dnDflt k =
      if objClass obj ≠ 1 ∧ k = objIndex obj then action else sget (fun _ => []) x.dnDflt k := by
  unfold Cls.withDefault
  split
  next h => simp only [h, ne_eq, not_true, false_and, if_false]
  next h => simp only [sget_sset, ne_eq, h, not_false_eq_true, true_and]

theorem cmdClsDefaultSet_body (c : Tag) (obj : Word) (action : Bytes) (d e : Dev) (hlen : action.length = 16) :
    (cmdClsDefaultSet c obj action d).body e = { e with cls := e.cls.withDefault obj action }.complete c stOk := by
  have hpad : padTo 16 action = action := hlen ▸ padTo_length_self action
  simp only [cmdClsDefaultSet, hpad, Cls.withDefault]
  split <;> rfl

theorem cmdClsDefaultSet_good {c : Tag} {obj : Word} {action : Bytes} {d : Dev} (h : (cmdClsDefaultSet c obj action d).good = true) :
    action.length = 16 := by
  simp only [cmdClsDefaultSet, Bool.and_eq_true, decide_eq_true_iff] at h
  exact h.2

/-- The command writes one default action and completes. -/
theorem exec_clsDefaultSet (s : State) {c : Tag} {obj : Word} {action : Bytes} (ho : s.Open) (hn : s.New c)
    (hf : s.Free (.clsDefaultSet c obj action) c obj (cmdClsDefaultSet c obj action s.dev)) :
    ∃ t, exec (.clsDefaultSet c obj action) s = .next t ∧ s.Completes t c 0x0503 0 [] ∧
      t.dev = { s.dev with cmds := t.dev.cmds, lastRing := t.dev.lastRing, cls := s.dev.cls.withDefault obj action } := by
  have hrow : exec (.clsDefaultSet c obj action) s = execClsDefaultSet c obj action s := rfl
  obtain ⟨t, hexec, hdone, hdev⟩ := s.host_completes ho hn hf
    { s.dev.startOn (.clsDefaultSet c obj action) c obj 0x0503 .running with cls := s.dev.cls.withDefault obj action }
    (st := stOk) (r := []) (cmdClsDefaultSet_body c obj action _ _ (cmdClsDefaultSet_good hf.good)) rfl rfl rfl
  refine ⟨t, hrow.trans hexec, hdone, ?_⟩
  rw [← ho.settled.outbox, ← ho.settled.dma] at hdev
  rw [hdev]
  rfl

/-- Settles O51: the swap is begun by the command and ended, with its completion, by the first retirement that no recirculating frame hinders;
a default action is one entry of the table its object's class names. -/
theorem classifierSwapAndDefaults : Obligations.ClassifierSwapAndDefaults := by
  refine fun s c obj action n ho hn => ⟨fun hf hobj => ?_, fun hr hnone => ?_, fun hr w a hswap ha => ?_, fun hf => ?_⟩
  · have hrow : exec (.clsRulesSwap c obj) s = execClsRulesSwap c obj s := rfl
    refine ⟨_, hrow.trans ((s.host_free _ c obj _ hf).trans (congrArg _ (s.after_rulesSwap ho.settled hobj))), rfl, ?_, fun k hk => ?_⟩
    · exact (Dev.modSet_get _ n n _).trans (if_pos rfl)
    · exact (Dev.modSet_get _ n k _).trans (if_neg hk)
  · exact exec_generationRetire_idle s n ho.settled hr (Dev.retireGen_of_no_swap hnone)
  · have hretire := Dev.retireGen_of_swap hswap
    split
    next hold => exact exec_generationRetire_idle s n ho.settled hr (hretire.trans (if_pos hold))
    next hold =>
      rw [exec_generationRetire s n hr, hretire.trans (if_neg hold)]
      exact ⟨_, rfl, s.run_swap_done ho n _ ha⟩
  · obtain ⟨t, hexec, hdone, hdev⟩ := exec_clsDefaultSet s ho hn hf
    have hcls : t.dev.cls = s.dev.cls.withDefault obj action := (congrArg Dev.cls hdev :)
    refine ⟨t, hexec, hdone, ?_, fun k => ?_, fun k => ?_⟩
    · rw [hcls, ← Cls.withDefault_frame]
      exact hdev
    · rw [hcls, Cls.withDefault_up]
    · rw [hcls, Cls.withDefault_dn]

end Sys2Proof.Machine
end

section
/-! SUPPORT. Hold-downs of the learning domains and partitions of the packet buffer (R307, R322, R323): what TBL_HOLDDOWN_SET and
DTM_PARTITION_SET write, and when the shared pool raises its event. -/
namespace Sys2Proof.Machine
open Sys2Proof

/-! ### TBL_HOLDDOWN_SET (R307) -/

theorem ceilDiv_twentyFive (n : Nat) : ceilDiv n 25 = (n + 24) / 25 := rfl

/-- The tables with the hold-down of domain `b` written in whole ticks; a HOLD outside its range leaves its mark. -/
def Tbl.withHold (x : Tbl) (b hold : Nat) : Tbl :=
  { x with
    hold := sset (fun _ => 40) x.hold b (ceilDiv hold 25)
    oddHold := if 100 ≤ hold ∧ hold ≤ 1000000 then x.oddHold.filter fun k => k != b else b :: x.oddHold.filter fun k => k != b }

theorem Tbl.withHold_hold (x : Tbl) (b hold k : Nat) : sget (fun _ => 40) (x.withHold b hold).hold k =
    if k = b then (hold + 24) / 25 else sget (fun _ => 40) x.hold k := by
  rw [Tbl.withHold, sget_sset, ceilDiv_twentyFive]

/-- The command writes the hold-down of its domain and completes. -/
theorem exec_tblHolddownSet (s : State) {c : Tag} {obj hold : Word} (ho : s.Open) (hn : s.New c)
    (hf : s.Free (.tblHolddownSet c obj hold) c obj (cmdTblHolddownSet c obj hold s.dev)) :
    ∃ t, exec (.tblHolddownSet c obj hold) s = .next t ∧ s.Completes t c 0x0605 0 [] ∧
      t.dev = { s.dev with cmds := t.dev.cmds, lastRing := t.dev.lastRing, tbl := s.dev.tbl.withHold (tblNum obj) hold.toNat } := by
  have hrow : exec (.tblHolddownSet c obj hold) s = execTblHolddownSet c obj hold s := rfl
  obtain ⟨t, hexec, hdone, hdev⟩ := s.host_completes ho hn hf
    { s.dev.startOn (.tblHolddownSet c obj hold) c obj 0x0605 .running with tbl := s.dev.tbl.withHold (tblNum obj) hold.toNat }
    (st := stOk) (r := []) rfl rfl rfl rfl
  refine ⟨t, hrow.trans hexec, hdone, ?_⟩
  rw [← ho.settled.outbox, ← ho.settled.dma] at hdev
  rw [hdev]
  rfl

/-! ### The partitions and the shared pool (R321, R322) -/

theorem Dtm.modPart_part (x : Dtm) {n k : Nat} (hn : n < 3) (hk : k < 3) (f : Part → Part) :
    (x.modPart n f).part k = if k = n then f (x.part k) else x.part k :=
  match n, k, hn, hk with
  | 0, 0, _, _ | 0, 1, _, _ | 0, 2, _, _ => rfl
  | 1, 0, _, _ | 1, 1, _, _ | 1, 2, _, _ => rfl
  | 2, 0, _, _ | 2, 1, _, _ | 2, 2, _, _ => rfl

theorem Dtm.modPart_frame (x : Dtm) (k : Nat) (f : Part → Part) : x.modPart k f =
    { x with part0 := (x.modPart k f).part0, part1 := (x.modPart k f).part1, part2 := (x.modPart k f).part2 } := by
  unfold Dtm.modPart
  split
  · rfl
  · split <;> rfl

theorem Dtm.modPart_flows (x : Dtm) (k : Nat) (f : Part → Part) : (x.modPart k f).flows = x.flows :=
  (congrArg Dtm.flows (x.modPart_frame k f) :)

theorem Dtm.modPart_poolHigh (x : Dtm) (k : Nat) (f : Part → Part) : (x.modPart k f).poolHigh = x.poolHigh :=
  (congrArg Dtm.poolHigh (x.modPart_frame k f) :)

/-- The shared pool is empty for the first time since it last had 32,768 free cells. -/
def Dtm.Emptied (x : Dtm) : Prop := x.shared = 0 ∧ x.poolHigh = true

/-- The device with the note whether the pool has had 32,768 free cells since it was last empty. -/
def Dev.noteHigh (d : Dev) (high : Bool) : Dev := { d with dtm := { d.dtm with poolHigh := high } }

theorem Dev.notePool_emptied (d : Dev) (k : Nat) (h : d.dtm.Emptied) : d.notePool k =
    (d.noteHigh false).emit 0x8704 (srcOf 0 3) (le 4 k ++ le 4 (d.ctr (ctrIdx 0x40098)).val.toNat) :=
  if_pos (by simp only [h.1, h.2, decide_true, Bool.and_self])

/-- Where the pool is not emptied, at most the note of its 32,768 cells is made. -/
theorem Dev.notePool_silent (d : Dev) (k : Nat) (h : ¬d.dtm.Emptied) : ∃ high, d.notePool k = d.noteHigh high := by
  rw [Dev.notePool, if_neg (by simpa only [Dtm.Emptied, Bool.and_eq_true, decide_eq_true_iff] using h)]
  split
  · exact ⟨true, rfl⟩
  · exact ⟨d.dtm.poolHigh, rfl⟩

theorem Dev.notePool_dtm (d : Dev) (k : Nat) : ∃ high, (d.notePool k).dtm = (d.noteHigh high).dtm := by
  by_cases h : d.dtm.Emptied
  · exact ⟨false, by rw [d.notePool_emptied k h]; rfl⟩
  · obtain ⟨high, hnote⟩ := d.notePool_silent k h
    exact ⟨high, by rw [hnote]⟩

theorem Dev.setPart_part (d : Dev) {n k : Nat} (hn : n < 3) (hk : k < 3) (f : Part → Part) :
    (d.setPart n f).dtm.part k = if k = n then f (d.dtm.part k) else d.dtm.part k := by
  obtain ⟨high, hdtm⟩ := { d with dtm := d.dtm.modPart n f }.notePool_dtm n
  rw [Dev.setPart, hdtm]
  exact d.dtm.modPart_part hn hk f

theorem Dev.setPart_flows (d : Dev) (n : Nat) (f : Part → Part) : (d.setPart n f).dtm.flows = d.dtm.flows := by
  obtain ⟨high, hdtm⟩ := { d with dtm := d.dtm.modPart n f }.notePool_dtm n
  rw [Dev.setPart, hdtm]
  exact d.dtm.modPart_flows n f

/-! ### DTM_PARTITION_SET (R323) -/

/-- A host command that raises one event and then completes: the event comes first. -/
theorem State.after_raises (s : State) (ho : s.Open) (i : Instr) (c : Tag) (obj : Word) (hn : s.New c) (h : HostCmd) (g : Dev)
    (typ src : Nat) (pl : Bytes) (st : Nat) (r : Bytes)
    (hb : h.body (s.dev.startOn i c obj h.opc .running) = (g.emit typ src pl).complete c st r)
    (hc : g.cmds = (s.dev.startOn i c obj h.opc .running).cmds) (hx : g.outbox = s.dev.outbox) (ht : g.stamp = s.dev.stamp) :
    s.Raises (s.after i c obj h) typ src pl := by
  have hdone := Dev.complete_new (g.emit typ src pl) s.dev.cmds ⟨c, obj, h.opc, i, .running, 0⟩ hc hn st r
  have hout : (g.emit typ src pl).outbox = [.event typ src (padTo 16 pl) s.dev.stamp] := by
    rw [Dev.emit, hx, ht, ho.settled.outbox, List.nil_append]
  rw [State.after, hb, hdone]
  refine s.run_raises ho _ typ src pl _ (congrArg (· ++ _) hout) fun op hop => ?_
  rw [List.mem_singleton.1 hop]
  trivial

/-- The partition with the reserve and maximum of DTM_PARTITION_SET. -/
def Part.withLimits (x : Part) (res max : Word) : Part := { x with res := res.toNat, max := max.toNat }

section
variable {s : State} {c : Tag} {obj res max : Word} {part : Byte} (ho : s.Open) (hn : s.New c)

/-- The state after DTM_PARTITION_SET. -/
abbrev State.afterPartitionSet (s : State) (c : Tag) (obj : Word) (part : Byte) (res max : Word) : State :=
  s.after (.dtmPartitionSet c obj part res max) c obj (cmdDtmPartitionSet c obj part res max s.dev)

/-- The device as the command finds it, with its partition written and the pool not yet looked at. -/
abbrev State.partitionWritten (s : State) (c : Tag) (obj : Word) (part : Byte) (res max : Word) : Dev :=
  { s.dev.startOn (.dtmPartitionSet c obj part res max) c obj 0x0704 .running with
    dtm := s.dev.dtm.modPart part.toNat fun q => q.withLimits res max }

theorem cmdDtmPartitionSet_part (h : (cmdDtmPartitionSet c obj part res max s.dev).good = true) : part.toNat < 3 := by
  simp only [cmdDtmPartitionSet, Bool.and_eq_true, decide_eq_true_iff] at h
  exact h.2.1

theorem State.afterPartitionSet_dtm : (s.afterPartitionSet c obj part res max).dev.dtm =
    ((s.dev.startOn (.dtmPartitionSet c obj part res max) c obj 0x0704 .running).setPart part.toNat fun q => q.withLimits res max).dtm :=
  (s.run_dtm _).trans (Dev.complete_dtm _ c stOk [])

include ho hn

theorem State.partitionSet_raises (h : (s.partitionWritten c obj part res max).dtm.Emptied) :
    s.Raises (s.afterPartitionSet c obj part res max) 0x8704 (srcOf 0 3)
      (le 4 part.toNat ++ le 4 (s.dev.ctr (ctrIdx 0x40098)).val.toNat) :=
  s.after_raises ho _ c obj hn _ ((s.partitionWritten c obj part res max).noteHigh false) _ _ _ stOk []
    (congrArg (Dev.complete · c stOk) ((s.partitionWritten c obj part res max).notePool_emptied part.toNat h)) rfl rfl rfl

theorem State.partitionSet_completes (h : ¬(s.partitionWritten c obj part res max).dtm.Emptied) :
    s.Completes (s.afterPartitionSet c obj part res max) c 0x0704 0 [] := by
  obtain ⟨high, hnote⟩ := (s.partitionWritten c obj part res max).notePool_silent part.toNat h
  exact (s.after_completes ho _ c obj hn _
    ((s.partitionWritten c obj part res max).noteHigh high) stOk [] (congrArg (Dev.complete · c stOk) hnote) rfl rfl rfl).1

end

/-- Settles O52: either command is one write of its table followed by its completion; for a partition the pool is looked at between the two,
and an emptied pool puts its event before the completion. -/
theorem holdDownAndPartitions : Obligations.HoldDownAndPartitions := by
  refine fun s c obj hold res max part ho hn => ⟨fun hf => ?_, fun _ => rfl, ?_⟩
  · obtain ⟨t, hexec, hdone, hdev⟩ := exec_tblHolddownSet s ho hn hf
    have htbl : t.dev.tbl = s.dev.tbl.withHold (tblNum obj) hold.toNat := (congrArg Dev.tbl hdev :)
    refine ⟨t, hexec, hdone, ?_, fun k => ?_⟩
    · rw [htbl]
      exact hdev
    · rw [htbl, Tbl.withHold_hold]
      rfl
  · intro hf new emptied
    have hrow : exec (.dtmPartitionSet c obj part res max) s = execDtmPartitionSet c obj part res max s := rfl
    have hpool : emptied ↔ new.Emptied := by rw [Dtm.Emptied, Dtm.modPart_poolHigh]
    have hpart := cmdDtmPartitionSet_part hf.good
    refine ⟨_, hrow.trans (s.host_free _ c obj _ hf), fun h => ?_, fun h => ?_, fun k hk => ?_, ?_⟩
    · exact State.partitionSet_completes ho hn (mt hpool.2 h)
    · exact State.partitionSet_raises ho hn (hpool.1 h)
    · rw [State.afterPartitionSet_dtm, Dev.setPart_part _ hpart hk]
      rfl
    · rw [State.afterPartitionSet_dtm, Dev.setPart_flows]
      rfl

end Sys2Proof.Machine
end

section
/-! SUPPORT. The paths to the mate (R385, R392): what PATH_LOSS and MATE_ISOLATED write of the protection unit, and the one event of each. -/
namespace Sys2Proof.Machine
open Sys2Proof

/-! ### Events of the protection unit -/

theorem Variant.hasProt_iff (v : Variant) : v.hasProt = true ↔ v ≠ .skx6450n := bne_iff_ne

theorem State.protEvent_on (s : State) (f : Dev → Dev) (hr : s.dev.board.resetN = false) (hv : s.dev.variant ≠ .skx6450n) :
    s.protEvent f = .next (s.run (f s.dev)) := by
  rw [s.protEvent_eq, if_pos ⟨hr, (Variant.hasProt_iff _).2 hv⟩]

/-- An event of the protection unit that changes nothing of the device leaves a settled state as it is. -/
theorem State.protEvent_unchanged (s : State) (hs : s.Settled) (f : Dev → Dev) (hr : s.dev.board.resetN = false)
    (hv : s.dev.variant ≠ .skx6450n) (hf : f s.dev = s.dev) : s.protEvent f = .next s := by
  rw [s.protEvent_on f hr hv, hf, s.run_self hs]

/-- A change of the protection unit that raises one event: the event, and the device. -/
theorem State.run_prot_emit (s : State) (ho : s.Open) (f : Prot → Prot) (typ src : Nat) (pl : Bytes) :
    (s.run ((s.dev.modProt f).emit typ src pl)).dev =
        { s.dev with cmds := (s.run ((s.dev.modProt f).emit typ src pl)).dev.cmds, prot := f s.dev.prot } ∧
      s.Raises (s.run ((s.dev.modProt f).emit typ src pl)) typ src pl := by
  have hout : ((s.dev.modProt f).emit typ src pl).outbox = [.event typ src (padTo 16 pl) s.dev.stamp] :=
    congrArg (· ++ [BankOp.event typ src (padTo 16 pl) s.dev.stamp]) ho.settled.outbox
  refine ⟨?_, s.run_raises ho _ typ src pl [] hout fun _ h => nomatch h⟩
  have hdev := s.run_dev ((s.dev.modProt f).emit typ src pl)
  rw [← ho.settled.outbox, ← ho.settled.dma] at hdev
  exact hdev

/-! ### PATH_LOSS (R385) -/

/-- The protection unit with a path lost. -/
def Prot.withLost (x : Prot) : Path → Prot
  | .dmp => { x with dmp := { x.dmp with lost := true, good := 0 } }
  | .hb => { x with hb := { x.hb with lost := true, good := 0 } }

theorem Dev.pathLoss_of_lost (d : Dev) (path : Path) (valid : Bool) (h : (d.pathOf path).lost = true) : d.pathLoss path valid = d :=
  match path with
  | .dmp => if_pos h
  | .hb => if_pos h

theorem Dev.pathLoss_of_up (d : Dev) (path : Path) (valid : Bool) (h : (d.pathOf path).lost = false) : d.pathLoss path valid =
    (d.modProt fun z => z.withLost path).emit 0x8901 (srcOf 0xD 0) (le 1 path.code ++ le 1 (if valid then 2 else 1)) :=
  match path with
  | .dmp => if_neg (ne_true_of_eq_false h)
  | .hb => if_neg (ne_true_of_eq_false h)

section
variable (s : State) (path : Path) (valid : Bool) (ho : s.Open) (hr : s.dev.board.resetN = false) (hv : s.dev.variant ≠ .skx6450n)

theorem exec_pathLoss : exec (.pathLoss path valid) s = s.protEvent fun d => d.pathLoss path valid := rfl

include ho hr hv

theorem exec_pathLoss_of_lost (h : (s.dev.pathOf path).lost = true) : exec (.pathLoss path valid) s = .next s :=
  (exec_pathLoss s path valid).trans (s.protEvent_unchanged ho.settled _ hr hv (s.dev.pathLoss_of_lost path valid h))

theorem exec_pathLoss_of_up (h : (s.dev.pathOf path).lost = false) : ∃ t, exec (.pathLoss path valid) s = .next t ∧
    t.dev = { s.dev with cmds := t.dev.cmds, prot := s.dev.prot.withLost path } ∧
    s.Raises t 0x8901 (srcOf 0xD 0) (le 1 path.code ++ le 1 (if valid then 2 else 1)) :=
  ⟨_, by rw [exec_pathLoss, s.protEvent_on _ hr hv, s.dev.pathLoss_of_up path valid h], s.run_prot_emit ho _ _ _ _⟩

end

/-! ### MATE_ISOLATED (R392) -/

/-- The trees kept standby because bursts were heard, as the payload of MAT_MATE_ISOLATED names them. -/
def Dev.heardTrees (d : Dev) : Bytes := le 8 (d.treeMask fun p => d.deputy p && (d.tree p).heardAt.any fun t => decide (d.now < t + 12000))

theorem Dev.mateIsolated_of_isolated (d : Dev) (h : d.prot.isolated = true) : d.mateIsolated = d :=
  if_pos (by rw [h, Bool.or_true])

theorem Dev.mateIsolated_of_lost (d : Dev) (hj : d.prot.joined = true) (hd : d.prot.dmp.lost = true) (hh : d.prot.hb.lost = true)
    (hi : d.prot.isolated = false) :
    d.mateIsolated = (d.modProt fun z => { z with isolated := true }).emit 0x8903 (srcOf 0xD 0) d.heardTrees :=
  if_neg (by simp [Prot.bothLost, hj, hd, hh, hi])

theorem exec_mateIsolated (s : State) : exec .mateIsolated s = s.protEvent fun d => d.mateIsolated := rfl

/-- Settles O53: a path that is up is marked lost and one event raised, a path already lost leaves all as it is; the mark `isolated`, set with
the one MAT_MATE_ISOLATED, keeps the event from being raised again. -/
theorem pathLossAndIsolation : Obligations.PathLossAndIsolation := by
  refine fun s valid ho hr hv => ⟨?_, ?_, ?_, ?_, fun hi => ?_, fun hj hd hh hi => ?_⟩
  · exact exec_pathLoss_of_lost s .hb valid ho hr hv
  · exact exec_pathLoss_of_up s .hb valid ho hr hv
  · exact exec_pathLoss_of_lost s .dmp valid ho hr hv
  · exact exec_pathLoss_of_up s .dmp valid ho hr hv
  · exact (exec_mateIsolated s).trans (s.protEvent_unchanged ho.settled _ hr hv (s.dev.mateIsolated_of_isolated hi))
  · obtain ⟨hdev, hraised⟩ := s.run_prot_emit ho (fun z => { z with isolated := true }) 0x8903 (srcOf 0xD 0) s.dev.heardTrees
    refine ⟨_, ?_, hdev, s.dev.heardTrees, rfl, hraised⟩
    rw [exec_mateIsolated, s.protEvent_on _ hr hv, s.dev.mateIsolated_of_lost hj hd hh hi]

end Sys2Proof.Machine
end

section
/-! SUPPORT. The idle step (R69, R399, R404): which request put off comes first, and what one time-base cycle does to device time. -/
namespace Sys2Proof.Machine
open Sys2Proof

/-! ### Requests put off -/

theorem dropFirst_eq_eraseP {α : Type} (p : α → Bool) : ∀ l : List α, dropFirst p l = l.eraseP p
  | [] => rfl
  | x :: xs => by rw [dropFirst, List.eraseP_cons, dropFirst_eq_eraseP p xs, Bool.cond_eq_ite]

theorem dropFirst_append_cons {α : Type} (p : α → Bool) (l m : List α) (a : α) (hl : ∀ b ∈ l, ¬p b = true) (ha : p a = true) :
    dropFirst p (l ++ a :: m) = l ++ m := by
  rw [dropFirst_eq_eraseP, List.eraseP_append_right _ hl, List.eraseP_cons_of_pos ha]

/-- The oldest request that need not wait on comes now; those before it differ from it, since they wait on. -/
theorem State.idle_late (s : State) {early rest : List Instr} {i : Instr} (hlate : s.dev.late = early ++ i :: rest)
    (hearly : ∀ j ∈ early, s.dev.blocked j = true) (hi : s.dev.blocked i = false) :
    s.idle = exec i { s with dev := { s.dev with late := early ++ rest } } := by
  have hfind : s.dev.late.find? (fun j => !s.dev.blocked j) = some i := by
    rw [hlate, List.find?_append, List.find?_eq_none.2 (by simpa using hearly), Option.none_or,
      List.find?_cons_of_pos (by rw [hi, Bool.not_false])]
  have hdrop : dropFirst (fun j => j == i) s.dev.late = early ++ rest := by
    rw [hlate]
    refine dropFirst_append_cons _ _ _ _ (fun j hj hji => ?_) (beq_self_eq_true i)
    rw [beq_iff_eq.1 hji] at hj
    exact ne_true_of_eq_false hi (hearly i hj)
  rw [State.idle, hfind, ← hdrop]

/-- With nothing put off that may come, one time-base cycle passes. -/
theorem State.idle_cycle (s : State) (h : ∀ j ∈ s.dev.late, s.dev.blocked j = true) : s.idle = .next { s with dev := s.dev.cycle } := by
  rw [State.idle, List.find?_eq_none.2 (by simpa using h)]

theorem step_of_no_pending (s : State) (h : s.pending = []) : step s = s.idle := by rw [step, h]

/-! ### Device time (R404) -/

/-- Device time as one count of 2^-32 ns. -/
def TimeUnit.fine (x : TimeUnit) : Nat := (x.sec * 1000000000 + x.ns) * 2 ^ 32 + x.frac

theorem Dev.devFine_eq (d : Dev) : d.devFine = d.time.fine := rfl

/-- A count that is set is read back, up to the 2^48 s at which device time wraps. -/
theorem TimeUnit.fine_setFine (x : TimeUnit) (n : Nat) : (x.setFine n).fine = n % (2 ^ 48 * 1000000000 * 2 ^ 32) := by
  simp only [TimeUnit.fine, TimeUnit.setFine]
  omega

theorem TimeUnit.setFine_ns_lt (x : TimeUnit) (n : Nat) : (x.setFine n).ns < 1000000000 := Nat.mod_lt _ (by decide)

theorem TimeUnit.setFine_frac_lt (x : TimeUnit) (n : Nat) : (x.setFine n).frac < 2 ^ 32 := Nat.mod_lt _ (by decide)

/-- The count of device time one time-base cycle on: 1 ns and FREQ. -/
def Dev.nextFine (d : Dev) : Nat := Int.toNat ((d.devFine : Int) + 2 ^ 32 + d.time.freq)

theorem Dev.nextFine_cast (d : Dev) (h : -4194304 ≤ d.time.freq) : (d.nextFine : Int) = (d.devFine : Int) + 2 ^ 32 + d.time.freq :=
  Int.toNat_of_nonneg (by omega)

theorem Dev.cycle_frame (d : Dev) : d.cycle = { d with now := d.now + 1, time := d.cycle.time } := by
  unfold Dev.cycle
  split <;> rfl

theorem Dev.cycle_time_held (d : Dev) (h : d.board.resetN = true) : d.cycle.time = d.time := by
  rw [Dev.cycle, if_pos h]

theorem Dev.cycle_time (d : Dev) (h : d.board.resetN = false) : d.cycle.time = d.time.setFine d.nextFine := by
  rw [Dev.cycle, if_neg (ne_true_of_eq_false h)]
  rfl

theorem Dev.cycle_devFine (d : Dev) (hr : d.board.resetN = false) (hf : -4194304 ≤ d.time.freq) :
    (d.cycle.devFine : Int) = ((d.devFine : Int) + 2 ^ 32 + d.time.freq) % (2 ^ 48 * 1000000000 * 2 ^ 32) := by
  rw [Dev.devFine_eq, d.cycle_time hr, TimeUnit.fine_setFine, ← d.nextFine_cast hf]
  rfl

/-- Settles O22: the first request put off that is not blocked is taken out and carried out; with none, device time alone moves. -/
theorem idleStepIsOneCycle : Obligations.IdleStepIsOneCycle := by
  intro s hp
  rw [step_of_no_pending s hp]
  refine ⟨fun early i rest hlate hearly hi => s.idle_late hlate hearly hi, fun hwait => ?_⟩
  refine ⟨_, s.idle_cycle hwait, ?_, s.dev.cycle_time_held, fun hr hf => ⟨s.dev.cycle_devFine hr hf, ?_⟩⟩
  · exact congrArg (fun d => { s with dev := d }) s.dev.cycle_frame
  · rw [s.dev.cycle_time hr]
    exact ⟨TimeUnit.setFine_ns_lt _ _, TimeUnit.setFine_frac_lt _ _, rfl⟩

end Sys2Proof.Machine
end

section
/-! SUPPORT. The registers and the steering of device time (R405, R410, R413, R416): what a write of TOD_CTRL keeps, what TOD_STEER and the two
events of the 10 MHz input write, and the latch of TOD_NOW_NS. -/
namespace Sys2Proof.Machine
open Sys2Proof

/-! ### Where the time registers lie (Table 14-5) -/

/-- The time registers below the counters of the unit. -/
abbrev plainTimeReg (off : Nat) : Prop := off / 0x10000 = 7 ∧ off % 0x10000 < 0x40

theorem isCtrReg_time (v : Variant) (off : Nat) (h : plainTimeReg off) : isCtrReg v off = false := by
  obtain ⟨hb, ho⟩ := h
  refine List.any_eq_false.2 fun b hm => Bool.eq_false_iff.1 (b.holds_eq_false v off ?_)
  revert b
  simp only [ctrBlocks, hubCtrs, dieCtrs, List.forall_mem_append, List.forall_mem_cons, List.not_mem_nil, false_imp_iff, implies_true, and_true]
  and_intros <;> omega

theorem Dev.regSet_time (d : Dev) (off : Nat) (v : Word) (h : plainTimeReg off) : d.regSet off v = d.hubSet off v := by
  have hlt : off < 0x1000000 := by obtain ⟨hb, ho⟩ := h; omega
  simp [Dev.regSet, hlt, isCtrReg_time _ _ h]

theorem Dev.regAt_time (d : Dev) (b : Bank) (off : Nat) (h : plainTimeReg off) : d.regAt b off = d.todReg (off % 0x10000) := by
  obtain ⟨hb, ho⟩ := h
  have hlt : off < 0x1000000 := by omega
  have hlow : ¬(0x100 ≤ off % 0x10000 ∧ off % 0x10000 < 0x180) := by omega
  rw [Dev.regAt, if_pos hlt, isCtrReg_time _ _ ⟨hb, ho⟩, if_neg Bool.false_ne_true, Dev.hubAt, hb]
  exact if_neg hlow

/-! ### TOD_CTRL (R410, Table 14-9) -/

theorem todCtrlGood_iff (v : Word) : todCtrlGood v = true ↔
    v.toNat % 4 ≠ 3 ∧ 1 ≤ v.toNat / 16 % 16 ∧ v.toNat / 16 % 16 ≤ 8 ∧ 2 ≤ v.toNat / 256 % 16 := decide_eq_true_iff

/-- The bits that TOD_CTRL keeps hold all of MODE. -/
theorem todCtrl_kept_mode (v : Word) : (v &&& 0x00003FF3#32).toNat % 4 = v.toNat % 4 := by
  rw [BitVec.toNat_and]
  exact (Nat.and_mod_two_pow (n := 2)).trans ((Nat.and_two_pow_sub_one_eq_mod _ 2).trans (Nat.mod_mod _ _))

section
variable (d : Dev) (v : Word)

/-- A write that leaves MODE. -/
theorem Dev.todCtrl_same (h : v.toNat % 4 = d.time.mode) : d.todCtrl v = d.modTime fun x => { x with ctrl := v &&& 0x3FF3 } := by
  rw [← todCtrl_kept_mode] at h
  exact congrArg (fun x => { d with time := x }) (if_pos h)

/-- A write that changes MODE (R410): the servo starts afresh, with I at FREQ where it is to discipline device time. -/
theorem Dev.todCtrl_changed (h : v.toNat % 4 ≠ d.time.mode) : d.todCtrl v = d.modTime fun x => { x with
    ctrl := v &&& 0x3FF3, locked := false, holdover := false, good := 0, big := 0
    integ := if v.toNat % 4 = 0 then x.integ else x.freq * 1000000000 } := by
  rw [← todCtrl_kept_mode] at h ⊢
  refine congrArg (fun x => { d with time := x }) ((if_neg h).trans ?_)
  split <;> rfl

/-- Whatever MODE becomes, TOD_CTRL holds the bits written, and neither FREQ nor device time moves. -/
theorem Dev.todCtrl_clock :
    (d.todCtrl v).time.ctrl = v &&& 0x3FF3 ∧ (d.todCtrl v).time.freq = d.time.freq ∧ (d.todCtrl v).devFine = d.devFine := by
  by_cases h : v.toNat % 4 = d.time.mode
  · rw [d.todCtrl_same v h]
    exact ⟨rfl, rfl, rfl⟩
  · rw [d.todCtrl_changed v h]
    exact ⟨rfl, rfl, rfl⟩

theorem Dev.regSet_todCtrl (h : todCtrlGood v = true) : d.regSet 0x70000 v = d.todCtrl v :=
  (d.regSet_time 0x70000 v (by decide)).trans (if_pos h)

end

theorem exec_todCtrlWrite (s : State) (v : Word) (hs : s.Settled) (hb : s.booted) (hv : todCtrlGood v = true) :
    exec (.todCtrlWrite v) s = .next { s with dev := s.dev.todCtrl v } :=
  s.event_regWrite hs hb 0x70000 v _ (s.dev.regSet_todCtrl v hv) rfl rfl

/-- Settles O54: the write is legal, so it is `todCtrl` alone, which differs by whether MODE changes. -/
theorem modeChangeOfDeviceTime : Obligations.ModeChangeOfDeviceTime := by
  intro s v hs hb hmode hgp hgp' hgi
  obtain ⟨hctrl, hfreq, hfine⟩ := s.dev.todCtrl_clock v
  refine ⟨_, exec_todCtrlWrite s v hs hb ((todCtrlGood_iff v).2 ⟨hmode, hgp, hgp', hgi⟩), rfl, hctrl, hfreq, hfine,
    fun hchanged => ?_, fun hsame => ?_⟩
  · rw [s.dev.todCtrl_changed v hchanged]
    exact ⟨rfl, rfl, fun hdisciplined => if_neg hdisciplined⟩
  · rw [s.dev.todCtrl_same v hsame]
    rfl

/-! ### TOD_STEER (R413) -/

/-- FREQ after TOD_STEER: the value given, or with SFLAGS bit 0 the sum. -/
def TimeUnit.steered (x : TimeUnit) (freq : Word) (sflags : Byte) : Int := if sflags.getLsbD 0 then x.freq + freq.toInt else freq.toInt

section
variable {s : State} {c : Tag} {freq : Word} {sflags : Byte} (ho : s.Open) (hn : s.New c)
  (hf : s.Free (.todSteer c 0 freq sflags) c 0 (cmdTodSteer c 0 freq sflags s.dev))
include ho hn hf

/-- Where the effect is a time unit `x` and a completion, with the seconds and nanoseconds left. -/
theorem exec_todSteer (x : TimeUnit) (st : Nat) (r : Bytes) (hx : packTime x.sec x.ns = s.dev.stamp)
    (hbody : (cmdTodSteer c 0 freq sflags s.dev).body (s.dev.startOn (.todSteer c 0 freq sflags) c 0 0x0A02 .running) =
      { s.dev.startOn (.todSteer c 0 freq sflags) c 0 0x0A02 .running with time := x }.complete c st r) :
    ∃ t, exec (.todSteer c 0 freq sflags) s = .next t ∧ s.Completes t c 0x0A02 st r ∧
      t.dev = { s.dev with cmds := t.dev.cmds, lastRing := t.dev.lastRing, time := x } := by
  have hrow : exec (.todSteer c 0 freq sflags) s = execTodSteer c 0 freq sflags s := rfl
  obtain ⟨t, hexec, hdone, hdev⟩ := s.host_completes ho hn hf _ hbody rfl rfl hx
  refine ⟨t, hrow.trans hexec, hdone, ?_⟩
  rw [← ho.settled.outbox, ← ho.settled.dma] at hdev
  rw [hdev]
  rfl

/-- In mode 0 the command sets FREQ and completes. -/
theorem exec_todSteer_free (h : s.dev.time.mode = 0) : ∃ t, exec (.todSteer c 0 freq sflags) s = .next t ∧ s.Completes t c 0x0A02 0 [] ∧
    t.dev = { s.dev with
      cmds := t.dev.cmds, lastRing := t.dev.lastRing, time := { s.dev.time with freq := s.dev.time.steered freq sflags } } :=
  exec_todSteer ho hn hf _ stOk [] rfl (if_neg (not_not_intro h))

/-- In any other mode it completes FAILED and does nothing else. -/
theorem exec_todSteer_disciplined (h : s.dev.time.mode ≠ 0) :
    ∃ t, exec (.todSteer c 0 freq sflags) s = .next t ∧ s.Completes t c 0x0A02 2 [1] ∧ s.SameUnits t :=
  exec_todSteer ho hn hf s.dev.time stFailed [1] rfl (if_pos h)

end

/-! ### The 10 MHz input (R405) -/

/-- A change of the device that raises one event: the event, and the device. -/
theorem State.run_emit (s : State) (ho : s.Open) (g : Dev) (typ src : Nat) (pl : Bytes) (hx : g.outbox = s.dev.outbox)
    (hd : g.dma = s.dev.dma) (ht : g.stamp = s.dev.stamp) :
    s.Raises (s.run (g.emit typ src pl)) typ src pl ∧
      (s.run (g.emit typ src pl)).dev = { g with cmds := (s.run (g.emit typ src pl)).dev.cmds } := by
  have hout : (g.emit typ src pl).outbox = [.event typ src (padTo 16 pl) s.dev.stamp] := by
    rw [Dev.emit, hx, ht, ho.settled.outbox, List.nil_append]
  refine ⟨s.run_raises ho _ typ src pl [] hout (fun _ h => nomatch h), ?_⟩
  have hdev := s.run_dev (g.emit typ src pl)
  rw [← ho.settled.outbox, ← hx, ← ho.settled.dma, ← hd] at hdev
  exact hdev

/-- The time unit with the system clock for reference, `own`, or the 10 MHz input. -/
def TimeUnit.withRef (x : TimeUnit) (own : Bool) : TimeUnit := { x with sysRef := own, lost10m := own }

theorem Dev.loss10m_of_input (d : Dev) (h : d.time.sysRef = false) :
    d.loss10m = (d.modTime fun x => x.withRef true).emitTime 0x8A04 (le 1 1) := if_neg (ne_true_of_eq_false h)

theorem Dev.qualified10m_of_own (d : Dev) (h : d.time.sysRef = true) : d.qualified10m =
    if d.time.lost10m then (d.modTime fun x => x.withRef false).emitTime 0x8A04 (le 1 2) else d.modTime fun x => x.withRef false :=
  if_neg (by rw [h]; decide)

section
variable {s : State} (ho : s.Open) (hr : s.dev.board.resetN = false)
include ho hr

theorem exec_time10mLoss_of_input (h : s.dev.time.sysRef = false) : ∃ t, exec .time10mLoss s = .next t ∧
    s.Raises t 0x8A04 (srcOf 0xE 0) (le 1 1) ∧ t.dev = { s.dev with cmds := t.dev.cmds, time := s.dev.time.withRef true } := by
  have hrow : exec .time10mLoss s = .next (s.run s.dev.loss10m) := s.event_on (fun d => d.loss10m) hr
  rw [s.dev.loss10m_of_input h] at hrow
  exact ⟨_, hrow, s.run_emit ho _ _ _ _ rfl rfl rfl⟩

/-- The return is told only where the loss was. -/
theorem exec_time10mQualified_of_own (h : s.dev.time.sysRef = true) : ∃ t, exec .time10mQualified s = .next t ∧
    t.dev = { s.dev with cmds := t.dev.cmds, time := s.dev.time.withRef false } ∧
    (s.dev.time.lost10m = true → s.Raises t 0x8A04 (srcOf 0xE 0) (le 1 2)) := by
  have hrow : exec .time10mQualified s = .next (s.run s.dev.qualified10m) := s.event_on (fun d => d.qualified10m) hr
  rw [s.dev.qualified10m_of_own h] at hrow
  by_cases hlost : s.dev.time.lost10m = true
  · rw [if_pos hlost] at hrow
    obtain ⟨hraised, hdev⟩ := s.run_emit ho (s.dev.modTime fun x => x.withRef false) 0x8A04 (srcOf 0xE 0) (le 1 2) rfl rfl rfl
    exact ⟨_, hrow, hdev, fun _ => hraised⟩
  · rw [if_neg hlost, s.run_silent ho.settled (s.dev.modTime fun x => x.withRef false) rfl rfl] at hrow
    exact ⟨_, hrow, rfl, fun h => absurd h hlost⟩

end

/-! ### The latch of TOD_NOW_NS (R416) -/

/-- Once the start-up is done a read of TOD_NOW_NS returns the nanoseconds and latches the rest of the instant. -/
theorem Dev.readBack_nowNs (d : Dev) (b : Bank) (hr : d.board.resetN = false) (hb : d.board.bootDone = true) :
    d.readBack b 0x70008 = d.nowNsRead.send (.readData false (BitVec.ofNat 32 d.time.ns)) := by
  have hval : d.regRead b 0x70008 = d.time.ns := by
    rw [Dev.regRead, if_neg (ne_true_of_eq_false hr), hb, if_pos (by decide)]
    exact d.regAt_time b 0x70008 (by decide)
  have hlatch : d.readEffect 0x70008 = d.nowNsRead := by
    rw [Dev.readEffect, hb, if_neg (by decide), if_pos rfl]
  rw [Dev.readBack, Dev.hostRead, hval, hlatch]

theorem exec_todNowNsRead (s : State) (hs : s.Settled) (hb : s.booted) : exec .todNowNsRead s =
    .next { s with dev := s.dev.nowNsRead.send (.readData false (BitVec.ofNat 32 s.dev.time.ns)) } := by
  obtain ⟨hr, hboot⟩ := hb
  have hrow : exec .todNowNsRead s = s.event fun d => d.readBack s.bank 0x70008 := rfl
  rw [hrow, s.event_on _ hr, s.dev.readBack_nowNs s.bank hr hboot]
  exact congrArg _ (s.run_silent hs _ rfl rfl)

/-- The latched registers show the latches and nothing else. -/
theorem Dev.todReg_latched (d e : Dev) (hfrac : e.time.latFrac = d.time.latFrac) (hsec : e.time.latSec = d.time.latSec) :
    ∀ o ∈ [0x0C, 0x10, 0x14], e.todReg o = d.todReg o := by
  simp only [List.forall_mem_cons, List.not_mem_nil, false_imp_iff, implies_true, and_true, Dev.todReg, hfrac, hsec]

/-- The passing of time leaves the latches. -/
theorem Dev.cycle_latches (d : Dev) : d.cycle.time.latFrac = d.time.latFrac ∧ d.cycle.time.latSec = d.time.latSec := by
  unfold Dev.cycle
  split <;> exact ⟨rfl, rfl⟩

/-- Settles O55: the command turns on MODE, and each event of the 10 MHz input on the reference in force; the read latches the instant whose
nanoseconds it returns, and a cycle writes no latch. -/
theorem steerReferenceAndLatch : Obligations.SteerReferenceAndLatch := by
  refine fun s c freq sflags ho hn hr => ⟨fun hf => ?_, exec_time10mLoss_of_input ho hr,
    exec_time10mQualified_of_own ho hr, fun hb => ?_, ?_⟩
  · split
    next h => exact exec_todSteer_free ho hn hf h
    next h => exact exec_todSteer_disciplined ho hn hf h
  · exact ⟨_, exec_todNowNsRead s ho.settled ⟨hr, hb⟩, rfl, rfl, rfl, rfl, rfl⟩
  · obtain ⟨hfrac, hsec⟩ := s.dev.cycle_latches
    exact s.dev.todReg_latched _ hfrac hsec

end Sys2Proof.Machine
end

section
/-! SUPPORT. The check codes (R423 to R425): a read is judged by its syndrome and its parity together, which are linear in the bits read, so that
an error shows as the column of its bit. -/
namespace Sys2Proof.Machine
open Sys2Proof

/-! ### Syndrome and parity as one number -/

/-- Induction on a list from its front end on, as lines are numbered. -/
theorem concat_induction {α : Type} {motive : List α → Prop} (nil : motive []) (concat : ∀ l a, motive l → motive (l ++ [a]))
    (l : List α) : motive l := by
  rw [← List.reverse_reverse l]
  induction l.reverse with
  | nil => exact nil
  | cons a l ih =>
    rw [List.reverse_cons]
    exact concat _ a ih

theorem bitOf_eq_testBit (v i : Nat) : bitOf v i = v.testBit i := by
  rw [bitOf, Nat.testBit_eq_decide_div_mod_eq]
  rfl

/-- A number with one more bit below it. -/
def withBit (p : Bool) (n : Nat) : Nat := 2 * n + p.toNat

theorem withBit_div_two (p : Bool) (n : Nat) : withBit p n / 2 = n := by
  have hp := p.toNat_lt
  unfold withBit
  omega

theorem withBit_testBit_zero (p : Bool) (n : Nat) : (withBit p n).testBit 0 = p := by
  rw [Nat.testBit_zero, withBit, Nat.mul_add_mod]
  cases p <;> rfl

theorem withBit_lt {n k : Nat} (p : Bool) (h : n < 2 ^ k) : withBit p n < 2 ^ (k + 1) := by
  have hp := p.toNat_lt
  unfold withBit
  rw [Nat.pow_succ]
  omega

theorem withBit_eq_zero_iff (p : Bool) (n : Nat) : withBit p n = 0 ↔ p = false ∧ n = 0 := by
  unfold withBit
  cases p with
  | false => exact ⟨fun h => ⟨rfl, by rw [Bool.toNat_false] at h; omega⟩, fun ⟨_, hn⟩ => by rw [hn]; rfl⟩
  | true => exact ⟨fun h => by rw [Bool.toNat_true] at h; omega, fun ⟨hp, _⟩ => Bool.noConfusion hp⟩

theorem withBit_xor (p q : Bool) (m n : Nat) : withBit p m ^^^ withBit q n = withBit (p ^^ q) (m ^^^ n) := by
  refine Nat.eq_of_testBit_eq fun i => ?_
  cases i with
  | zero => simp only [Nat.testBit_xor, withBit_testBit_zero]
  | succ i => rw [Nat.testBit_xor, Nat.testBit_add_one, Nat.testBit_add_one, Nat.testBit_add_one, withBit_div_two, withBit_div_two,
      withBit_div_two, Nat.testBit_xor]

theorem syndrome_concat (cols : List Nat) (c raw : Nat) :
    syndrome (cols ++ [c]) raw = syndrome cols raw ^^^ if raw.testBit cols.length then c else 0 := by
  simp only [syndrome, List.zipIdx_append, List.foldl_append, List.zipIdx_singleton, List.foldl_cons, List.foldl_nil, bitOf_eq_testBit,
    Nat.zero_add]
  split
  · rfl
  · rw [Nat.xor_zero]

theorem parityOf_succ (n raw : Nat) : parityOf (n + 1) raw = (parityOf n raw ^^ raw.testBit n) := by
  simp only [parityOf, List.range_succ, List.foldl_append, List.foldl_cons, List.foldl_nil, bitOf_eq_testBit]

/-- The columns with one more bit below, which is set in each: what the parity is to the lines read. -/
def withParity (cols : List Nat) : List Nat := cols.map (withBit true)

theorem withParity_concat (cols : List Nat) (c : Nat) : withParity (cols ++ [c]) = withParity cols ++ [withBit true c] := List.map_append

/-- The syndrome of these columns is S with P below it. -/
theorem syndrome_withParity (cols : List Nat) (raw : Nat) :
    syndrome (withParity cols) raw = withBit (parityOf cols.length raw) (syndrome cols raw) := by
  induction cols using concat_induction with
  | nil => rfl
  | concat cols c ih =>
    have hbit (b : Bool) : (if b then withBit true c else 0) = withBit b (if b then c else 0) := by cases b <;> rfl
    rw [withParity_concat, syndrome_concat, ih, syndrome_concat, List.length_append, List.length_singleton, parityOf_succ, withParity,
      List.length_map, hbit, withBit_xor]

/-! ### Table 15-1 -/

theorem secded_eq_good_iff (cols : List Nat) (raw : Nat) : secded cols raw = .good ↔ syndrome (withParity cols) raw = 0 := by
  rw [syndrome_withParity, withBit_eq_zero_iff, secded]
  cases parityOf cols.length raw
  · simp
  · simp only [if_true]
    split <;> simp

theorem parity_syndrome_of_bit {cols : List Nat} {raw : Nat} {p : Bool} {n : Nat} (h : syndrome (withParity cols) raw = withBit p n) :
    parityOf cols.length raw = p ∧ syndrome cols raw = n := by
  rw [syndrome_withParity] at h
  have hp := congrArg (Nat.testBit · 0) h
  have hn := congrArg (· / 2) h
  simp only [withBit_testBit_zero] at hp
  simp only [withBit_div_two] at hn
  exact ⟨hp, hn⟩

theorem xor_eq_zero_iff_eq (a b : Nat) : a ^^^ b = 0 ↔ a = b := by
  refine ⟨fun h => ?_, fun h => h ▸ Nat.xor_self a⟩
  have hb := congrArg (· ^^^ b) h
  simpa only [Nat.xor_assoc, Nat.xor_self, Nat.xor_zero, Nat.zero_xor] using hb

theorem getElem_ne_of_nodup {cols : List Nat} (h : cols.Nodup) {i j : Nat} (hi : i < cols.length) (hj : j < cols.length) (hij : i ≠ j) :
    cols[i] ≠ cols[j] := by
  intro hsame
  have hidx := congrArg (cols.idxOf ·) hsame
  simp only [h.idxOf_getElem] at hidx
  exact hij hidx

/-- A single column stands for its bit, where no two columns are the same. -/
theorem secded_eq_fixed {cols : List Nat} {raw i : Nat} (hcols : cols.Nodup) (hi : i < cols.length)
    (h : syndrome (withParity cols) raw = withBit true cols[i]) : secded cols raw = .fixed i := by
  obtain ⟨hparity, hsyndrome⟩ := parity_syndrome_of_bit h
  have hidx : cols.idxOf? cols[i] = some i := by
    refine List.idxOf?_eq_some_iff.2 ⟨hi, rfl, fun j hj => ?_⟩
    exact getElem_ne_of_nodup hcols (Nat.lt_trans hj hi) hi (Nat.ne_of_lt hj)
  simp only [secded, hparity, hsyndrome, hidx, if_true]

theorem secded_eq_bad {cols : List Nat} {raw n : Nat} (h : syndrome (withParity cols) raw = withBit false n) (hn : n ≠ 0) :
    secded cols raw = .bad := by
  obtain ⟨hparity, hsyndrome⟩ := parity_syndrome_of_bit h
  simp only [secded, hparity, hsyndrome, hn, if_false, Bool.false_eq_true]

/-! ### Errors -/

theorem ite_xor (p q : Bool) (c : Nat) : (if p ^^ q then c else 0) = (if p then c else 0) ^^^ if q then c else 0 := by
  cases p with
  | false => cases q <;> exact (Nat.zero_xor _).symm
  | true =>
    cases q with
    | false => exact (Nat.xor_zero c).symm
    | true => exact (Nat.xor_self c).symm

theorem xor_xor_xor_swap (a b c d : Nat) : (a ^^^ b) ^^^ (c ^^^ d) = (a ^^^ c) ^^^ (b ^^^ d) := by
  rw [Nat.xor_assoc, ← Nat.xor_assoc b, Nat.xor_comm b c, Nat.xor_assoc c, ← Nat.xor_assoc a]

theorem syndrome_xor (cols : List Nat) (a b : Nat) : syndrome cols (a ^^^ b) = syndrome cols a ^^^ syndrome cols b := by
  induction cols using concat_induction with
  | nil => exact (Nat.xor_self 0).symm
  | concat cols c ih =>
    rw [syndrome_concat, syndrome_concat, syndrome_concat, ih, Nat.testBit_xor, ite_xor, xor_xor_xor_swap]

/-- Bits beyond the columns do not count. -/
theorem syndrome_congr {cols : List Nat} {a b : Nat} (h : ∀ i < cols.length, a.testBit i = b.testBit i) : syndrome cols a = syndrome cols b := by
  induction cols using concat_induction with
  | nil => rfl
  | concat cols c ih =>
    rw [List.length_append, List.length_singleton] at h
    rw [syndrome_concat, syndrome_concat, ih fun i hi => h i (by omega), h cols.length (by omega)]

theorem syndrome_zero (cols : List Nat) : syndrome cols 0 = 0 := by
  have h := syndrome_xor cols 0 0
  rwa [Nat.xor_self, Nat.xor_self] at h

/-- A single bit gives its column. -/
theorem syndrome_two_pow {cols : List Nat} {i : Nat} (hi : i < cols.length) : syndrome cols (2 ^ i) = cols[i] := by
  induction cols using concat_induction with
  | nil => exact absurd hi (Nat.not_lt_zero i)
  | concat cols c ih =>
    rw [syndrome_concat, Nat.testBit_two_pow]
    by_cases h : i < cols.length
    · rw [ih h, decide_eq_false (by omega), if_neg Bool.false_ne_true, Nat.xor_zero, List.getElem_append_left h]
    · have hlast : i = cols.length := by rw [List.length_append, List.length_singleton] at hi; omega
      subst hlast
      rw [syndrome_congr (b := 0) (fun j hj => by rw [Nat.testBit_two_pow_of_ne (by omega), Nat.zero_testBit]), syndrome_zero,
        decide_eq_true rfl, if_pos rfl, Nat.zero_xor, List.getElem_concat_length rfl]

theorem syndrome_flip {cols : List Nat} {raw i : Nat} (hi : i < cols.length) :
    syndrome (withParity cols) (raw ^^^ 2 ^ i) = syndrome (withParity cols) raw ^^^ withBit true cols[i] := by
  have hlen : i < (withParity cols).length := by rwa [withParity, List.length_map]
  rw [syndrome_xor, syndrome_two_pow hlen]
  simp only [withParity, List.getElem_map]

/-- One error is found at its bit, two are found to be uncorrectable. -/
theorem secded_errors {cols : List Nat} (hcols : cols.Nodup) {raw : Nat} (hgood : secded cols raw = .good) :
    (∀ i, i < cols.length → secded cols (raw ^^^ 2 ^ i) = .fixed i) ∧
    ∀ i j, i < cols.length → j < cols.length → i ≠ j → secded cols (raw ^^^ 2 ^ i ^^^ 2 ^ j) = .bad := by
  have h0 := (secded_eq_good_iff cols raw).1 hgood
  refine ⟨fun i hi => secded_eq_fixed hcols hi ?_, fun i j hi hj hij => secded_eq_bad (n := cols[i] ^^^ cols[j]) ?_ ?_⟩
  · rw [syndrome_flip hi, h0, Nat.zero_xor]
  · rw [syndrome_flip hj, syndrome_flip hi, h0, Nat.zero_xor, withBit_xor]
    rfl
  · rw [Ne, xor_eq_zero_iff_eq]
    exact getElem_ne_of_nodup hcols hi hj hij

/-! ### Check bits -/

/-- The columns of c0 to c6. -/
def checkCols : List Nat := [1, 2, 4, 8, 16, 32, 0]

/-- Data in the low lines and check bits above them. -/
theorem syndrome_append {l : List Nat} {m : Nat} (hm : m < 2 ^ l.length) (cols : List Nat) (k : Nat) :
    syndrome (l ++ cols) (m + 2 ^ l.length * k) = syndrome l m ^^^ syndrome cols k := by
  rw [Nat.add_comm m]
  induction cols using concat_induction with
  | nil =>
    rw [List.append_nil]
    refine (syndrome_congr fun i hi => ?_).trans (Nat.xor_zero _).symm
    rw [Nat.testBit_two_pow_mul_add _ hm, if_pos hi]
  | concat cols c ih =>
    have hbit : (2 ^ l.length * k + m).testBit (l.length + cols.length) = k.testBit cols.length := by
      rw [Nat.testBit_two_pow_mul_add _ hm, if_neg (Nat.not_lt.2 (Nat.le_add_right _ _)), Nat.add_sub_cancel_left]
    rw [← List.append_assoc, syndrome_concat, ih, syndrome_concat, List.length_append, hbit, Nat.xor_assoc]

theorem syndrome_lt {cols : List Nat} {n : Nat} (h : ∀ c ∈ cols, c < 2 ^ n) (raw : Nat) : syndrome cols raw < 2 ^ n := by
  induction cols using concat_induction with
  | nil => exact Nat.two_pow_pos n
  | concat cols c ih =>
    rw [List.forall_mem_append] at h
    rw [syndrome_concat]
    refine Nat.xor_lt_two_pow (ih h.1) ?_
    split
    · exact h.2 c (List.mem_singleton_self c)
    · exact Nat.two_pow_pos n

/-- The check bits that give S and P: c0 to c5 are S, and c6 makes the parity P. -/
def checkBits (x : Nat) : BitVec 7 := BitVec.ofNat 7 (x / 2 + 64 * (parityOf 7 x).toNat)

set_option maxRecDepth 8000 in
theorem syndrome_checkBits : ∀ x < 128, syndrome (withParity checkCols) (checkBits x).toNat = x := by decide

set_option maxRecDepth 8000 in
theorem checkBits_syndrome : ∀ k < 128, checkBits (syndrome (withParity checkCols) k) = BitVec.ofNat 7 k := by decide

/-- For all data there is one choice of check bits. -/
theorem secded_checkBits {l : List Nat} (hl : ∀ c ∈ l, c < 64) {m : Nat} (hm : m < 2 ^ l.length) :
    ∃ k : BitVec 7, secded (l ++ checkCols) (m + 2 ^ l.length * k.toNat) = .good ∧
      ∀ j : BitVec 7, secded (l ++ checkCols) (m + 2 ^ l.length * j.toNat) = .good → j = k := by
  have hlen : (withParity l).length = l.length := List.length_map _
  have hgood (k : BitVec 7) : secded (l ++ checkCols) (m + 2 ^ l.length * k.toNat) = .good ↔
      syndrome (withParity checkCols) k.toNat = syndrome (withParity l) m := by
    have hsplit := syndrome_append (l := withParity l) (hlen ▸ hm) (withParity checkCols) k.toNat
    rw [hlen] at hsplit
    rw [secded_eq_good_iff, withParity, List.map_append, ← withParity, ← withParity, hsplit, xor_eq_zero_iff_eq, eq_comm]
  have hlt : syndrome (withParity l) m < 2 ^ 7 := by
    refine syndrome_lt (List.forall_mem_map.2 fun c hc => ?_) m
    exact withBit_lt true (hl c hc)
  refine ⟨checkBits (syndrome (withParity l) m), (hgood _).2 (syndrome_checkBits _ hlt), fun j hj => ?_⟩
  rw [← (hgood j).1 hj, checkBits_syndrome _ j.isLt, BitVec.ofNat_toNat, BitVec.setWidth_eq]

theorem chipCols_nodup : chipCols.Nodup := by decide
theorem dramCols_nodup : dramCols.Nodup := by decide

/-- Settles O57: the columns of both codes differ, and those of c0 to c5 are the powers of two. -/
theorem checkCodesCorrectOneFindTwo : Obligations.CheckCodesCorrectOneFindTwo := by
  refine ⟨fun e he raw _ hgood => ?_, fun d => ?_, fun d f => ?_⟩
  · simp only [List.mem_cons, List.not_mem_nil, or_false] at he
    rcases he with rfl | rfl
    · exact secded_errors chipCols_nodup hgood
    · exact secded_errors dramCols_nodup hgood
  · exact secded_checkBits (l := dataCols) (by decide) d.isLt
  · refine secded_checkBits (l := dataCols ++ [39]) (m := d.toNat + 2 ^ 32 * b2n f) (by decide) ?_
    have hd := d.isLt
    have hf : b2n f ≤ 1 := by cases f <;> decide
    show d.toNat + 2 ^ 32 * b2n f < 2 ^ 33
    omega

end Sys2Proof.Machine
end

section
/-! SUPPORT. The commands of the memory unit (R441, R442, R447): MEM_SCRUB_SET, and MEM_RETIRE of a DRAM subchannel. -/
namespace Sys2Proof.Machine
open Sys2Proof

/-! ### MEM_SCRUB_SET (R447) -/

/-- The memory unit with new scrub periods, of which 0 keeps the old one. -/
def Ddr.withScrub (x : Ddr) (sramS : Half) (dramH : Byte) : Ddr :=
  { x with
    sramS := if sramS = 0 then x.sramS else sramS.toNat
    dramH := if dramH = 0 then x.dramH else dramH.toNat }

/-- The command writes the scrub periods and completes. -/
theorem exec_memScrubSet (s : State) {c : Tag} {obj : Word} {sramS : Half} {dramH : Byte} (ho : s.Open) (hn : s.New c)
    (hf : s.Free (.memScrubSet c obj sramS dramH) c obj (cmdMemScrubSet c obj sramS dramH s.dev)) :
    ∃ t, exec (.memScrubSet c obj sramS dramH) s = .next t ∧ s.Completes t c 0x0B04 0 [] ∧
      t.dev = { s.dev with cmds := t.dev.cmds, lastRing := t.dev.lastRing, ddr := s.dev.ddr.withScrub sramS dramH } := by
  have hrow : exec (.memScrubSet c obj sramS dramH) s = execMemScrubSet c obj sramS dramH s := rfl
  obtain ⟨t, hexec, hdone, hdev⟩ := s.host_completes ho hn hf
    { s.dev.startOn (.memScrubSet c obj sramS dramH) c obj 0x0B04 .running with ddr := s.dev.ddr.withScrub sramS dramH }
    (st := stOk) (r := []) rfl rfl rfl rfl
  refine ⟨t, hrow.trans hexec, hdone, ?_⟩
  rw [← ho.settled.outbox, ← ho.settled.dma] at hdev
  rw [hdev]
  rfl

/-! ### MEM_RETIRE of a subchannel (R441, R442) -/

/-- The handle of DRAM subchannel `n` (Table 2-4). -/
theorem subHandle_class_index (n : Fin 8) :
    let obj : Word := BitVec.ofNat 32 (0x0C * 2 ^ 24 + n.val)
    objClass obj = 0x0C ∧ objIndex obj = n.val := by
  have hn := n.isLt
  simp only [objClass, objIndex, BitVec.toNat_ofNat]
  omega

/-- A subchannel that takes no further part; its capture is dropped. -/
def Sub.retired (x : Sub) : Sub := { x with st := 3, capture := none }

/-- The device with subchannel `n` retired, in the ledger too, under a record at a location that the manual leaves open. -/
def Dev.retireSub (d : Dev) (n : Nat) : Dev :=
  (((d.someLoc n).2.modSub n Sub.retired).modNv fun x => { x with subs := x.subs ++ [n] }).record
    (d.someLoc n).1 4

theorem cmdMemRetire_sub_body {c : Tag} {obj : Word} (hclass : objClass obj = 0x0C) (d0 d : Dev) :
    (cmdMemRetire c obj d0).body d =
      if (d.sub (objIndex obj)).st = 1 then (d.retireSub (objIndex obj)).complete c stOk else d.complete c stFailed [3] := by
  show (if _ then _ else if _ then _ else _) = _
  rw [if_neg (by omega), if_neg (by omega)]
  rfl

theorem Dev.retireSub_sub (d : Dev) (n k : Nat) :
    (d.retireSub n).sub k = if k = n then (d.sub n).retired else d.sub k :=
  (d.someLoc n).2.modSub_get n Sub.retired k

theorem Dev.record_subs (d : Dev) (loc : Dword) (kind : Nat) : (d.record loc kind).ddr.nv.subs = d.ddr.nv.subs := by
  show (if _ then _ else _ : Ledger).subs = _
  split <;> rfl

theorem Dev.retireSub_ledger (d : Dev) (n : Nat) : (d.retireSub n).ddr.nv.subs = d.ddr.nv.subs ++ [n] := Dev.record_subs _ _ _

section
variable {s : State} {c : Tag} {obj : Word} (ho : s.Open) (hn : s.New c) (hf : s.Free (.memRetire c obj) c obj (cmdMemRetire c obj s.dev))
include ho hn hf

/-- Where the effect is on the memory unit and the values left open, with a completion. -/
theorem exec_memRetire (free : Nat) (x : Ddr) (st : Nat) (r : Bytes)
    (hbody : (cmdMemRetire c obj s.dev).body (s.dev.startOn (.memRetire c obj) c obj 0x0B02 .running) =
      { s.dev.startOn (.memRetire c obj) c obj 0x0B02 .running with free := free, ddr := x }.complete c st r) :
    ∃ t, exec (.memRetire c obj) s = .next t ∧ s.Completes t c 0x0B02 st r ∧
      t.dev = { s.dev with cmds := t.dev.cmds, lastRing := t.dev.lastRing, free := free, ddr := x } := by
  have hrow : exec (.memRetire c obj) s = execMemRetire c obj s := rfl
  obtain ⟨t, hexec, hdone, hdev⟩ := s.host_completes ho hn hf _ hbody rfl rfl rfl
  refine ⟨t, hrow.trans hexec, hdone, ?_⟩
  rw [← ho.settled.outbox, ← ho.settled.dma] at hdev
  rw [hdev]
  rfl

/-- A frozen subchannel is retired. -/
theorem exec_memRetire_frozen (hclass : objClass obj = 0x0C) (h : (s.dev.sub (objIndex obj)).st = 1) :
    ∃ t, exec (.memRetire c obj) s = .next t ∧ s.Completes t c 0x0B02 0 [] ∧
      t.dev = { s.dev with cmds := t.dev.cmds, lastRing := t.dev.lastRing, free := t.dev.free, ddr := t.dev.ddr } ∧
      t.dev.ddr = (s.dev.retireSub (objIndex obj)).ddr := by
  obtain ⟨t, hexec, hdone, hdev⟩ := exec_memRetire ho hn hf (s.dev.free + 1) (s.dev.retireSub (objIndex obj)).ddr stOk []
    ((cmdMemRetire_sub_body hclass s.dev _).trans (if_pos h))
  refine ⟨t, hexec, hdone, ?_, (congrArg Dev.ddr hdev :)⟩
  rw [hdev]

/-- On any other the command fails and does nothing else (R442). -/
theorem exec_memRetire_not_frozen (hclass : objClass obj = 0x0C) (h : (s.dev.sub (objIndex obj)).st ≠ 1) :
    ∃ t, exec (.memRetire c obj) s = .next t ∧ s.Completes t c 0x0B02 2 [3] ∧ s.SameUnits t :=
  exec_memRetire ho hn hf s.dev.free s.dev.ddr stFailed [3] ((cmdMemRetire_sub_body hclass s.dev _).trans (if_neg h))

end

/-- Settles O58: each command completes at once, and what MEM_RETIRE does turns on whether the subchannel is frozen. -/
theorem scrubAndRetirement : Obligations.ScrubAndRetirement := by
  intro s c sramS dramH n ho hn obj
  obtain ⟨hclass, hindex⟩ : objClass obj = 0x0C ∧ objIndex obj = n.val := subHandle_class_index n
  refine ⟨exec_memScrubSet s ho hn, fun hf => ?_⟩
  by_cases h : (s.dev.sub n).st = 1
  · obtain ⟨t, hexec, hdone, hdev, hddr⟩ := exec_memRetire_frozen ho hn hf hclass (hindex ▸ h)
    rw [hindex] at hddr
    have hsub (k : Nat) : t.dev.sub k = if k = n.val then (s.dev.sub n).retired else s.dev.sub k :=
      (Dev.sub_of_eq _ _ k hddr).trans (s.dev.retireSub_sub n k)
    refine ⟨t, hexec, fun hne => absurd h hne, fun _ => ⟨hdone, ?_, fun k hk => ?_, ?_, hdev⟩⟩
    · rw [hsub, if_pos rfl]
      rfl
    · rw [hsub, if_neg hk]
    · rw [hddr, Dev.retireSub_ledger]
  · obtain ⟨t, hexec, hfailed, hsame⟩ := exec_memRetire_not_frozen ho hn hf hclass (hindex ▸ h)
    exact ⟨t, hexec, fun _ => ⟨hfailed, hsame⟩, fun hst => absurd hst h⟩

end Sys2Proof.Machine
end

section
/-! SUPPORT. The tally reader (R451, R453): what counting, a gather and a host write leave of local counters and of their backing. -/
namespace Sys2Proof.Machine
open Sys2Proof

/-! ### Local and backing counters -/

theorem Dev.back_of_eq (d e : Dev) (i : Nat) (h : d.tally = e.tally) : d.back i = e.back i := by rw [Dev.back, Dev.back, h]

@[simp] theorem State.run_back (s : State) (d : Dev) (i : Nat) : (s.run d).dev.back i = d.back i := Dev.back_of_eq _ _ _ (s.run_tally d)

theorem Dev.setBack_get (d : Dev) (i : Nat) (x : Backing) (k : Nat) : (d.setBack i x).back k = if k = i then x else d.back k :=
  sget_sset _ _ _ _ _

@[simp] theorem Dev.modTally_ctr_at (d : Dev) (f : Tally → Tally) (k : Nat) : (d.modTally f).ctr k = d.ctr k := rfl

@[simp] theorem Dev.setBack_ctr_at (d : Dev) (i : Nat) (x : Backing) (k : Nat) : (d.setBack i x).ctr k = d.ctr k := rfl

@[simp] theorem Dev.halfRange_ctr_at (d : Dev) (i : Nat) (old new : Word) (k : Nat) : (d.halfRange i old new).ctr k = d.ctr k := by
  unfold Dev.halfRange
  split <;> rfl

@[simp] theorem Dev.halfRange_back_at (d : Dev) (i : Nat) (old new : Word) (k : Nat) : (d.halfRange i old new).back k = d.back k := by
  unfold Dev.halfRange
  split <;> rfl

/-- What the next gather adds for a counter: VAL, and 2^32 for CP. -/
theorem Ctr.wide_eq (c : Ctr) : c.wide = c.val.setWidth 64 + if c.cp then 0x100000000#64 else 0 := by
  have hval := c.val.isLt
  apply BitVec.eq_of_toNat_eq
  rw [Ctr.wide, BitVec.toNat_ofNat, BitVec.toNat_add, BitVec.toNat_setWidth]
  cases c.cp <;> simp [b2n]

/-! ### Counting (R451) -/

theorem Dev.bump_ctr (d : Dev) (i n k : Nat) : (d.bump i n).ctr k =
    if k = i then
      { val := (d.ctr i).val + BitVec.ofNat 32 n, cp := (d.ctr i).cp || decide (2 ^ 32 ≤ (d.ctr i).val.toNat + n) }
    else d.ctr k := by
  rw [Dev.bump, Dev.halfRange_ctr_at, Dev.setCtr_get]

/-! ### A gather (R451) -/

section
variable (d : Dev) (i k : Nat) (h : d.backOk i = true)
include h

theorem Dev.gather_ctr : (d.gather i).ctr k = if k = i then { d.ctr i with cp := false } else d.ctr k := by
  rw [Dev.gather, if_neg (by rw [h]; decide)]
  dsimp only
  rw [Dev.modTally_ctr_at, Dev.setCtr_get, Dev.setBack_ctr_at]

theorem Dev.gather_back : (d.gather i).back k =
    if k = i then { b := (d.back i).b + (d.ctr i).wide - (d.back i).r, r := (d.ctr i).val.setWidth 64, at0 := some d.now } else d.back k := by
  rw [Dev.gather, if_neg (by rw [h]; decide)]
  exact sget_sset _ _ _ _ _

end

theorem exec_counterGather (s : State) (idx : BitVec 25) (hr : s.dev.board.resetN = false) (hready : s.dev.ddr.ready = true)
    (hidx : isGathered s.dev.variant idx.toNat = true) : exec (.counterGather idx) s = .next (s.run (s.dev.gather idx.toNat)) := by
  have hrow : exec (.counterGather idx) s = s.event fun d => d.counterGather idx.toNat := rfl
  rw [hrow, s.event_on _ hr, Dev.counterGather, hready, hidx, Bool.and_true, if_pos rfl]

/-! ### A host write (R453) -/

theorem Dev.writeCtr_ctr (d : Dev) (i : Nat) (v : Word) (k : Nat) :
    (d.writeCtr i v).ctr k = if k = i then { d.ctr i with val := v } else d.ctr k := by
  rw [Dev.writeCtr, Dev.halfRange_ctr_at]
  exact Dev.setCtr_get ..

theorem Dev.writeCtr_back (d : Dev) (i : Nat) (v : Word) (k : Nat) : (d.writeCtr i v).back k =
    if k = i then { d.back i with r := (d.back i).r + v.setWidth 64 - (d.ctr i).val.setWidth 64 } else d.back k := by
  rw [Dev.writeCtr, Dev.halfRange_back_at]
  exact Dev.setBack_get ..

theorem exec_localCounterWrite (s : State) (off v : Word) (hb : s.booted) (hoff : off.toNat < 0x1000000)
    (hctr : isCtrReg s.dev.variant off.toNat = true) :
    exec (.localCounterWrite off v) s = .next (s.run (s.dev.writeCtr (ctrIdx off.toNat) v)) := by
  obtain ⟨hr, hboot⟩ := hb
  have hrow : exec (.localCounterWrite off v) s = s.event fun d => d.ctrWrite off.toNat v := rfl
  have hset : s.dev.regSet off.toNat v = s.dev.writeCtr (ctrIdx off.toNat) v := (if_pos hoff).trans (if_pos hctr)
  rw [hrow, s.event_on _ hr, Dev.ctrWrite, if_pos hctr, Dev.regWrite, hr, hboot, if_neg (by decide), hset]

/-- VAL and R move by the same amount, from `c` to `v`. -/
theorem moved_together (b r v c carry : Dword) : b + (v + carry) - (r + v - c) = b + (c + carry) - r := by grind

/-- Settles O59: VAL and R move by the same amount under a host write, so that their difference, which a gather adds to B, stays. -/
theorem countersAreGathered : Obligations.CountersAreGathered := by
  refine ⟨fun d i n _ => ?_, fun s idx _ hr hready hidx hok => ?_, fun s off v _ hb hoff hctr => ?_⟩
  · refine ⟨?_, ?_, fun k hk => ?_⟩
    · rw [d.bump_ctr, if_pos rfl, BitVec.toNat_add, BitVec.toNat_ofNat, Nat.add_mod_mod]
    · rw [d.bump_ctr, if_pos rfl]
    · rw [d.bump_ctr, if_neg hk]
  · refine ⟨_, exec_counterGather s idx hr hready hidx, ?_, ?_, ?_, fun k hk => ⟨?_, ?_⟩⟩
    · rw [State.run_back, s.dev.gather_back _ _ hok, if_pos rfl, Ctr.wide_eq, ← BitVec.add_assoc]
    · rw [State.run_back, s.dev.gather_back _ _ hok, if_pos rfl]
    · rw [State.run_ctr, s.dev.gather_ctr _ _ hok, if_pos rfl]
    · rw [State.run_ctr, s.dev.gather_ctr _ _ hok, if_neg hk]
    · rw [State.run_back, s.dev.gather_back _ _ hok, if_neg hk]
  · refine ⟨_, exec_localCounterWrite s off v hb hoff hctr, ?_, ?_, ?_, fun k hk => ⟨?_, ?_⟩⟩
    · rw [State.run_ctr, Dev.writeCtr_ctr, if_pos rfl]
    · rw [State.run_back, Dev.writeCtr_back, if_pos rfl]
    · rw [State.run_back, State.run_ctr, Dev.writeCtr_back, Dev.writeCtr_ctr, if_pos rfl, if_pos rfl, Ctr.wide_eq, Ctr.wide_eq]
      exact moved_together _ _ _ _ _
    · rw [State.run_ctr, Dev.writeCtr_ctr, if_neg hk]
    · rw [State.run_back, Dev.writeCtr_back, if_neg hk]

end Sys2Proof.Machine
end

section
/-! SUPPORT. The bandwidth windows (R457, R458): the end of a window, and the read of TAL_WIN_SEQ that latches its results. -/
namespace Sys2Proof.Machine
open Sys2Proof

/-! ### The end of a window (R457) -/

/-- A window at its end: its counts are the results, and the next one starts at `next`. -/
def BwWin.endedAt (w : BwWin) (next : Nat) : BwWin := { w with last := w.cur, cur := {}, seq := w.seq + 1, start := next }

theorem BwWin.endedAt_latched (w : BwWin) (next : Nat) : (w.endedAt next).latched = w.latched := rfl

/-- A window at its end, with the next one where it ends. -/
def BwWin.ended (w : BwWin) : BwWin := w.endedAt (w.start + w.len)

/-- The payload of TAL_WINDOW for port `x`. -/
def BwWin.endPayload (w : BwWin) (x : Nat) : Bytes :=
  le 1 (x / 64) ++ le 1 (x % 64) ++ le 2 (w.seq + 1).toNat ++ le 4 w.cur.outB ++ le 4 w.cur.inB ++ le 4 w.ms

theorem Dev.windowEnd_of_disabled (d : Dev) (x : Nat) (h : (d.win x).en = false) : d.windowEnd x = d := if_pos (by rw [h]; rfl)

theorem Dev.windowEnd_of_enabled (d : Dev) (x : Nat) (h : (d.win x).en = true) : d.windowEnd x =
    if (d.win x).evt then (d.setWin x (d.win x).ended).emit 0x0C02 (srcOf 0xF 0) ((d.win x).endPayload x) else d.setWin x (d.win x).ended :=
  if_neg (by rw [h]; decide)

theorem Dev.windowEnd_win (d : Dev) (x k : Nat) (h : (d.win x).en = true) :
    (d.windowEnd x).win k = if k = x then (d.win x).ended else d.win k := by
  rw [d.windowEnd_of_enabled x h, ← d.setWin_get]
  split <;> rfl

/-- TAL_WINDOW is raised with EVT set. -/
theorem State.run_windowEnd_raises (s : State) {x : Nat} (ho : s.Open) (hen : (s.dev.win x).en = true) (hevt : (s.dev.win x).evt = true) :
    s.Raises (s.run (s.dev.windowEnd x)) 0x0C02 (srcOf 0xF 0) ((s.dev.win x).endPayload x) := by
  rw [s.dev.windowEnd_of_enabled x hen, if_pos hevt]
  exact (s.run_emit ho (s.dev.setWin x (s.dev.win x).ended) _ _ _ rfl rfl rfl).1

theorem State.run_windowEnd_bank (s : State) {x : Nat} (hs : s.Settled) (hen : (s.dev.win x).en = true) (hevt : (s.dev.win x).evt = false) :
    (s.run (s.dev.windowEnd x)).bank = s.bank := by
  rw [s.dev.windowEnd_of_enabled x hen, if_neg (ne_true_of_eq_false hevt), s.run_silent hs (s.dev.setWin x (s.dev.win x).ended) rfl rfl]

/-- What the registers of a window but WIN_SEQ and WIN_CTRL show is what was latched. -/
theorem Dev.winReg_latched (d e : Dev) (x : Nat) (h : (e.win x).latched = (d.win x).latched) :
    ∀ o ∈ [0x08, 0x0C, 0x10, 0x14, 0x18, 0x1C], e.winReg x o = d.winReg x o := by
  simp only [List.forall_mem_cons, List.not_mem_nil, false_imp_iff, implies_true, and_true, Dev.winReg, h]

/-! ### TAL_WIN_SEQ (R458) -/

/-- The tally block holds no counter. -/
theorem isCtrReg_tally (v : Variant) (off : Nat) (h : off / 0x10000 = 9) : isCtrReg v off = false := by
  refine List.any_eq_false.2 fun b hm => Bool.eq_false_iff.1 (b.holds_eq_false v off ?_)
  revert b
  simp only [ctrBlocks, hubCtrs, dieCtrs, List.forall_mem_append, List.forall_mem_cons, List.not_mem_nil, false_imp_iff, implies_true, and_true]
  and_intros <;> omega

/-- The variant carries the port of window `x`: tree port `x`, or uplink port `x - 64`. -/
def Variant.hasWindow (v : Variant) (x : Nat) : Bool := if x < 64 then v.hasPort x else v.hasLane (x - 64)

theorem Dev.talReg_winSeq (d : Dev) (x : Fin 96) (hx : d.variant.hasWindow x = true) :
    d.talReg (0x1004 + 0x20 * x.val) = (d.win x).seq.toNat := by
  have hlt := x.isLt
  have hofs : (0x1004 + 0x20 * x.val) % 0x20 = 4 := by omega
  unfold Variant.hasWindow at hx
  unfold Dev.talReg
  split at hx
  next h =>
    have hport : (0x1004 + 0x20 * x.val - 0x1000) / 0x20 = x.val := by omega
    rw [if_pos (by omega), hport, if_pos hx, hofs]
    rfl
  next h =>
    have hlane : (0x1004 + 0x20 * x.val - 0x1800) / 0x20 = x.val - 64 := by omega
    have hwin : 64 + (x.val - 64) = x.val := by omega
    rw [if_neg (by omega), if_pos (by omega), hlane, if_pos hx, hofs, hwin]
    rfl

theorem Dev.regAt_winSeq (d : Dev) (b : Bank) (x : Fin 96) (hx : d.variant.hasWindow x = true) :
    d.regAt b (0x91004 + 0x20 * x.val) = (d.win x).seq.toNat := by
  have hlt := x.isLt
  have hblock : (0x91004 + 0x20 * x.val) / 0x10000 = 9 := by omega
  have hofs : (0x91004 + 0x20 * x.val) % 0x10000 = 0x1004 + 0x20 * x.val := by omega
  rw [Dev.regAt, if_pos (by omega), isCtrReg_tally _ _ hblock, if_neg Bool.false_ne_true, Dev.hubAt, hblock, hofs]
  exact d.talReg_winSeq x hx

theorem Dev.readEffect_winSeq (d : Dev) (x : Fin 96) (hb : d.board.bootDone = true) (hx : d.variant.hasWindow x = true) :
    d.readEffect (0x91004 + 0x20 * x.val) = d.winSeqRead x := by
  have hlt := x.isLt
  have hwin : (0x91004 + 0x20 * x.val - 0x91000) / 0x20 = x.val := by omega
  rw [Dev.readEffect, hb, if_neg (by decide), if_neg (by omega), if_pos (by omega), hwin]
  exact if_pos hx

/-- Once the start-up is done a read of TAL_WIN_SEQ returns SEQ and latches the results (R458). -/
theorem Dev.readBack_winSeq (d : Dev) (b : Bank) (x : Fin 96) (hr : d.board.resetN = false) (hb : d.board.bootDone = true)
    (hx : d.variant.hasWindow x = true) :
    d.readBack b (0x91004 + 0x20 * x.val) = (d.winSeqRead x).send (.readData false (d.win x).seq) := by
  have hval : d.regRead b (0x91004 + 0x20 * x.val) = (d.win x).seq.toNat := by
    rw [Dev.regRead, if_neg (ne_true_of_eq_false hr), hb, if_pos (by simp), d.regAt_winSeq b x hx]
  rw [Dev.readBack, Dev.hostRead, hval, d.readEffect_winSeq x hb hx]
  exact congrArg (fun v => (d.winSeqRead x).send (.readData false v)) (BitVec.ofNat_toNat 32 _ |>.trans (BitVec.setWidth_eq _))

/-- What the read leaves of the windows. -/
theorem Dev.winSeqRead_win (d : Dev) (x k : Nat) :
    (d.winSeqRead x).win k = if k = x then { d.win x with latched := (d.win x).last } else d.win k := d.setWin_get x _ k

theorem Dev.winReg_results (d : Dev) (x : Nat) : let r := (d.win x).latched
    d.winReg x 0x08 = r.outB % 2 ^ 32 ∧ d.winReg x 0x10 = r.inB % 2 ^ 32 ∧ d.winReg x 0x18 = r.outF % 2 ^ 32 ∧
      d.winReg x 0x1C = r.inF % 2 ^ 32 := ⟨rfl, rfl, rfl, rfl⟩

/-! ### WINDOW_END and TAL_WIN_SEQ_READ -/

section
variable {s : State} {x : Fin 96} (hr : s.dev.board.resetN = false) (hx : s.dev.variant.hasWindow x = true)
include hr hx

theorem exec_windowEnd : exec (.windowEnd x) s = .next (s.run (s.dev.windowEnd x)) := by
  have hrow : exec (.windowEnd x) s = s.atWindow x.val fun d => d.windowEnd x := rfl
  have hmet := s.atWindow_eq x.val fun d => d.windowEnd x
  rw [if_pos ⟨hr, hx⟩] at hmet
  exact hrow.trans hmet

theorem exec_talWinSeqRead (hs : s.Settled) (hb : s.dev.board.bootDone = true) : exec (.talWinSeqRead x) s =
    .next { s with dev := (s.dev.winSeqRead x).send (.readData false (s.dev.win x).seq) } := by
  have hrow : exec (.talWinSeqRead x) s = s.event fun d => d.readBack s.bank (0x91004 + 0x20 * x.val) := rfl
  rw [hrow, s.event_on _ hr, s.dev.readBack_winSeq s.bank x hr hb hx]
  exact congrArg _ (s.run_silent hs _ rfl rfl)

end

/-- Settles O60: the end of a window writes its results and not what is latched; the read of TAL_WIN_SEQ alone writes the latch. -/
theorem bandwidthWindows : Obligations.BandwidthWindows := by
  intro s x ho hr hx w
  refine ⟨fun hen => ⟨s, ?_, rfl⟩, fun hen => ?_, fun hb => ?_⟩
  · rw [exec_windowEnd hr hx, s.dev.windowEnd_of_disabled x hen, s.run_self ho.settled]
  · have hwin (k : Nat) := (s.run_win (s.dev.windowEnd x) k).trans (s.dev.windowEnd_win x k hen)
    have hself : _ = w.ended := (hwin x).trans (if_pos rfl)
    exact ⟨_, exec_windowEnd hr hx, fun k hk => (hwin k).trans (if_neg hk), hself,
      s.dev.winReg_latched _ x ((congrArg BwWin.latched hself).trans (w.endedAt_latched _)), s.run_windowEnd_raises ho hen,
      s.run_windowEnd_bank ho.settled hen⟩
  · have hself := (s.dev.winSeqRead_win x x).trans (if_pos rfl)
    have hregs := (s.dev.winSeqRead x).winReg_results x
    rw [hself] at hregs
    exact ⟨_, exec_talWinSeqRead hr hx ho.settled hb, hself, fun k hk => (s.dev.winSeqRead_win x k).trans (if_neg hk), rfl, hregs⟩

end Sys2Proof.Machine
end

section
/-! SUPPORT. The package held in reset (R465, R486): how each command meets it. -/
namespace Sys2Proof.Machine
open Sys2Proof

/-- Settles O21: a step is the command at the front. -/
theorem stepTakesTheFront : Obligations.StepTakesTheFront := by
  intro c rest s h
  rw [step, h]

/-! ### How each command meets the package -/

/-- The commands that reach the package whatever RESET_N holds: its balls, the boundary scan, the write of the ledger. -/
inductive Instr.OfBoard : Instr → Prop
  | resetNAssert : OfBoard .resetNAssert
  | resetNDeassert (straps : BitVec 3) : OfBoard (.resetNDeassert straps)
  | powerRailChange (rail : Rail) (up : Bool) : OfBoard (.powerRailChange rail up)
  | fenceInAssert : OfBoard .fenceInAssert
  | fenceInDeassert : OfBoard .fenceInDeassert
  | tckEdge (tms tdi : Bool) : OfBoard (.tckEdge tms tdi)
  | ledgerWrite : OfBoard .ledgerWrite

/-- A command is an event of the package with some effect `d`, a host command, an Oliol instruction or one of the board. -/
inductive State.Meeting (s : State) (i : Instr) : Host.Outcome State Fault Refusal → Prop
  | event (d : Dev) : s.Meeting i (s.next (if s.dev.board.resetN then s.dev else d))
  | host (c : Tag) (obj : Word) (h : HostCmd) : s.Meeting i (s.host i c obj h)
  | oliol (w : Fin 80) (r : Option Dev) : s.Meeting i (s.oliol w i r)
  | board (o : Host.Outcome State Fault Refusal) (h : Instr.OfBoard i) : s.Meeting i o

theorem exec_meets (i : Instr) (s : State) : s.Meeting i (exec i s) := by
  cases i
  case resetNAssert | resetNDeassert | powerRailChange | fenceInAssert | fenceInDeassert | tckEdge | ledgerWrite =>
    exact .board _ (by constructor)
  -- Table 2-7
  case nop | waitTime | waitEvent | readReg | writeReg | readState | resetScope | treeEnable | treeDisable | treeLaneSet | treeProfileSet |
    treeKeyLoad | treeKeySwitch | treeBcastKeyLoad | treePloamSend | treeModuleI2c | rngDiscover | rngTerminalAdd | rngTerminalRemove |
    rngTrunkSet | rngTrunkConfirm | wndImageLoad | wndSwap | wndAllocWrite | wndAllocRemove | wndWitnessSet | upsFlowSet | upsPolicerSet |
    clsRulesLoad | clsRulesSwap | clsDefaultSet | clsIndirWrite | tblWrite | tblDelete | tblDomainFlush | tblLpmLoad | tblHolddownSet |
    dtmNodeSet | dtmShaperSet | dtmWatchSet | dtmPartitionSet | ulkLaneEnable | ulkLaneDisable | ulkPortSet | ulkBitslip | ulkGateList |
    ulkPauseSet | matPairJoin | matRoleSet | matDarkRelease | todStep | todSteer | todTrigSet | memThaw | memRetire | memRowRepair |
    memScrubSet | talSnapshot | talWindowSet | talProfileStart | talProfileStop => exact .host _ _ _
  -- Tables 6-5 and 7-1
  case add | sub | andR | orR | xorR | shl | shr | sar | mul | mulhu | minu | maxu | slt | sltu | subsat | mfs | addi | andi | ori | xori | lui |
    shli | shri | sari | rori | slti | sltiu | ldw | stw | ldv | stv | lda | sta | ldav | ldag | beq | bne | blt | bge | bltu | bgeu | jal
    | jalr | loopR | loopi | vadd | vsub | vand | vor | vxor | vshl | vshr | vsar | vmul | vmulhu | vminu | vmaxu | vsubsat | vceq | vcne
    | vcltu | vclt | vcgeu | vcge | vsel | vrsum | vrminu | vrmaxu | vrmini | vrmaxi | vbc | vidx | vins | vext | pand | por | pxor |
    pandn | pset | pfirst | pcnt | ptog | pfromg | wait | sample | halt | vft | vtnow | vtadv | vtset | vtshift | calins | calpop | calcnt
    | rptget | rptcnt | grant | rngwin | rngtail | precut | sealMap => exact .oliol _ _
  all_goals exact .event _

/-! ### What changes nothing -/

section
variable {s : State} (hs : s.Settled)
include hs

/-- Before BOOT_DONE the device accepts no host command (R466). -/
theorem State.host_unbooted (hb : s.dev.board.bootDone = false) (i : Instr) (c : Tag) (obj : Word) (h : HostCmd) :
    s.host i c obj h = .next s := by
  have hstart : s.dev.start s.bank i c obj h = s.dev := if_pos (by rw [hb]; rfl)
  rw [State.host, hstart, State.next, s.run_self hs]

/-- An Oliol instruction does nothing on a winder that runs no program and awaits none of its own. -/
theorem State.oliol_stopped {w : Fin 80} (hrun : (s.dev.winder w).running = false) (hlate : (s.dev.winder w).late = false) (i : Instr)
    (r : Option Dev) : s.oliol w i r = .next s := by
  have hrow : s.dev.atRow w i = false := by rw [Dev.atRow, hrun, Bool.and_false, Bool.false_and]
  have hnone : s.dev.lateRow w i = s.dev := if_neg (by rw [hlate]; simp)
  rw [State.oliol, Dev.oliol, hrow, hnone, State.next]
  exact congrArg _ (s.run_self hs)

end

/-- Settles O26: what is not a command of the board is an event, which RESET_N holds, a host command before BOOT_DONE, or an instruction of a
winder that runs no program. -/
theorem resetHoldsThePackage : Obligations.ResetHoldsThePackage := by
  intro i s hs hr hb hidle hassert hdeassert hrail hfence hunfence htck hledger
  have hmeets := exec_meets i s
  generalize exec i s = o at hmeets
  cases hmeets with
  | event d => rw [if_pos hr, State.next, s.run_self hs]
  | host c obj h => exact State.host_unbooted hs hb i c obj h
  | oliol w r => exact State.oliol_stopped hs (hidle w).1 (hidle w).2 i r
  | board o hboard =>
    cases hboard with
    | resetNAssert => exact absurd rfl hassert
    | resetNDeassert straps => exact absurd rfl (hdeassert straps)
    | powerRailChange rail up => exact absurd rfl (hrail rail up)
    | fenceInAssert => exact absurd rfl hfence
    | fenceInDeassert => exact absurd rfl hunfence
    | tckEdge tms tdi => exact absurd rfl (htck tms tdi)
    | ledgerWrite => exact absurd rfl hledger

end Sys2Proof.Machine
end

section
/-! SUPPORT. Before BOOT_DONE (R466): what reads of BAR0 return, and the writes that are ignored. -/
namespace Sys2Proof.Machine
open Sys2Proof

/-! ### Reads -/

theorem Dev.regRead_unbooted (d : Dev) (b : Bank) (hb : d.board.bootDone = false) (off : Nat) (h0 : off ≠ 0) (h4 : off ≠ 4) (h8 : off ≠ 8) :
    d.regRead b off = 0 := by
  have hclosed : ¬(d.board.bootDone || off == 0 || off == 4 || off == 8) = true := by simp [hb, h0, h4, h8]
  rw [Dev.regRead, if_neg hclosed, ite_self]

/-- HUB_ID, HUB_UNIT_PRESENT and HUB_BOOT_STATUS are read at any time out of reset. -/
theorem Dev.regRead_early (d : Dev) (b : Bank) (hr : d.board.resetN = false) (off : Nat) (h : off = 0 ∨ off = 4 ∨ off = 8) :
    d.regRead b off = d.hubReg off := by
  have hopen : (d.board.bootDone || off == 0 || off == 4 || off == 8) = true := by rcases h with rfl | rfl | rfl <;> simp
  have hplain : plainHubReg off := by unfold plainHubReg; omega
  have hblock : off / 0x10000 = 0 := by omega
  have hofs : off % 0x10000 = off := by omega
  rw [Dev.regRead, if_neg (ne_true_of_eq_false hr), if_pos hopen, Dev.regAt, if_pos (by omega), isCtrReg_hub _ _ hplain,
    if_neg Bool.false_ne_true, Dev.hubAt, hblock, hofs]
  rfl

/-! ### Writes -/

/-- An event that leaves the device as it is changes nothing. -/
theorem State.exec_ignored (s : State) (hs : s.Settled) {i : Instr} {d : Dev} (hrow : exec i s = s.next (if s.dev.board.resetN then s.dev else d))
    (hd : d = s.dev) : exec i s = .next s := by
  rw [hrow, hd, ite_self, State.next, s.run_self hs]

section
variable (d : Dev) (hb : d.board.bootDone = false)
include hb

theorem Dev.regWrite_unbooted (off : Nat) (v : Word) : d.regWrite off v = d := if_pos (by rw [hb]; simp)

theorem Dev.anyWrite_unbooted (off : Nat) (v : Word) : d.anyWrite off v = d := by
  have hloose : d.looseWrite off = d := if_pos (by rw [hb]; simp)
  rw [Dev.anyWrite, d.regWrite_unbooted hb, hloose, ite_self]

theorem Dev.ctrWrite_unbooted (off : Nat) (v : Word) : d.ctrWrite off v = d := by
  rw [Dev.ctrWrite, d.regWrite_unbooted hb, ite_self]

/-- BAR2 is closed. -/
theorem Dev.not_open2_unbooted : (!d.open2) = true := by rw [Dev.open2, hb, Bool.and_false, Bool.not_false]

end

/-- Settles O45: the registers that are read early are named in `regRead`, and a write is ignored in BAR0 by `regWrite`, in BAR2 because it is
closed. -/
theorem nothingBeforeBootDone : Obligations.NothingBeforeBootDone := by
  intro s hs hb
  have hwrite := s.dev.regWrite_unbooted hb
  have hclosed := s.dev.not_open2_unbooted hb
  have ignored {i : Instr} {d : Dev} := s.exec_ignored hs (i := i) (d := d)
  refine ⟨s.dev.regRead_unbooted s.bank hb, fun hr => ?_, fun off v => ?_, fun p term b off v reg ring r8 r16 => ?_⟩
  · have hread := s.dev.regRead_early s.bank hr
    exact ⟨hread 0 (by decide), hread 4 (by decide), hread 8 (by decide)⟩
  · exact ignored rfl (s.dev.anyWrite_unbooted hb _ _)
  · simp only [List.forall_mem_cons, List.not_mem_nil, false_imp_iff, implies_true, and_true]
    exact ⟨ignored rfl (hwrite _ _), ignored rfl (hwrite _ _), ignored rfl (hwrite _ _), ignored rfl (hwrite _ _),
      ignored rfl (hwrite _ _), ignored rfl (s.dev.ctrWrite_unbooted hb _ _), ignored rfl (hwrite _ _), ignored rfl (hwrite _ _),
      ignored rfl (if_pos hclosed), ignored rfl (if_pos hclosed), ignored rfl (if_pos hclosed), ignored rfl (if_pos hclosed),
      ignored rfl (if_pos hclosed), ignored rfl (if_pos hclosed), ignored rfl (if_pos hclosed), ignored rfl (if_pos hclosed)⟩

end Sys2Proof.Machine
end

section
/-! SUPPORT. The state after reset (R16, R465), and the commands of the board: RESET_N, the rails, the boundary scan, the write of the ledger
(R446, R484 to R488, Table 18-17). -/
namespace Sys2Proof.Machine
open Sys2Proof

/-! ### The state after reset -/

theorem State.reset_settled : State.reset.Settled := ⟨rfl, rfl, rfl, fun _ _ h => nomatch h⟩

/-- Every tree port reads from the first half of its image memory. -/
theorem State.reset_winderReg_progBase (w : Nat) : State.reset.dev.winderReg w 0 = 0 := by
  refine if_neg ?_
  rw [Option.any_eq_true]
  rintro ⟨p, _, h⟩
  exact Bool.false_ne_true h

/-- Of the five winders of a cluster the last is the spare (Table 5-11). -/
theorem State.reset_winderReg_status (w : Nat) :
    State.reset.dev.winderReg w 4 = if w % 5 = 4 then 0 else 1 + 256 * (4 * (w / 5) + w % 5) := by
  have hw : State.reset.dev.winderReg w 4 = (Winder.dflt w).st + 2 ^ 8 * (Winder.dflt w).port + 2 ^ 16 * (Winder.dflt w).cause := rfl
  rw [hw, Winder.dflt]
  by_cases h : w % 5 = 4
  · rw [if_neg (by omega), if_pos h]
    rfl
  · rw [if_pos (by omega), if_neg h]
    rfl

/-- So too of the LDPC decoders (Table 8-8). -/
theorem State.reset_decReg (n : Nat) : State.reset.dev.decReg n 0 = if n % 5 = 4 then 0 else 1 := by
  have hn : State.reset.dev.decReg n 0 = (Decoder.dflt n).st + 2 ^ 8 * (Decoder.dflt n).cause := rfl
  rw [hn, Decoder.dflt]
  by_cases h : n % 5 = 4
  · rw [if_neg (by omega), if_pos h]
    rfl
  · rw [if_pos (by omega), if_neg h]
    rfl

/-- Settles O25: every unit reads as an unlisted one, whose registers hold the reset values of the tables. -/
theorem resetValues : Obligations.ResetValues := by
  refine ⟨State.reset_settled, rfl, rfl, rfl, fun p => ?_, fun w _ => ⟨State.reset_winderReg_progBase w, State.reset_winderReg_status w⟩,
    State.reset_decReg, fun _ => rfl, fun _ => ⟨rfl, rfl, rfl⟩, ?_⟩
  · and_intros <;> rfl
  · and_intros <;> rfl

/-! ### Commands of the board (Table 18-17) -/

theorem State.boardEvent_next (s : State) {f : Dev → Option Dev} {d : Dev} (h : f s.dev = some d) : s.boardEvent f = .next (s.run d) := by
  rw [State.boardEvent, h]
  rfl

theorem State.boardEvent_mistake (s : State) {f : Dev → Option Dev} (h : f s.dev = none) : s.boardEvent f = .fault .boardMistake := by
  rw [State.boardEvent, h]

section
variable (d : Dev) (straps : BitVec 3)

/-- RESET_N rises with every rail up and TEST low. -/
theorem Dev.resetDeassert_eq (hr : d.board.resetN = true) (hrails : d.railsTo 5 = true) (htest : straps.getLsbD 2 = false) :
    d.resetDeassert straps = some { d with board := { d.board with resetN := false, since := d.now, straps := straps } } := by
  rw [Dev.resetDeassert, hr, hrails, htest]
  rfl

theorem Dev.resetDeassert_mistake (hr : d.board.resetN = true) (h : d.railsTo 5 = false ∨ straps.getLsbD 2 = true) :
    d.resetDeassert straps = none := by
  rw [Dev.resetDeassert, hr, if_neg (by decide), if_pos]
  rcases h with h | h <;> rw [h] <;> simp

theorem Dev.resetDeassert_again (hr : d.board.resetN = false) : d.resetDeassert straps = some d := if_pos (by rw [hr]; rfl)

end

section
variable (d : Dev) (r : Rail)

theorem Dev.railChange_same (up : Bool) (h : d.board.rails.contains r = up) : d.railChange r up = some d := by
  subst h
  rw [Dev.railChange]
  cases d.board.rails.contains r <;> rfl

/-- A rail that falls takes the package's state with it, all but the ledger. -/
theorem Dev.railChange_fall (h : d.board.rails.contains r = true) : d.railChange r false =
    some (d.packageReset.modBoard fun b => { b with rails := b.rails.filter fun x => x != r, tap := {} }) := by
  rw [Dev.railChange, h]
  rfl

/-- A rail that rises in its turn. -/
theorem Dev.railChange_rise (h : d.board.rails.contains r = false) (hr : d.board.resetN = true) (hrails : d.railsTo (railStep r - 1) = true) :
    d.railChange r true = some (d.modBoard fun b => { b with rails := b.rails ++ [r] }) := by
  rw [Dev.railChange, h, hr, hrails]
  rfl

theorem Dev.railChange_mistake (h : d.board.rails.contains r = false) (hbad : d.board.resetN = false ∨ d.railsTo (railStep r - 1) = false) :
    d.railChange r true = none := by
  rw [Dev.railChange, if_pos rfl, if_neg (by rw [h]; decide), if_pos]
  rcases hbad with hbad | hbad <;> rw [hbad] <;> simp

end

/-- Settles O39: the five commands reach the package whatever RESET_N holds, and Table 18-17 is followed case by case. -/
theorem ballEvents : Obligations.BallEvents := by
  intro s straps rail tms tdi
  have hreset : exec (.resetNDeassert straps) s = s.boardEvent fun d => d.resetDeassert straps := rfl
  have hrail (up : Bool) : exec (.powerRailChange rail up) s = s.boardEvent fun d => d.railChange rail up := rfl
  refine ⟨rfl, rfl, rfl, fun hr hrails htest => ?_, fun hr hbad => ?_, fun hr => ?_, fun h => ?_, fun h hr hrails => ?_, fun h hbad => ?_,
    fun up h => ?_⟩
  · exact hreset.trans (s.boardEvent_next (s.dev.resetDeassert_eq straps hr hrails htest))
  · exact hreset.trans (s.boardEvent_mistake (s.dev.resetDeassert_mistake straps hr hbad))
  · exact hreset.trans (s.boardEvent_next (s.dev.resetDeassert_again straps hr))
  · exact (hrail false).trans (s.boardEvent_next (s.dev.railChange_fall rail h))
  · exact (hrail true).trans (s.boardEvent_next (s.dev.railChange_rise rail h hr hrails))
  · exact (hrail true).trans (s.boardEvent_mistake (s.dev.railChange_mistake rail h hbad))
  · exact (hrail up).trans (s.boardEvent_next (s.dev.railChange_same rail up h))

end Sys2Proof.Machine
end

section
/-! SUPPORT. What every step keeps (R66): the events that wait for the event ring stay numbered without a gap, whatever is asked of the banksman;
and of the commands only two of the board can stop. -/
namespace Sys2Proof.Machine
open Sys2Proof

/-! ### The order of the backlog (R66) -/

theorem Bank.inOrder_of_eq {b b' : Bank} (h : b.inOrder) (hl : b'.backlog = b.backlog) (hs : b'.seq = b.seq) : b'.inOrder := by
  unfold Bank.inOrder
  rw [hl, hs]
  exact h

/-- An accepted event takes the next sequence number, at the tail. -/
theorem Bank.sequence_inOrder {b : Bank} (h : b.inOrder) (typ src : Nat) (u : Bool) (time : Dword) (pl : Bytes) :
    (b.sequence typ src u time pl).inOrder := by
  intro i e he
  show e.seq + BitVec.ofNat 32 ((b.backlog ++ [_]).length - i) = b.seq + 1
  rw [List.length_append, List.length_singleton]
  rcases Nat.lt_trichotomy i b.backlog.length with hi | hi | hi
  · have hold := h i e ((List.getElem?_append_left hi).symm.trans he)
    rw [show b.backlog.length + 1 - i = b.backlog.length - i + 1 by omega, BitVec.ofNat_add, ← BitVec.add_assoc, hold]
    rfl
  · subst hi
    have hnew : e = ⟨b.seq, typ, src, u, eventBytes b.seq typ src time pl⟩ :=
      (Option.some.inj ((List.getElem?_concat_length).symm.trans he)).symm
    rw [hnew, Nat.add_sub_cancel_left]
    rfl
  · rw [show (b.sequence typ src u time pl).backlog = b.backlog ++ [_] from rfl, List.getElem?_eq_none] at he
    · cases he
    · rw [List.length_append, List.length_singleton]
      omega

theorem Bank.flushLost_inOrder {b : Bank} (h : b.inOrder) (time : Dword) : (b.flushLost time).inOrder := by
  unfold Bank.flushLost
  split
  · exact h
  · split
    · exact h
    · exact sequence_inOrder h _ _ _ _ _

theorem Bank.offer_inOrder {b : Bank} (h : b.inOrder) (typ src : Nat) (pl : Bytes) (time : Dword) : (b.offer typ src pl time).inOrder := by
  unfold Bank.offer
  split
  · exact h
  · exact sequence_inOrder (flushLost_inOrder h time) _ _ _ _ _

theorem Bank.offerDone_inOrder {b : Bank} (h : b.inOrder) (x : Done) : (b.offerDone x).inOrder := by
  unfold Bank.offerDone
  dsimp only
  split
  · exact flushLost_inOrder h x.time
  · exact sequence_inOrder (flushLost_inOrder h x.time) _ _ _ _ _

theorem Bank.drain_inOrder (time : Dword) : ∀ (l : List Done) {b : Bank}, b.inOrder → (Bank.drain time l b).inOrder
  | [], b, h => by
    show (b.flushDue time).inOrder
    unfold Bank.flushDue
    split
    · exact flushLost_inOrder h time
    · exact h
  | x :: xs, b, h => by
    unfold Bank.drain
    dsimp only
    split
    · exact flushLost_inOrder h time
    · exact Bank.drain_inOrder time xs (sequence_inOrder (flushLost_inOrder h time) _ _ _ _ _)

theorem Bank.count0Step_keeps (b : Bank) : b.count0Step.backlog = b.backlog ∧ b.count0Step.seq = b.seq := by
  unfold Bank.count0Step
  split <;> exact ⟨rfl, rfl⟩

/-- The oldest event leaves the backlog for the ring; those behind it move up. -/
theorem Bank.ringWrite_inOrder {b : Bank} (h : b.inOrder) : b.ringWrite.1.inOrder := by
  unfold Bank.ringWrite
  split
  · exact h
  · next e es hb =>
    have htail : ({ b with backlog := es, wptr := (b.wptr + 1) % b.entries } : Bank).inOrder := by
      intro i x hx
      have := h (i + 1) x (by rw [hb]; exact hx)
      rwa [hb, List.length_cons, Nat.add_sub_add_right] at this
    obtain ⟨hl, hs⟩ := Bank.count0Step_keeps { b with backlog := es, wptr := (b.wptr + 1) % b.entries }
    split
    · exact h
    · dsimp only
      split <;> exact Bank.inOrder_of_eq htail hl hs

theorem Bank.timerStep_keeps (b : Bank) (vec timeUs : Nat) :
    (b.timerStep vec timeUs).backlog = b.backlog ∧ (b.timerStep vec timeUs).seq = b.seq := by
  unfold Bank.timerStep
  split <;> split <;> exact ⟨rfl, rfl⟩

theorem Bank.countFrame_keeps (b : Bank) (vec count : Nat) :
    (b.countFrame vec count).backlog = b.backlog ∧ (b.countFrame vec count).seq = b.seq := by
  unfold Bank.countFrame
  dsimp only
  split <;> exact ⟨rfl, rfl⟩

theorem Bank.setEn_keeps (b : Bank) (en : Bool) : (b.setEn en).backlog = b.backlog ∧ (b.setEn en).seq = b.seq := by
  unfold Bank.setEn
  split <;> exact ⟨rfl, rfl⟩

theorem Bank.setReg_keeps (b : Bank) (off v : Nat) : (b.setReg off v).backlog = b.backlog ∧ (b.setReg off v).seq = b.seq := by
  unfold Bank.setReg
  split
  iterate 3 (split <;> exact ⟨rfl, rfl⟩)
  · exact ⟨rfl, rfl⟩
  · exact ⟨rfl, rfl⟩

/-- Every request keeps the order: it accepts events, takes the oldest one out, or leaves the backlog alone; a reset empties it. -/
theorem BankOp.apply_inOrder (op : BankOp) {b : Bank} (h : b.inOrder) : (op.apply b).1.inOrder := by
  cases op with
  | event typ src pl time => exact Bank.offer_inOrder h typ src pl time
  | done x => exact Bank.offerDone_inOrder h x
  | evtDoorbell v time => exact Bank.drain_inOrder time _ (Bank.inOrder_of_eq h rfl rfl)
  | ringWrite => exact Bank.ringWrite_inOrder h
  | lostFlush time => exact Bank.flushLost_inOrder h time
  | timer vec timeUs => exact Bank.inOrder_of_eq h (b.timerStep_keeps vec timeUs).1 (b.timerStep_keeps vec timeUs).2
  | frameDone vec count => exact Bank.inOrder_of_eq h (b.countFrame_keeps vec count).1 (b.countFrame_keeps vec count).2
  | spoilRing rptr wptr => exact Bank.inOrder_of_eq h rfl rfl
  | setEn en time => exact Bank.drain_inOrder time _ (Bank.inOrder_of_eq h (b.setEn_keeps en).1 (b.setEn_keeps en).2)
  | setReg off v => exact Bank.inOrder_of_eq h (b.setReg_keeps off v).1 (b.setReg_keeps off v).2
  | pcieReset => exact h
  | reset => exact fun _ _ he => nomatch he

theorem State.deliver_inOrder : ∀ (n : Nat) (s : State), s.bank.inOrder → (s.deliver n).bank.inOrder
  | 0, _, h => h
  | n + 1, s, h => by
    unfold State.deliver
    split
    · exact h
    · exact State.deliver_inOrder n _ (BankOp.apply_inOrder _ h)

/-- What ends every command leaves a settled state, whatever the command did to the device. -/
theorem State.run_settled (s : State) (d : Dev) (hm : Memory.wf s.mem) (ho : s.bank.inOrder) : (s.run d).Settled :=
  ⟨s.run_mem d hm, s.run_outbox d, s.run_dma d, State.deliver_inOrder _ _ ho⟩

theorem exec_settled {i : Instr} {s t : State} (hm : Memory.wf s.mem) (ho : s.bank.inOrder) (h : exec i s = .next t) : t.Settled := by
  obtain ⟨d, rfl⟩ := exec_run h
  exact s.run_settled d hm ho

theorem Dev.cycle_requests (d : Dev) : d.cycle.outbox = d.outbox ∧ d.cycle.dma = d.dma := by
  rw [d.cycle_frame]
  exact ⟨rfl, rfl⟩

/-- Settles O24: a step is a command, which ends in State.run, or one cycle of the time base, which moves device time alone. -/
theorem stepKeepsSettled : Obligations.StepKeepsSettled := by
  intro s t ⟨hm, ho, hd, hord⟩ h
  cases hp : s.pending with
  | cons c rest => exact exec_settled (s := { s with pending := rest }) hm hord (by rw [← h, step, hp])
  | nil =>
    rw [step_of_no_pending s hp, State.idle] at h
    split at h
    · obtain ⟨hco, hcd⟩ := s.dev.cycle_requests
      cases h
      exact ⟨hm, hco.trans ho, hcd.trans hd, hord⟩
    · next i _ => exact exec_settled (s := { s with dev := { s.dev with late := dropFirst (fun j => j == i) s.dev.late } }) hm hord h

/-! ### Commands that go on -/

/-- Two commands of the board alone do not end in State.run in every state. -/
theorem exec_goes_on (i : Instr) (s : State) (hr : ∀ straps, i ≠ .resetNDeassert straps) (hp : ∀ rail up, i ≠ .powerRailChange rail up) :
    ∃ d, exec i s = .next (s.run d) := by
  cases i
  case resetNDeassert straps => exact absurd rfl (hr straps)
  case powerRailChange rail up => exact absurd rfl (hp rail up)
  all_goals exact ⟨_, rfl⟩

/-- A command of the board goes on, or Table 18-17 calls its result unpredictable. -/
theorem State.boardEvent_cases (s : State) (f : Dev → Option Dev) :
    (∃ d, s.boardEvent f = .next (s.run d)) ∨ f s.dev = none ∧ s.boardEvent f = .fault .boardMistake := by
  cases h : f s.dev with
  | some d => exact .inl ⟨d, s.boardEvent_next h⟩
  | none => exact .inr ⟨rfl, s.boardEvent_mistake h⟩

/-- A rail that falls is bounded in every state. -/
theorem Dev.railChange_false (d : Dev) (r : Rail) : d.railChange r false ≠ none := by
  cases h : d.board.rails.contains r with
  | true => rw [d.railChange_fall r h]; exact Option.some_ne_none _
  | false => rw [d.railChange_same r false h]; exact Option.some_ne_none _

/-- Settles O23: State.run keeps the queue and leaves no request, and a board mistake is the one other end. -/
theorem commandsKeepTheQueue : Obligations.CommandsKeepTheQueue := by
  intro i s
  have hrun (d : Dev) : ∃ t, Host.Outcome.next (s.run d) = (.next t : Host.Outcome State Fault Refusal) ∧ t.pending = s.pending ∧
      t.dev.outbox = [] ∧ t.dev.dma = [] := ⟨_, rfl, s.run_pending d, s.run_outbox d, s.run_dma d⟩
  by_cases hr : ∃ straps, i = .resetNDeassert straps
  · obtain ⟨straps, rfl⟩ := hr
    rw [show exec (.resetNDeassert straps) s = s.boardEvent fun d => d.resetDeassert straps from rfl]
    rcases s.boardEvent_cases fun d => d.resetDeassert straps with ⟨d, hd⟩ | ⟨_, hf⟩
    · exact .inl (hd ▸ hrun d)
    · exact .inr ⟨hf, .inl ⟨straps, rfl⟩⟩
  by_cases hp : ∃ rail up, i = .powerRailChange rail up
  · obtain ⟨rail, up, rfl⟩ := hp
    rw [show exec (.powerRailChange rail up) s = s.boardEvent fun d => d.railChange rail up from rfl]
    rcases s.boardEvent_cases fun d => d.railChange rail up with ⟨d, hd⟩ | ⟨hn, hf⟩
    · exact .inl (hd ▸ hrun d)
    · cases up with
      | true => exact .inr ⟨hf, .inr ⟨rail, rfl⟩⟩
      | false => exact absurd hn (s.dev.railChange_false rail)
  · obtain ⟨d, hd⟩ := exec_goes_on i s (fun straps e => hr ⟨straps, e⟩) fun rail up e => hp ⟨rail, up, e⟩
    exact .inl (hd ▸ hrun d)

end Sys2Proof.Machine
end

section
/-! SUPPORT. Host commands that nothing keeps waiting (R57 to R60, R87): every row of Table 2-7 is the shared operation State.host, which says where the
command completes and what a mistake does. -/
namespace Sys2Proof.Machine
open Sys2Proof

/-- Every row of the list is the host command that stands beside it. -/
def State.HostRows (s : State) (c : Tag) (obj : Word) (l : List (Instr × HostCmd)) : Prop := ∀ r ∈ l, exec r.1 s = s.host r.1 c obj r.2

theorem State.hostRows_nil (s : State) (c : Tag) (obj : Word) : s.HostRows c obj [] := fun _ h => (List.not_mem_nil h).elim

theorem State.hostRows_cons_iff (s : State) (c : Tag) (obj : Word) (r : Instr × HostCmd) (l : List (Instr × HostCmd)) :
    s.HostRows c obj (r :: l) ↔ exec r.1 s = s.host r.1 c obj r.2 ∧ s.HostRows c obj l := List.forall_mem_cons

/-- Each of them takes effect at once when it is free, and completes with its mistake when that is in it. -/
theorem State.HostRows.ends {s : State} {c : Tag} {obj : Word} {l : List (Instr × HostCmd)} {e : Instr × HostCmd} (he : e ∈ l)
    (h : s.HostRows c obj l) :
    (s.Free e.1 c obj e.2 → exec e.1 s = .next (s.after e.1 c obj e.2)) ∧
    (s.Ready e.1 c obj e.2 → e.2.good = false → exec e.1 s = .next (s.afterMistake e.1 c obj e.2)) :=
  ⟨fun hf => (h e he).trans (s.host_free e.1 c obj e.2 hf), fun hr hg => (h e he).trans (s.host_mistaken e.1 c obj e.2 hr hg)⟩

/-- Settles O27: each row of chapters 02 and 03 is the host command of its name. -/
theorem streamAndTreeCommands : Obligations.StreamAndTreeCommands := by
  intro s c obj sec ns limit off value mask' len typ src mask count lanes mainGen compGen gflags slot keyIdx op addr' ofs len' addr sfc a key
    msg data e he
  refine State.HostRows.ends he ?_
  simp only [State.hostRows_cons_iff, State.hostRows_nil, and_true]
  and_intros <;> rfl

/-- Settles O28: so is each row of chapters 04, 05 and 08. -/
theorem rangingWinderUpstreamCommands : Obligations.RangingWinderUpstreamCommands := by
  intro s c obj lane profile rflags tflags sflags en gap fflags slot pflags window far period limit wireId term count hint tresp dly asymM
    asymC len cir cbs serial addr sfc rec e he
  refine State.HostRows.ends he ?_
  simp only [State.hostRows_cons_iff, State.hostRows_nil, and_true]
  and_intros <;> rfl

/-- Settles O29: so is each row of chapters 09 to 12. -/
theorem dataPathCommands : Obligations.DataPathCommands := by
  intro s c obj kind lflags dflags bucket sflags wflags part count'' addr first count src hold rate burst node depthTh delayTh res max
    action first' count' limit a a' a'' a''' e he
  refine State.HostRows.ends he ?_
  simp only [State.hostRows_cons_iff, State.hostRows_nil, and_true]
  and_intros <;> rfl

/-- Settles O30: so is each row of chapters 13 to 16. -/
theorem pairTimeMemoryTallyCommands : Obligations.PairTimeMemoryTallyCommands := by
  intro s c obj pkg mflags role mode sflags tflags dramH wflags active loc limit sramS winMs sec ns freq period width a a' e he
  refine State.HostRows.ends he ?_
  simp only [State.hostRows_cons_iff, State.hostRows_nil, and_true]
  and_intros <;> rfl

end Sys2Proof.Machine
end

section
/-! SUPPORT. The events of the rings, the data path, the board and the protection pairs: how each meets the package (R472, R486), and the
timeouts that come after every other command of their cycle (R69). -/
namespace Sys2Proof.Machine
open Sys2Proof

/-! ### Events of the package -/

theorem State.event_cases (s : State) (f : Dev → Dev) :
    (s.dev.board.resetN = false → s.event f = .next (s.run (f s.dev))) ∧
    (¬s.dev.board.resetN = false → s.event f = .next (s.run s.dev)) :=
  ⟨fun hr => s.event_on f hr, fun hr => s.event_held f (eq_true_of_ne_false hr)⟩

theorem any_true_of_ne_nil {α : Type} {l : List α} (h : l ≠ []) : l.any (fun _ => true) = true := by
  rw [any_true_eq_not_isEmpty, Bool.not_eq_true', List.isEmpty_eq_false_iff]
  exact h

/-- A timeout waits while any command of the cycle is left. -/
theorem State.timeout_late (s : State) (i : Instr) (f : Dev → Dev) (h : s.pending ≠ []) :
    s.timeout i f = s.event fun d => { d with late := d.late ++ [i] } := s.yielding_late _ i f (any_true_of_ne_nil h)

/-- A timeout `i` with effect `f`. -/
theorem State.timeout_cases (s : State) (i : Instr) (f : Dev → Dev) :
    (s.dev.board.resetN = false → s.pending = [] → s.timeout i f = .next (s.run (f s.dev))) ∧
    (s.dev.board.resetN = false → s.pending ≠ [] → s.timeout i f = .next (s.run { s.dev with late := s.dev.late ++ [i] })) ∧
    (¬s.dev.board.resetN = false → s.timeout i f = .next (s.run s.dev)) :=
  ⟨fun hr hp => (s.timeout_now i f hp).trans (s.event_on f hr), fun hr hp => (s.timeout_late i f hp).trans (s.event_on _ hr),
    s.yielding_held _ i f⟩

theorem State.atUplink_meets (s : State) (u : Nat) (f : Dev → Dev) : s.Meets (s.dev.variant.hasLane u) f (s.atUplink u f) :=
  s.atUplink_eq u f ▸ s.meets_of_eq _ f

theorem State.atLane_meets (s : State) (l : SerialLane) (f : Dev → Dev) : s.Meets (s.dev.variant.hasSLane (laneKey l)) f (s.atLane l f) :=
  s.atLane_eq l f ▸ s.meets_of_eq _ f

theorem State.protEvent_meets (s : State) (f : Dev → Dev) : s.Meets s.dev.variant.hasProt f (s.protEvent f) :=
  s.protEvent_eq f ▸ s.meets_of_eq _ f

theorem State.treeEvent_meets (s : State) (p : Nat) (f : Dev → Dev) :
    s.Meets (s.dev.variant.hasProt && s.dev.variant.hasPort p) f (s.treeEvent p f) :=
  s.treeEvent_eq p f ▸ s.meets_of_eq _ f

/-! ### Rings and reads with an effect -/

/-- A frame for a ring without a buffer, or behind such a frame, is looked at again after the commands of the cycle; any other is punted. -/
theorem exec_puntFrame (s : State) (r : Fin 16) (reason : Half) (ingress : Word) (data : Bytes) (stamp : Dword) :
    exec (.puntFrame r reason ingress data stamp) s = s.event fun d =>
      if s.pending ≠ [] ∧ (d.puntEmpty r = true ∨ d.late.any (puntTo r) = true) then
        { d with late := d.late ++ [.puntFrame r reason ingress data stamp] }
      else d.puntFrame s.mem r reason.toNat ingress.toNat data stamp := by
  show execPuntFrame r reason ingress data stamp s = _
  unfold execPuntFrame
  simp

/-- Settles O33: the rows are events of the package, of which two are timeouts and one is looked at again. -/
theorem ringAndReadEvents : Obligations.RingAndReadEvents := by
  intro s r8 r16 vec x reason ingress off v data stamp ofs bad there
  have hpunt := exec_puntFrame s r16 reason ingress data stamp
  obtain ⟨hpauseNow, hpauseLate, hpauseHeld⟩ := s.timeout_cases (.injectPauseTimeout r16) fun d => d.injTimeout r16.val
  obtain ⟨hwaitNow, hwaitLate, hwaitHeld⟩ := s.timeout_cases (.waitEventLimit r8) fun d => d.waitLimit r8
  refine ⟨fun e he => ?_, fun e he => ?_, fun hr hp i hi => ?_, fun hr hp => ?_⟩
  · have hrow : exec e.1 s = s.event e.2 := State.Rows.exec_eq he (by
      simp only [State.rows_cons_iff, State.rows_nil, and_true]
      and_intros <;> rfl)
    exact hrow ▸ s.event_cases e.2
  · simp only [List.mem_cons, List.not_mem_nil, or_false] at he
    rcases he with rfl | rfl | rfl
    · exact ⟨hpauseNow, hpauseHeld⟩
    · exact ⟨hwaitNow, hwaitHeld⟩
    · obtain ⟨hon, hoff⟩ := s.event_cases fun d =>
        if s.pending ≠ [] ∧ (d.puntEmpty r16 = true ∨ d.late.any (puntTo r16) = true) then
          { d with late := d.late ++ [.puntFrame r16 reason ingress data stamp] }
        else d.puntFrame s.mem r16 reason.toNat ingress.toNat data stamp
      refine ⟨fun hr hp => (hpunt.trans (hon hr)).trans ?_, fun hr => hpunt.trans (hoff hr)⟩
      rw [if_neg fun h => h.1 hp]
  · simp only [List.mem_cons, List.not_mem_nil, or_false] at hi
    rcases hi with rfl | rfl
    · exact hpauseLate hr hp
    · exact hwaitLate hr hp
  · refine (hpunt.trans (s.event_on _ hr)).trans ?_
    simp only [ne_eq, hp, not_false_eq_true, true_and]

/-! ### The data path (chapters 09 to 12) -/

/-- Settles O36: each row is the shared operation of its unit; two give way to other commands of their cycle. -/
theorem dataPathEvents : Obligations.DataPathEvents := by
  intro s f4 f2 table bucket mac dom slot h w u l data a b rx stamp q code there
  have hlearn : exec .learnApply s = s.yielding hostWrites .learnApply fun d => d.learnApply := rfl
  have hlimit : exec (.ulkEnableLimit u) s = s.timeout (.ulkEnableLimit u) fun d =>
      if d.variant.hasLane u = true then d.enableLimit u.val else d := rfl
  obtain ⟨hnow, hlate, hheld⟩ := s.timeout_cases (.ulkEnableLimit u) fun d =>
    if d.variant.hasLane u = true then d.enableLimit u.val else d
  refine ⟨fun e he => ?_, fun hr hp => ?_, fun hr hp => ?_, fun hr => ?_, fun e he => ?_, fun hr hp => hlimit.trans (hnow hr hp),
    fun hr hp => hlimit.trans (hlate hr hp), fun hr => hlimit.trans (hheld hr), fun e he => ?_⟩
  · have hrow : exec e.1 s = s.event e.2 := State.Rows.exec_eq he (by
      simp only [State.rows_cons_iff, State.rows_nil, and_true]
      and_intros <;> rfl)
    exact hrow ▸ s.event_cases e.2
  · exact hlearn.trans ((s.yielding_now _ _ _ hp).trans (s.event_on _ hr))
  · exact hlearn.trans ((s.yielding_late _ _ _ hp).trans (s.event_on _ hr))
  · exact hlearn.trans (s.yielding_held _ _ _ hr)
  · have hrow : exec e.1 s = s.atUplink u e.2 := State.Rows.exec_eq he (by
      simp only [State.rows_cons_iff, State.rows_nil, and_true]
      and_intros <;> rfl)
    exact hrow ▸ s.atUplink_meets u e.2
  · have hrow : exec e.1 s = s.atLane l e.2 := State.Rows.exec_eq he (by
      simp only [State.rows_cons_iff, State.rows_nil, and_true]
      and_intros <;> rfl)
    exact hrow ▸ s.atLane_meets l e.2

/-! ### Board, memory, counters and time (chapters 01 and 14 to 18) -/

/-- Settles O37: each row is an event of the package, the end of the pulse window a timeout, the end of a bandwidth window one of its port. -/
theorem boardMemoryTimeEvents : Obligations.BoardMemoryTimeEvents := by
  intro s st failed kind die lane f4 u s8 level temps loc mem raw err parity mr4 cmdNow word n1 n2 n3 n4 bad idx x unit msg a there
  refine ⟨fun e he => ?_, ?_, fun hr hup => ?_⟩
  · have hrow : exec e.1 s = s.event e.2 := State.Rows.exec_eq he (by
      simp only [State.rows_cons_iff, State.rows_nil, and_true]
      and_intros <;> rfl)
    exact hrow ▸ s.event_cases e.2
  · have hrow : exec .ppsWindowEnd s = s.timeout .ppsWindowEnd fun d => d.ppsWindowEnd := rfl
    obtain ⟨hnow, hlate, hheld⟩ := s.timeout_cases .ppsWindowEnd fun d => d.ppsWindowEnd
    rw [hrow]
    split
    · next hr =>
      split
      · next hp => exact hnow hr hp
      · next hp => exact hlate hr hp
    · next hr => exact hheld hr
  · have hrow : exec (.windowEnd x) s = s.atWindow x fun d => d.windowEnd x.val := rfl
    rw [hrow, s.atWindow_eq, if_pos ⟨hr, hup⟩]

/-! ### Protection pairs (chapter 13) -/

theorem Variant.hasProt_false_iff (v : Variant) : v.hasProt = false ↔ v = .skx6450n := by simp [Variant.hasProt]

/-- Settles O38: each row is an event of the protection unit or of a tree, and the timeouts are put off. -/
theorem protectionEvents : Obligations.ProtectionEvents := by
  intro s path msg a p m hr
  have hprot := s.dev.variant.hasProt_iff
  have hnone := s.dev.variant.hasProt_false_iff
  refine ⟨fun e he => ?_, fun e he => ?_, fun e he => ?_, ?_, ?_⟩
  · have hrow : exec e.1 s = s.protEvent e.2 := State.Rows.exec_eq he (by
      simp only [State.rows_cons_iff, State.rows_nil, and_true]
      and_intros <;> rfl)
    obtain ⟨hup, hno⟩ := s.protEvent_meets e.2
    exact hrow ▸ ⟨fun hv => hup hr (hprot.2 hv), fun hv => hno (.inr (hnone.2 hv))⟩
  · have hrow : exec e.1 s = s.treeEvent p e.2 := State.Rows.exec_eq he (by
      simp only [State.rows_cons_iff, State.rows_nil, and_true]
      and_intros <;> rfl)
    obtain ⟨hup, hno⟩ := s.treeEvent_meets p e.2
    refine hrow ▸ ⟨fun hv hp => hup hr (Bool.and_eq_true_iff.2 ⟨hprot.2 hv, hp⟩), fun h => hno (.inr ?_)⟩
    exact Bool.and_eq_false_iff.2 (h.imp_left hnone.2)
  · have hrow : exec e.1 s = s.timeout e.1 fun d => if s.dev.variant.hasProt && e.2.1 then e.2.2 d else d := by
      simp only [List.mem_cons, List.not_mem_nil, or_false] at he
      rcases he with rfl | rfl | rfl
      · rfl
      · rfl
      · rw [Bool.and_true]
        rfl
    obtain ⟨hnow, hlate, _⟩ := s.timeout_cases e.1 fun d => if s.dev.variant.hasProt && e.2.1 then e.2.2 d else d
    rw [hrow]
    refine ⟨fun hp hv hu => (hnow hr hp).trans ?_, fun hp h => (hnow hr hp).trans ?_, hlate hr⟩
    · rw [if_pos (Bool.and_eq_true_iff.2 ⟨hprot.2 hv, hu⟩)]
    · rw [if_neg (ne_true_of_eq_false (Bool.and_eq_false_iff.2 (h.imp_left hnone.2)))]
  · exact congrArg (fun d => Host.Outcome.next (s.run d)) (if_neg (ne_true_of_eq_false hr))
  · exact congrArg (fun d => Host.Outcome.next (s.run d)) (if_neg (ne_true_of_eq_false hr))

end Sys2Proof.Machine
end

section
/-! SUPPORT. Scalar instructions (R192, R203, R204): the functions of Tables 6-7 and 6-8 as arithmetic, and the one shape that an instruction has
which writes one register of its winder and nothing else. -/
namespace Sys2Proof.Machine
open Sys2Proof

/-! ### Instructions that write one register -/

section
variable (s : State) (hs : s.Settled) {w : Fin 80} {i : Instr} {keys : List Nat} {c lat cost : Nat}
  (hi : s.dev.Issues w keys noWait c) (hw : s.dev.Spells w i)
include hs hi hw

theorem State.exec_onlyG {rd : BitVec 5} (f : Nat → Winder → Word) (hrow : exec i s = s.oliol w i
      (s.dev.issueW w keys fun n x => ((x.setG rd (f n x)).writes n lat (kG rd)).retire n cost)) :
    ∃ t, exec i s = .next t ∧ s.OnlyG t w rd (f c (s.dev.winder w)) c lat cost :=
  ⟨_, by rw [hrow, Dev.issueW_eq hi, s.oliol_at hi hw], s.onlyG hs w c rd _ lat cost⟩

theorem State.exec_onlyV {vd : BitVec 4} (f : Winder → Nat → Word) (hrow : exec i s = s.oliol w i
      (s.dev.issueW w keys fun n x => ((x.setVs vd (f x)).writes n lat (kV vd)).retire n cost)) :
    ∃ t, exec i s = .next t ∧ s.OnlyV t w vd (f (s.dev.winder w)) c lat cost :=
  ⟨_, by rw [hrow, Dev.issueW_eq hi, s.oliol_at hi hw], s.onlyV hs w c vd _ lat cost⟩

theorem State.exec_onlyP {pd : BitVec 2} (f : Winder → Byte) (hrow : exec i s = s.oliol w i
      (s.dev.issueW w keys fun n x => ((x.setP pd (f x)).writes n lat (kP pd)).retire n cost)) :
    ∃ t, exec i s = .next t ∧ s.OnlyP t w pd (f (s.dev.winder w)) c lat cost :=
  ⟨_, by rw [hrow, Dev.issueW_eq hi, s.oliol_at hi hw], s.onlyP hs w c pd _ lat cost⟩

end

/-- What holds of every row of a table holds of each. -/
theorem of_forall_mem {α : Type} {P : α → Prop} {l : List α} {e : α} (he : e ∈ l) (h : ∀ a ∈ l, P a) : P e := h e he

/-! ### The functions of Tables 6-7, 6-8 and 6-11 -/

theorem sshiftRight_eq_ofInt (a : Word) (n : Nat) : a.sshiftRight n = BitVec.ofInt 32 (a.toInt / 2 ^ n) := by
  rw [BitVec.sshiftRight, Int.shiftRight_eq_div_pow]
  norm_cast

theorem mul_eq_ofNat (a b : Word) : a * b = BitVec.ofNat 32 (a.toNat * b.toNat) := rfl

theorem aluSar_eq (a b : Word) : aluSar a b = BitVec.ofInt 32 (a.toInt / 2 ^ (b.toNat % 32)) := sshiftRight_eq_ofInt a _

theorem ofNat_toNat_self (a : Word) : BitVec.ofNat 32 a.toNat = a := by simp

theorem aluMinu_eq (a b : Word) : aluMinu a b = BitVec.ofNat 32 (min a.toNat b.toNat) := by
  simp only [aluMinu, BitVec.ult, decide_eq_true_eq]
  split
  · next h => rw [Nat.min_eq_left h.le, ofNat_toNat_self]
  · next h => rw [Nat.min_eq_right (Nat.not_lt.mp h), ofNat_toNat_self]

theorem aluMaxu_eq (a b : Word) : aluMaxu a b = BitVec.ofNat 32 (max a.toNat b.toNat) := by
  simp only [aluMaxu, BitVec.ult, decide_eq_true_eq]
  split
  · next h => rw [Nat.max_eq_right h.le, ofNat_toNat_self]
  · next h => rw [Nat.max_eq_left (Nat.not_lt.mp h), ofNat_toNat_self]

theorem aluSubsat_eq (a b : Word) : aluSubsat a b = BitVec.ofNat 32 (a.toNat - b.toNat) := by
  simp only [aluSubsat, BitVec.ult, decide_eq_true_eq]
  split
  · next h =>
    rw [Nat.sub_eq_zero_of_le h.le]
    rfl
  · next h => rw [← BitVec.toNat_sub_of_le (BitVec.le_def.mpr (Nat.not_lt.mp h)), ofNat_toNat_self]

theorem flag_slt (a b : Word) : flag (a.slt b) = if a.toInt < b.toInt then 1 else 0 := by
  simp only [flag, BitVec.slt, decide_eq_true_eq]

theorem flag_ult (a b : Word) : flag (a.ult b) = if a.toNat < b.toNat then 1 else 0 := by
  simp only [flag, BitVec.ult, decide_eq_true_eq]

/-! ### Table 6-7 -/

/-- The special registers of Table 6-2. -/
theorem Winder.special_eq (x : Winder) (w t : Nat) (idx : BitVec 5) : x.special w idx.toNat t =
    if idx = 0 then x.frameNo
    else if idx = 1 then BitVec.ofNat 32 (x.cyc0 + t)
    else if idx = 2 then BitVec.ofNat 32 (x.rem0 - t)
    else if idx = 3 then BitVec.ofNat 32 x.sfc
    else if idx = 4 then BitVec.ofNat 32 (x.sfc / 2 ^ 32)
    else if idx = 5 then BitVec.ofNat 32 x.allocN
    else if idx = 6 then BitVec.ofNat 32 x.port
    else if idx = 7 then BitVec.ofNat 32 w
    else 0 := by
  simp only [← BitVec.toNat_inj]
  generalize idx.toNat = n
  rcases n with _ | _ | _ | _ | _ | _ | _ | _ | n <;> rfl

/-- Settles O1: each row is `regOp` with the function of Table 6-7, and MFS reads the special registers in its issue cycle. -/
theorem regGroupResults : Obligations.RegGroupResults := by
  intro s w rd rs rt c hs
  refine ⟨fun hi e he hw => ?_, fun hi idx hw => ?_⟩
  · have hrow := of_forall_mem (P := fun e => exec (e.1 w rd rs rt) s = s.oliol w (e.1 w rd rs rt) (s.dev.regOp w rd rs rt e.2)) he (by
      simp only [List.forall_mem_cons, List.not_mem_nil, false_imp_iff, implies_true, and_true, ← aluSar_eq, ← aluMinu_eq, ← aluMaxu_eq,
        ← aluSubsat_eq, ← flag_slt, ← flag_ult]
      and_intros <;> rfl)
    exact s.exec_onlyG hs hi hw (fun _ x => e.2 (x.rg rs) (x.rg rt)) hrow
  · obtain ⟨t, ht, ho⟩ := s.exec_onlyG hs hi hw (rd := rd) (lat := 1) (cost := 1) (fun n x => x.special w idx.toNat n) rfl
    exact ⟨t, ht, Winder.special_eq .. ▸ ho⟩

/-! ### Table 6-8 -/

theorem flag_slt_sextH (a : Word) (imm : Half) : flag (a.slt (sextH imm)) = if a.toInt < imm.toInt then 1 else 0 := by
  rw [flag_slt, sextH, BitVec.toInt_signExtend_of_le (by decide)]

theorem flag_ult_zextH (a : Word) (imm : Half) : flag (a.ult (zextH imm)) = if a.toNat < imm.toNat then 1 else 0 := by
  rw [flag_ult, zextH, BitVec.zeroExtend, BitVec.toNat_setWidth_of_le (by decide)]

theorem rotateRight_eq_or (a : Word) (n : BitVec 5) : a.rotateRight n.toNat = a >>> n.toNat ||| a <<< (32 - n.toNat) := by
  rw [BitVec.rotateRight_def, Nat.mod_eq_of_lt n.isLt]

/-- Settles O2: each row is `immOp` with the function of Table 6-8. -/
theorem immGroupResults : Obligations.ImmGroupResults := by
  intro s w rd rs c hs
  refine ⟨fun hi => ⟨fun imm e he hw => ?_, fun n e he hw => ?_⟩, fun hi imm hw => ?_⟩
  · have hrow := of_forall_mem (P := fun e => exec (e.1 w rd rs imm) s = s.oliol w (e.1 w rd rs imm) (s.dev.immOp w rd rs e.2)) he (by
      simp only [List.forall_mem_cons, List.not_mem_nil, false_imp_iff, implies_true, and_true, ← flag_slt_sextH, ← flag_ult_zextH]
      and_intros <;> rfl)
    exact s.exec_onlyG hs hi hw (fun _ x => e.2 (x.rg rs)) hrow
  · have hrow := of_forall_mem (P := fun e => exec (e.1 w rd rs n) s = s.oliol w (e.1 w rd rs n) (s.dev.immOp w rd rs e.2)) he (by
      simp only [List.forall_mem_cons, List.not_mem_nil, false_imp_iff, implies_true, and_true, ← sshiftRight_eq_ofInt,
        ← rotateRight_eq_or]
      and_intros <;> rfl)
    exact s.exec_onlyG hs hi hw (fun _ x => e.2 (x.rg rs)) hrow
  · exact s.exec_onlyG hs hi hw (fun _ _ => zextH imm <<< 16) rfl

end Sys2Proof.Machine
end

section
/-! SUPPORT. Vector and predicate instructions (R211 to R215): lanes under a predicate, masks as predicate values, and the reductions as folds
over numbers. -/
namespace Sys2Proof.Machine
open Sys2Proof

/-! ### Predicate values -/

/-- Bit `i` of a mask is lane `i`. -/
theorem getLsbD_laneMask (f : Nat → Bool) {i : Nat} (hi : i < 8) : (laneMask f).getLsbD i = f i := by
  have hall : ∀ a b c d e g h k : Bool, ∀ i : Fin 8, (laneMask fun j => [a, b, c, d, e, g, h, k].getD j false).getLsbD i =
      [a, b, c, d, e, g, h, k].getD i false := by decide
  have hmask : laneMask f = laneMask fun j => ((List.range 8).map f).getD j false := rfl
  rw [hmask]
  refine (hall (f 0) (f 1) (f 2) (f 3) (f 4) (f 5) (f 6) (f 7) ⟨i, hi⟩).trans ?_
  exact (congrArg (·.getD false) (List.getElem?_map ..)).trans (by rw [List.getElem?_range hi])

/-! ### VALU (Table 6-11) -/

/-- Settles O3: each row is `valu` with the function of Table 6-11; the predicate says what an inactive lane is written with. -/
theorem valuResults : Obligations.ValuResults := by
  intro s w vd vs src pr c hs hi e he hw
  have hrow := of_forall_mem (P := fun e => exec (e.1 w vd vs src pr) s = s.oliol w (e.1 w vd vs src pr) (s.dev.valu w vd vs src pr e.2)) he (by
    simp only [List.forall_mem_cons, List.not_mem_nil, false_imp_iff, implies_true, and_true, ← aluSar_eq, ← aluMinu_eq, ← aluMaxu_eq,
      ← aluSubsat_eq]
    and_intros <;> rfl)
  obtain ⟨t, ht, ho⟩ := s.exec_onlyV hs hi hw (fun x i => if x.lane pr i then e.2 (x.rv vs i) (x.src src i) else
    if predZero pr then 0 else x.rv vd i) hrow
  refine ⟨t, ht, ?_⟩
  cases pr <;> cases src <;> exact ho

/-! ### VCMP (Table 6-12) -/

theorem not_slt_eq (a b : Word) : (!a.slt b) = decide (b.toInt ≤ a.toInt) := by
  rw [BitVec.slt, ← decide_not, decide_eq_decide, Int.not_lt]

theorem not_ult_eq (a b : Word) : (!a.ult b) = decide (b.toNat ≤ a.toNat) := by
  rw [BitVec.ult, ← decide_not, decide_eq_decide, Nat.not_lt]

theorem beq_eq_decide_word (a b : Word) : (a == b) = decide (a = b) := rfl

/-- Settles O4: each row is `vcmp` with the comparison of Table 6-12, whose mask holds a bit of each active lane. -/
theorem vcmpResults : Obligations.VcmpResults := by
  intro s w pd vs src pr c hs hi e he hw
  have hrow := of_forall_mem (P := fun e => exec (e.1 w pd vs src pr) s = s.oliol w (e.1 w pd vs src pr) (s.dev.vcmp w pd vs src pr e.2)) he (by
    simp only [List.forall_mem_cons, List.not_mem_nil, false_imp_iff, implies_true, and_true, ← not_slt_eq, ← not_ult_eq, ne_eq, decide_not]
    and_intros <;> rfl)
  obtain ⟨t, ht, ho⟩ := s.exec_onlyP hs hi hw (fun x => laneMask fun i => x.lane pr i && e.2 (x.rv vs i) (x.src src i)) hrow
  refine ⟨t, _, ht, ho, fun i hi => (getLsbD_laneMask _ hi).trans ?_⟩
  cases pr <;> cases src <;> rfl

/-! ### Reductions (Table 6-13) -/

section
variable (g : Nat → Word) (l : List Nat)

theorem toNat_aluMinu (a b : Word) : (aluMinu a b).toNat = min a.toNat b.toNat := by
  rw [aluMinu_eq, BitVec.toNat_ofNat, Nat.mod_eq_of_lt (lt_of_le_of_lt (Nat.min_le_left _ _) a.isLt)]

theorem toNat_aluMaxu (a b : Word) : (aluMaxu a b).toNat = max a.toNat b.toNat := by
  rw [aluMaxu_eq, BitVec.toNat_ofNat, Nat.mod_eq_of_lt (Nat.max_lt.mpr ⟨a.isLt, b.isLt⟩)]

/-- The lanes with their values, as a reduction reads them. -/
def lanePairs : List (Nat × Word) := l.map fun i => (i, g i)

/-- A fold over the values of the lanes that numbers do as well. -/
theorem toNat_foldl_lanePairs (f : Word → Word → Word) (n : Nat → Nat → Nat) (h : ∀ a b : Word, (f a b).toNat = n a.toNat b.toNat) (m : Word) :
    ((lanePairs g l).foldl (fun m e => f m e.2) m).toNat = (l.map fun i => (g i).toNat).foldl n m.toNat := by
  induction l generalizing m with
  | nil => rfl
  | cons i l ih => exact (ih (f m (g i))).trans (by rw [h]; rfl)

theorem toNat_redMin : (redMin (lanePairs g l)).toNat = (l.map fun i => (g i).toNat).foldl min 0xFFFFFFFF :=
  toNat_foldl_lanePairs g l aluMinu min toNat_aluMinu _

theorem toNat_redMax : (redMax (lanePairs g l)).toNat = (l.map fun i => (g i).toNat).foldl max 0 :=
  toNat_foldl_lanePairs g l aluMaxu max toNat_aluMaxu _

theorem sum_lanePairs (m : Nat) : (lanePairs g l).foldl (fun m e => m + e.2) (BitVec.ofNat 32 m) =
    BitVec.ofNat 32 ((l.map fun i => (g i).toNat).foldl (fun m v => m + v) m) := by
  induction l generalizing m with
  | nil => rfl
  | cons i l ih =>
    refine Eq.trans ?_ (ih (m + (g i).toNat))
    rw [BitVec.ofNat_add, ofNat_toNat_self]
    rfl

theorem laneOfVal_lanePairs (v : Word) :
    laneOfVal (lanePairs g l) v = BitVec.ofNat 32 ((l.find? fun i => (g i).toNat == v.toNat).getD 8) := by
  have hfind : (lanePairs g l).find? (fun e => e.2 == v) = (l.find? fun i => (g i).toNat == v.toNat).map fun i => (i, g i) := by
    have hval : ((fun e : Nat × Word => e.2 == v) ∘ fun i => (i, g i)) = fun i => (g i).toNat == v.toNat := by
      funext i
      rw [Bool.eq_iff_iff, beq_iff_eq, BitVec.toNat_inj]
      exact beq_iff_eq
    rw [lanePairs, List.find?_map, hval]
  rw [laneOfVal, hfind]
  cases l.find? fun i => (g i).toNat == v.toNat <;> rfl

end

/-- A reduction row: the function `f` of the active lanes is the number `n` of the statement. -/
theorem State.exec_vred (s : State) (hs : s.Settled) {w : Fin 80} {i : Instr} {gd : BitVec 5} {vs : BitVec 4} {pr : Pred} {c : Nat}
    (hi : s.dev.Issues w (kV vs ++ predKeys pr ++ kG gd) noWait c) (hw : s.dev.Spells w i) (f : List (Nat × Word) → Word)
    (hrow : exec i s = s.oliol w i (s.dev.vred w gd vs pr f)) :
    let x := s.dev.winder w
    ∃ t, exec i s = .next t ∧ s.OnlyG t w gd (f (lanePairs (x.rv vs) ((List.range 8).filter (x.lane pr)))) c 2 1 :=
  s.exec_onlyG hs hi hw (fun _ x => f (lanePairs (x.rv vs) ((List.range 8).filter (x.lane pr)))) hrow

/-- One lane written (VINS): the vector register keeps its other lanes. -/
theorem State.onlyV_setV (s : State) (hs : s.Settled) (w c : Nat) (vd : BitVec 4) (k : BitVec 3) (v : Word) (lat cost : Nat) :
    s.OnlyV (s.run ((s.dev.profIssue w c).setWinder w ((((s.dev.winder w).setV vd k.toNat v).writes c lat (kV vd)).retire c cost)))
      w vd (fun i => if i = k.toNat then v else (s.dev.winder w).rv vd i) c lat cost := by
  refine ⟨⟨fun n i hi => ?result, ?_, fun j => ?ready, ?_, ?_⟩, ?_, s.sameOutside hs w c _⟩ <;> rw [State.run_winder_set]
  case result =>
    refine ((s.dev.winder w).rv_setV vd n k.toNat i v k.isLt hi).trans ?_
    by_cases hn : n = vd
    · subst hn
      simp
    · simp [hn]
  case ready => exact sget_writes _ c lat (kV vd) j
  · exact ⟨fun _ _ => rfl, (fun h => by cases h), fun _ _ => rfl, fun _ _ => rfl⟩
  · exact Winder.sameRun_of_kept rfl
  · exact Winder.retire_fellThrough _ _ _ _ rfl rfl
  · exact ⟨rfl, rfl, rfl, rfl⟩

/-- Settles O5: VSEL, VBC, VIDX and VINS write lanes, the reductions and VEXT a scalar register. -/
theorem vselVredVlaneResults : Obligations.VselVredVlaneResults := by
  intro s w vd vs gd gs src pr pn k c hs x active act low high first lanes
  have hact : (List.range 8).filter (x.lane pr) = act := rfl
  have hlow : (redMin (lanePairs (x.rv vs) act)).toNat = low act := toNat_redMin _ _
  have hhigh : (redMax (lanePairs (x.rv vs) act)).toNat = high act := toNat_redMax _ _
  have hlanes (f : Nat → Word) : (fun i => if x.lane pr i then f i else if predZero pr then 0 else x.rv vd i) = lanes f := by
    cases pr <;> rfl
  refine ⟨fun hi hw => ?vsel, fun _ hi e he hw => ?vred, fun hi hw => ?vbc, fun hi hw => ?vidx, fun hi hw => ?vins, fun hi hw => ?vext⟩
  case vsel =>
    obtain ⟨t, ht, ho⟩ := s.exec_onlyV hs hi hw (vd := vd) (lat := 2) (cost := 1)
      (fun x i => if (x.rp pn).getLsbD i then x.rv vs i else x.src src i) rfl
    refine ⟨t, ht, ?_⟩
    cases src <;> exact ho
  case vred =>
    have hrow := of_forall_mem (P := fun e => ∃ f, exec (e.1 w gd vs pr) s = s.oliol w (e.1 w gd vs pr) (s.dev.vred w gd vs pr f) ∧
      f (lanePairs (x.rv vs) act) = BitVec.ofNat 32 e.2) he (by
      simp only [List.forall_mem_cons, List.not_mem_nil, false_imp_iff, implies_true, and_true]
      refine ⟨⟨_, rfl, ?_⟩, ⟨_, rfl, ?_⟩, ⟨_, rfl, ?_⟩, ⟨_, rfl, ?_⟩, ⟨_, rfl, ?_⟩⟩
      · exact sum_lanePairs (x.rv vs) act 0
      · rw [← hlow, ofNat_toNat_self]
      · rw [← hhigh, ofNat_toNat_self]
      · rw [laneOfVal_lanePairs, hlow]
      · rw [laneOfVal_lanePairs, hhigh])
    obtain ⟨f, hf, hval⟩ := hrow
    rw [← hval]
    exact s.exec_vred hs hi hw f hf
  case vbc =>
    rw [← hlanes]
    exact s.exec_onlyV hs hi hw (fun x i => if x.lane pr i then x.rg gs else if predZero pr then 0 else x.rv vd i) rfl
  case vidx =>
    rw [← hlanes]
    exact s.exec_onlyV hs hi hw (fun x i => if x.lane pr i then BitVec.ofNat 32 i else if predZero pr then 0 else x.rv vd i) rfl
  case vins =>
    have hrow : exec (.vins w vd gs k) s = execVins w vd gs k s := rfl
    exact ⟨_, by rw [hrow, execVins, Dev.issueW_eq hi, s.oliol_at hi hw], s.onlyV_setV hs w c vd k _ 2 1⟩
  case vext => exact s.exec_onlyG hs hi hw (fun _ x => x.rv vs k.toNat) rfl

/-! ### VPRED (Table 6-14) -/

/-- The lowest bit alone. -/
theorem getLsbD_lowest (b : Byte) {i : Nat} (hi : i < 8) :
    (b &&& -b).getLsbD i = (b.getLsbD i && (List.range i).all fun j => !b.getLsbD j) := by
  rw [BitVec.getLsbD_and, BitVec.getLsbD_neg, Bool.eq_iff_iff]
  cases b.getLsbD i <;> simp [hi]

/-- Settles O6: each row writes a predicate register or a scalar register, one cycle after issue. -/
theorem vpredResults : Obligations.VpredResults := by
  intro s w pd ps pt gd gs c hs x
  refine ⟨fun hi e he hw => ?bitwise, fun hi imm hw => ?pset, fun hi hw => ?pfirst, fun hi => ⟨fun hw => ?pcnt, fun hw => ?ptog⟩,
    fun hi hw => ?pfromg⟩
  case bitwise =>
    have hrow := of_forall_mem (P := fun e => ∃ f : Byte → Byte → Byte, exec (e.1 w pd ps pt) s =
        s.oliol w (e.1 w pd ps pt) (s.dev.vpred w pd (kP ps ++ kP pt) fun x => f (x.rp ps) (x.rp pt)) ∧
        ∀ a b i, i < 8 → (f a b).getLsbD i = e.2 (a.getLsbD i) (b.getLsbD i)) he (by
      simp only [List.forall_mem_cons, List.not_mem_nil, false_imp_iff, implies_true, and_true]
      refine ⟨⟨fun a b => a &&& b, rfl, ?_⟩, ⟨fun a b => a ||| b, rfl, ?_⟩, ⟨fun a b => a ^^^ b, rfl, ?_⟩, ⟨fun a b => a &&& ~~~b, rfl, ?_⟩⟩
      · exact fun a b i _ => BitVec.getLsbD_and
      · exact fun a b i _ => BitVec.getLsbD_or
      · exact fun a b i _ => BitVec.getLsbD_xor
      · intro a b i hi
        simp [hi])
    obtain ⟨f, hf, hbits⟩ := hrow
    obtain ⟨t, ht, ho⟩ := s.exec_onlyP hs hi hw (fun x => f (x.rp ps) (x.rp pt)) hf
    exact ⟨t, _, ht, ho, hbits _ _⟩
  case pset => exact s.exec_onlyP hs hi hw (fun _ => imm) rfl
  case pfirst =>
    obtain ⟨t, ht, ho⟩ := s.exec_onlyP hs hi hw (pd := pd) (lat := 1) (cost := 1) (fun x => x.rp ps &&& -(x.rp ps)) rfl
    exact ⟨t, _, ht, ho, fun i hi => getLsbD_lowest _ hi⟩
  case pcnt => exact s.exec_onlyG hs hi hw (fun _ x => BitVec.ofNat 32 ((List.range 8).filter fun i => (x.rp ps).getLsbD i).length) rfl
  case ptog => exact s.exec_onlyG hs hi hw (fun _ x => (x.rp ps).zeroExtend 32) rfl
  case pfromg => exact s.exec_onlyP hs hi hw (fun x => (x.rg gs).setWidth 8) rfl

end Sys2Proof.Machine
end

section
/-! SUPPORT. Memory instructions (R198, R205 to R207): the effective address, the post-increment beside a load, the words a store writes, and the
allocation-table port. -/
namespace Sys2Proof.Machine
open Sys2Proof

/-! ### Addresses -/

/-- Clearing the five low bits of an address rounds it down to a vector. -/
theorem toNat_and_vectorMask (v : Word) : (v &&& 0xFFFFFFE0#32).toNat = v.toNat / 32 * 32 := by
  have hmask : ∀ i : Fin 32, (0xFFFFFFE0#32).getLsbD i = decide (5 ≤ i.val) := by decide
  have h : v &&& 0xFFFFFFE0#32 = v >>> 5 <<< 5 := by
    refine BitVec.eq_of_getLsbD_eq fun i hi => ?_
    rw [BitVec.getLsbD_and, hmask ⟨i, hi⟩, BitVec.getLsbD_shiftLeft, BitVec.getLsbD_ushiftRight]
    rcases Nat.lt_or_ge i 5 with h5 | h5
    · simp [h5, Nat.not_le.mpr h5]
    · simp [h5, hi, Nat.not_lt.mpr h5]
  have hv := v.isLt
  rw [h, BitVec.toNat_shiftLeft, BitVec.toNat_ushiftRight, Nat.shiftLeft_eq, Nat.shiftRight_eq_div_pow]
  omega

theorem eaV_eq (base : Word) (pi : Bool) (disp : BitVec 15) :
    eaV base pi disp = (if pi then base else base + disp.signExtend 32).toNat / 32 * 32 := toNat_and_vectorMask _

/-! ### What an instruction leaves of its winder until it retires -/

/-- A winder without its registers, its local memory and the cycles in which registers are ready. -/
def Winder.sansRegs (x : Winder) : Winder := { x with g := [], v := [], p := [], lmem := [], ready := [] }

theorem Winder.setG_sansRegs (x : Winder) (n : BitVec 5) (v : Word) : (x.setG n v).sansRegs = x.sansRegs := by
  unfold Winder.setG
  split <;> rfl

theorem Winder.setVs_sansRegs (x : Winder) (n : BitVec 4) (f : Nat → Word) : (x.setVs n f).sansRegs = x.sansRegs := by
  have hsans (y : Winder) : y.sansRegs = y.sansV.sansRegs := rfl
  rw [hsans, x.setVs_sans, ← hsans]

theorem Winder.writes_sansRegs (x : Winder) (t lat : Nat) (keys : List Nat) : (x.writes t lat keys).sansRegs = x.sansRegs := rfl

theorem Winder.postInc_sansRegs (x : Winder) (t : Nat) (rb : BitVec 5) (pi : Bool) (disp : BitVec 15) :
    (x.postInc t rb pi disp).sansRegs = x.sansRegs := by
  unfold Winder.postInc
  split
  · exact x.setG_sansRegs _ _
  · rfl

section
variable {x y : Winder} (h : y.sansRegs = x.sansRegs)
include h

theorem Winder.sameRun_of_sansRegs : x.SameRun y :=
  ⟨(congrArg Winder.st h :), (congrArg Winder.port h :), (congrArg Winder.cause h :), (congrArg Winder.running h :),
    (congrArg Winder.cyc0 h :), (congrArg Winder.rem0 h :), (congrArg Winder.frameNo h :), (congrArg Winder.sfc h :),
    (congrArg Winder.allocN h :), (congrArg Winder.imem h :)⟩

theorem Winder.samePorts_of_sansRegs : x.SamePorts y :=
  ⟨(congrArg Winder.portFree h :), (congrArg Winder.loads h :), (congrArg Winder.calFree h :), (congrArg Winder.localFree h :)⟩

/-- It falls through: what it retires with is of the same run, and the loops took their step. -/
theorem Winder.retire_of_sansRegs (c cost : Nat) :
    x.SameRun (y.retire c cost) ∧ x.FellThrough (y.retire c cost) c cost ∧ x.SamePorts (y.retire c cost) := by
  obtain ⟨h1, h2, h3, h4, h5, h6, h7, h8, h9, h10⟩ := Winder.sameRun_of_sansRegs h
  obtain ⟨k1, k2, k3, k4⟩ := Winder.samePorts_of_sansRegs h
  exact ⟨⟨h1, h2, h3, h4, h5, h6, h7, h8, h9, h10⟩,
    Winder.retire_fellThrough x y c cost (congrArg Winder.pc h :) (congrArg Winder.loops h :), ⟨k1, k2, k3, k4⟩⟩

end

theorem Winder.sameRegs_retire {x y : Winder} {g v p l : Bool} (h : x.SameRegs y g v p l) (c cost : Nat) :
    x.SameRegs (y.retire c cost) g v p l := ⟨h.g, h.v, h.p, h.l⟩

/-- An instruction that changes its winder alone. -/
theorem State.exec_winder (s : State) {w : Fin 80} {i : Instr} {keys : List Nat} {adj : Winder → Nat → Nat} {c : Nat}
    (hi : s.dev.Issues w keys adj c) (hw : s.dev.Spells w i) (f : Nat → Winder → Dev → Option Dev) (y : Winder)
    (hrow : exec i s = s.oliol w i (s.dev.issue w keys adj f))
    (hf : f c (s.dev.winder w) (s.dev.profIssue w c) = some ((s.dev.profIssue w c).setWinder w y)) :
    exec i s = .next (s.run ((s.dev.profIssue w c).setWinder w y)) := by
  rw [hrow, Dev.issue_eq hi, hf, s.oliol_at hi hw]

/-! ### The winder after a load -/

theorem Winder.postInc_ready (x : Winder) (c : Nat) (rb : BitVec 5) (pi : Bool) (disp : BitVec 15) (k : Nat) :
    sget (fun _ => 0) (x.postInc c rb pi disp).ready k = if pi ∧ k ∈ kG rb then c + 1 else sget (fun _ => 0) x.ready k := by
  unfold Winder.postInc
  cases pi
  · simp
  · simp [sget_writes]

section
variable (x : Winder) (c : Nat) (rb : BitVec 5) (pi : Bool) (disp : BitVec 15)

/-- A load into a scalar register, its base incremented first: the loaded value stays where both are the same register. -/
def Winder.loadG (rd : BitVec 5) (v : Word) (lat : Nat) : Winder := ((x.postInc c rb pi disp).setG rd v).writes c lat (kG rd)

/-- A load into a vector register. -/
def Winder.loadV (vd : BitVec 4) (f : Nat → Word) (lat : Nat) : Winder := ((x.postInc c rb pi disp).setVs vd f).writes c lat (kV vd)

section
variable (rd : BitVec 5) (v : Word) (lat : Nat)

theorem Winder.loadG_sansRegs : (x.loadG c rb pi disp rd v lat).sansRegs = x.sansRegs := by
  rw [Winder.loadG, Winder.writes_sansRegs, Winder.setG_sansRegs, Winder.postInc_sansRegs]

theorem Winder.rg_loadG (n : BitVec 5) : (x.loadG c rb pi disp rd v lat).rg n =
    if n = 0 then 0 else if n = rd then v else if n = 0 then 0 else if pi ∧ n = rb then x.rg rb + disp.signExtend 32 else x.rg n := by
  rw [← x.rg_postInc c, Winder.loadG, Winder.writes_rg, Winder.rg_setG]

theorem Winder.loadG_sameRegs : x.SameRegs (x.loadG c rb pi disp rd v lat) false true true true := by
  obtain ⟨⟨_, hv, hp, hl⟩, _⟩ := x.postInc_frame c rb pi disp
  refine ⟨(fun h => by cases h), fun _ n i => ?_, fun _ n => ?_, fun _ a => ?_⟩
  · rw [Winder.loadG, Winder.writes_rv, Winder.setG_rv, hv rfl]
  · rw [Winder.loadG, Winder.writes_rp, Winder.setG_rp, hp rfl]
  · rw [Winder.loadG, Winder.writes_lw, Winder.setG_lw, hl rfl]

theorem Winder.loadG_ready (k : Nat) : sget (fun _ => 0) (x.loadG c rb pi disp rd v lat).ready k =
    if k ∈ kG rd then c + lat else if pi ∧ k ∈ kG rb then c + 1 else sget (fun _ => 0) x.ready k := by
  rw [Winder.loadG, sget_writes, Winder.setG_ready, Winder.postInc_ready]

end

section
variable (vd : BitVec 4) (f : Nat → Word) (lat : Nat)

theorem Winder.loadV_sansRegs : (x.loadV c rb pi disp vd f lat).sansRegs = x.sansRegs := by
  rw [Winder.loadV, Winder.writes_sansRegs, Winder.setVs_sansRegs, Winder.postInc_sansRegs]

theorem Winder.rg_loadV (n : BitVec 5) : (x.loadV c rb pi disp vd f lat).rg n =
    if n = 0 then 0 else if pi ∧ n = rb then x.rg rb + disp.signExtend 32 else x.rg n := by
  rw [Winder.loadV, Winder.writes_rg, Winder.setVs_rg, Winder.rg_postInc]

theorem Winder.rv_loadV (n : BitVec 4) (i : Nat) (hi : i < 8) :
    (x.loadV c rb pi disp vd f lat).rv n i = if n = vd then f i else x.rv n i := by
  obtain ⟨⟨_, hv, _, _⟩, _⟩ := x.postInc_frame c rb pi disp
  rw [← hv rfl n i, Winder.loadV, Winder.writes_rv, Winder.rv_setVs _ _ _ _ _ hi]

theorem Winder.loadV_sameRegs : x.SameRegs (x.loadV c rb pi disp vd f lat) false false true true := by
  obtain ⟨⟨_, _, hp, hl⟩, _⟩ := x.postInc_frame c rb pi disp
  refine ⟨(fun h => by cases h), (fun h => by cases h), fun _ n => ?_, fun _ a => ?_⟩
  · rw [Winder.loadV, Winder.writes_rp, Winder.setVs_rp, hp rfl]
  · rw [Winder.loadV, Winder.writes_lw, Winder.setVs_lw, hl rfl]

theorem Winder.loadV_ready (k : Nat) : sget (fun _ => 0) (x.loadV c rb pi disp vd f lat).ready k =
    if k ∈ kV vd then c + lat else if pi ∧ k ∈ kG rb then c + 1 else sget (fun _ => 0) x.ready k := by
  rw [Winder.loadV, sget_writes, Winder.setVs_ready, Winder.postInc_ready]

end

end

/-! ### The winder after a store -/

/-- Words stored from address `a` on. -/
def Winder.storeWords (x : Winder) (a : Nat) (f : Nat → Word) (n : Nat) : Winder :=
  (List.range n).foldl (fun (y : Winder) i => y.setLw (a + 4 * i) (f i)) x

section
variable (x : Winder) (a : Nat) (f : Nat → Word)

theorem Winder.storeWords_succ (n : Nat) : x.storeWords a f (n + 1) = (x.storeWords a f n).setLw (a + 4 * n) (f n) := by
  rw [Winder.storeWords, List.range_succ, List.foldl_append]
  rfl

/-- Local memory alone changes. -/
theorem Winder.storeWords_lmem (n : Nat) : x.storeWords a f n = { x with lmem := (x.storeWords a f n).lmem } := by
  induction n with
  | zero => rfl
  | succ n ih =>
    rw [Winder.storeWords_succ, ih]
    rfl

theorem Winder.lw_storeWords (n b : Nat) :
    (x.storeWords a f n).lw b = if a / 4 ≤ b / 4 ∧ b / 4 < a / 4 + n then f (b / 4 - a / 4) else x.lw b := by
  induction n with
  | zero => rw [if_neg (by omega)]; rfl
  | succ n ih =>
    rw [Winder.storeWords_succ, Winder.lw_setLw, ih]
    by_cases h : b / 4 = (a + 4 * n) / 4
    · rw [if_pos h, if_pos (by omega), show b / 4 - a / 4 = n by omega]
    · rw [if_neg h]
      exact if_congr (by omega) rfl rfl

end

/-- The words of local memory are stored first, then the base takes its increment, and no calendar is in the way. -/
theorem State.exec_store (s : State) (hs : s.Settled) {w : Fin 80} {i : Instr} {keys : List Nat} {c : Nat} {rb : BitVec 5} {pi : Bool}
    {disp : BitVec 15} (hi : s.dev.Issues w keys localAt c) (hw : s.dev.Spells w i) (m : Sparse Word) (a : Nat)
    (ha : a < 0xE000 ∨ s.dev.calBusy (s.dev.winder w).port = false) (f : Nat → Winder → Dev → Option Dev)
    (hrow : exec i s = s.oliol w i (s.dev.issue w keys localAt f))
    (hf : f c (s.dev.winder w) (s.dev.profIssue w c) = some (((s.dev.profIssue w c).setWinder w
      (({ s.dev.winder w with lmem := m }.postInc c rb pi disp).retire c 1)).calStored w (s.dev.winder w).port a)) :
    let x := s.dev.winder w
    ∃ t, exec i s = .next t ∧ (x.SameRun (t.dev.winder w) ∧ x.FellThrough (t.dev.winder w) c 1 ∧ x.SamePorts (t.dev.winder w) ∧
        s.SameOutside t w true) ∧ x.SameRegs (t.dev.winder w) false true true false ∧
      (∀ n, (t.dev.winder w).rg n = if n = 0 then 0 else if pi ∧ n = rb then x.rg rb + disp.signExtend 32 else x.rg n) ∧
      (∀ b, (t.dev.winder w).lw b = { x with lmem := m }.lw b) ∧
      ∀ k, sget (fun _ => 0) (t.dev.winder w).ready k = if pi ∧ k ∈ kG rb then c + 1 else sget (fun _ => 0) x.ready k := by
  intro x
  have hcal (y : Winder) : ((s.dev.profIssue w c).setWinder w y).calStored w x.port a = (s.dev.profIssue w c).setWinder w y :=
    Dev.calStored_eq _ _ _ _ (ha.imp_right fun h => (s.dev.calBusy_profIssue w c x.port).trans h)
  rw [hcal] at hf
  refine ⟨_, s.exec_winder hi hw f _ hrow hf, ?_⟩
  rw [State.run_winder_set]
  obtain ⟨hrun, hfell, hports⟩ := Winder.retire_of_sansRegs (x := x) (Winder.postInc_sansRegs { x with lmem := m } c rb pi disp) c 1
  obtain ⟨⟨_, hv, hp, hl⟩, _⟩ := Winder.postInc_frame { x with lmem := m } c rb pi disp
  exact ⟨⟨hrun, hfell, hports, s.sameOutside hs w c _⟩, ⟨(fun h => by cases h), hv, hp, (fun h => by cases h)⟩,
    Winder.rg_postInc _ c rb pi disp, hl rfl, Winder.postInc_ready _ c rb pi disp⟩

/-! ### Local data memory (R205 to R207) -/

/-- Settles O7: a load reads before its base moves, a store writes before it does, and each writes its own words alone. -/
theorem localMemoryAccess : Obligations.LocalMemoryAccess := by
  intro s w rd rb vd pi disp c hs x base ea aw av inc storable others
  have hw : eaW base pi disp = aw := eaW_eq base pi disp
  have hv : eaV base pi disp = av := eaV_eq base pi disp
  have hothers (y : Winder) (hy : y.sansRegs = x.sansRegs) : others (s.run ((s.dev.profIssue w c).setWinder w (y.retire c 1))) := by
    obtain ⟨hrun, hfell, hports⟩ := Winder.retire_of_sansRegs hy c 1
    refine ⟨?_, ?_, ?_, s.sameOutside hs w c _⟩ <;> rwa [State.run_winder_set]
  refine ⟨fun hi ha hsp => ?ldw, fun hi ha hsp => ?stw, fun hi ha hsp => ?ldv, fun hi ha hsp => ?stv⟩
  case ldw =>
    have hf : (if lmemSize ≤ eaW base pi disp then none else some ((s.dev.profIssue w c).setWinder w
        ((x.loadG c rb pi disp rd (x.lw (eaW base pi disp)) 3).retire c 1))) = _ := if_neg (by rw [hw]; exact Nat.not_le.mpr ha)
    refine ⟨_, s.exec_winder hi hsp _ _ rfl hf, hothers _ (x.loadG_sansRegs ..), ?_⟩
    rw [State.run_winder_set, hw]
    refine ⟨Winder.sameRegs_retire (x.loadG_sameRegs ..) c 1, fun n => ?_, fun k => ?_⟩
    · rw [Winder.retire_rg, Winder.rg_loadG]
    · rw [Winder.retire_ready, Winder.loadG_ready]
  case ldv =>
    have hf : (if lmemSize ≤ eaV base pi disp then none else some ((s.dev.profIssue w c).setWinder w
        ((x.loadV c rb pi disp vd (fun i => x.lw (eaV base pi disp + 4 * i)) 3).retire c 1))) = _ := if_neg (by rw [hv]; exact Nat.not_le.mpr ha)
    refine ⟨_, s.exec_winder hi hsp _ _ rfl hf, hothers _ (x.loadV_sansRegs ..), ?_⟩
    rw [State.run_winder_set, hv]
    refine ⟨Winder.sameRegs_retire (x.loadV_sameRegs ..) c 1, fun n => ?_, fun n i hi => ?_, fun k => ?_⟩
    · rw [Winder.retire_rg, Winder.rg_loadV]
    · rw [Winder.retire_rv, Winder.rv_loadV _ _ _ _ _ _ _ _ _ _ hi]
    · rw [Winder.retire_ready, Winder.loadV_ready]
  case stw =>
    have hf : (if lmemSize ≤ eaW base pi disp then none else some (((s.dev.profIssue w c).setWinder w
        (((x.setLw (eaW base pi disp) (x.rg rd)).postInc c rb pi disp).retire c 1)).calStored w x.port (eaW base pi disp))) = _ :=
      if_neg (by rw [hw]; exact Nat.not_le.mpr ha.1)
    obtain ⟨t, ht, ho, hregs, hg, hl, hready⟩ := s.exec_store hs hi hsp _ _ (by rw [hw]; exact ha.2) _ rfl hf
    refine ⟨t, ht, ho, hregs, hg, fun a => (hl a).trans ?_, hready⟩
    rw [hw]
    exact x.lw_setLw aw a _
  case stv =>
    have hst := x.storeWords_lmem (eaV base pi disp) (x.rv vd) 8
    have hf : (if lmemSize ≤ eaV base pi disp then none else some (((s.dev.profIssue w c).setWinder w
        (((x.storeWords (eaV base pi disp) (x.rv vd) 8).postInc c rb pi disp).retire c 1)).calStored w x.port (eaV base pi disp))) =
        some (((s.dev.profIssue w c).setWinder w
          (({ x with lmem := (x.storeWords (eaV base pi disp) (x.rv vd) 8).lmem }.postInc c rb pi disp).retire c 1)).calStored w x.port
            (eaV base pi disp)) := by
      rw [← hst]
      exact if_neg (by rw [hv]; exact Nat.not_le.mpr ha.1)
    obtain ⟨t, ht, ho, hregs, hg, hl, hready⟩ := s.exec_store hs hi hsp _ _ (by rw [hv]; exact ha.2) _ rfl hf
    refine ⟨t, ht, ho, hregs, hg, fun a => (hl a).trans ?_, hready⟩
    have hdiv : av / 4 ≤ a / 4 ∧ a / 4 < av / 4 + 8 ↔ av ≤ a ∧ a < av + 32 := by omega
    rw [← hst, hv, Winder.lw_storeWords, if_congr hdiv rfl rfl]
    split
    · rw [show a / 4 - av / 4 = (a - av) / 4 by omega]
    · rfl

/-! ### The allocation-table window (R198, R205, R206) -/

@[simp] theorem Winder.allocLoad_rg (x : Winder) (c occ lat : Nat) (n : BitVec 5) : (x.allocLoad c occ lat).rg n = x.rg n := rfl
@[simp] theorem Winder.allocLoad_rv (x : Winder) (c occ lat : Nat) (n : BitVec 4) (i : Nat) : (x.allocLoad c occ lat).rv n i = x.rv n i := rfl
@[simp] theorem Winder.allocLoad_ready (x : Winder) (c occ lat : Nat) : (x.allocLoad c occ lat).ready = x.ready := rfl

theorem Winder.sameRegs_allocLoad {x y : Winder} {g v p l : Bool} (h : x.SameRegs y g v p l) (c occ lat : Nat) :
    x.SameRegs (y.allocLoad c occ lat) g v p l := ⟨h.g, h.v, h.p, h.l⟩

/-- A load of the allocation-table window falls through; the port is taken, and the load stays outstanding. -/
theorem Winder.retire_allocLoad {x y : Winder} (h : y.sansRegs = x.sansRegs) (c occ lat : Nat) :
    let z := (y.allocLoad c occ lat).retire c 1
    x.SameRun z ∧ x.FellThrough z c 1 ∧ z.portFree = c + occ ∧ z.loads = (x.loads.filter fun e => decide (c < e)) ++ [c + lat] ∧
      z.calFree = x.calFree ∧ z.localFree = x.localFree := by
  intro z
  obtain ⟨h1, h2, h3, h4, h5, h6, h7, h8, h9, h10⟩ := Winder.sameRun_of_sansRegs h
  obtain ⟨_, hloads, hcal, hlocal⟩ := Winder.samePorts_of_sansRegs h
  exact ⟨⟨h1, h2, h3, h4, h5, h6, h7, h8, h9, h10⟩,
    Winder.retire_fellThrough x _ c 1 (congrArg Winder.pc h :) (congrArg Winder.loops h :), rfl, by rw [← hloads]; rfl, hcal, hlocal⟩

section
variable (x : Winder) (c : Nat) (vb : BitVec 4) (pi : Bool) (disp : BitVec 15)

/-- The lanes of a base vector take the displacement, ready two cycles after issue (R205). -/
def Winder.postIncV : Winder := if pi then (x.setVs vb fun i => x.rv vb i + disp32 disp).writes c 2 (kV vb) else x

theorem Winder.postIncV_sansRegs : (x.postIncV c vb pi disp).sansRegs = x.sansRegs := by
  unfold Winder.postIncV
  split
  · rw [Winder.writes_sansRegs, Winder.setVs_sansRegs]
  · rfl

theorem Winder.postIncV_sameRegs : x.SameRegs (x.postIncV c vb pi disp) true false true true := by
  unfold Winder.postIncV
  split
  · refine ⟨fun _ n => ?_, (fun h => by cases h), fun _ n => ?_, fun _ a => ?_⟩
    · rw [Winder.writes_rg, Winder.setVs_rg]
    · rw [Winder.writes_rp, Winder.setVs_rp]
    · rw [Winder.writes_lw, Winder.setVs_lw]
  · exact ⟨fun _ _ => rfl, (fun h => by cases h), fun _ _ => rfl, fun _ _ => rfl⟩

theorem Winder.rv_postIncV (n : BitVec 4) (i : Nat) (hi : i < 8) :
    (x.postIncV c vb pi disp).rv n i = if pi ∧ n = vb then x.rv vb i + disp.signExtend 32 else x.rv n i := by
  unfold Winder.postIncV
  cases pi
  · simp
  · rw [if_pos rfl, Winder.writes_rv, Winder.rv_setVs _ _ _ _ _ hi]
    simp [disp32]

theorem Winder.postIncV_ready (k : Nat) : sget (fun _ => 0) (x.postIncV c vb pi disp).ready k =
    if pi ∧ k ∈ kV vb then c + 2 else sget (fun _ => 0) x.ready k := by
  unfold Winder.postIncV
  cases pi
  · simp
  · rw [if_pos rfl, sget_writes, Winder.setVs_ready]
    simp

/-- A gather: each lane has its own address, and the base vector is incremented first. -/
def Winder.gather (vd : BitVec 4) (f : Nat → Word) (lat : Nat) : Winder := ((x.postIncV c vb pi disp).setVs vd f).writes c lat (kV vd)

variable (vd : BitVec 4) (f : Nat → Word) (lat : Nat)

theorem Winder.gather_sansRegs : (x.gather c vb pi disp vd f lat).sansRegs = x.sansRegs := by
  rw [Winder.gather, Winder.writes_sansRegs, Winder.setVs_sansRegs, Winder.postIncV_sansRegs]

theorem Winder.gather_sameRegs : x.SameRegs (x.gather c vb pi disp vd f lat) true false true true := by
  obtain ⟨hg, _, hp, hl⟩ := x.postIncV_sameRegs c vb pi disp
  refine ⟨fun _ n => ?_, (fun h => by cases h), fun _ n => ?_, fun _ a => ?_⟩
  · rw [Winder.gather, Winder.writes_rg, Winder.setVs_rg, hg rfl]
  · rw [Winder.gather, Winder.writes_rp, Winder.setVs_rp, hp rfl]
  · rw [Winder.gather, Winder.writes_lw, Winder.setVs_lw, hl rfl]

theorem Winder.rv_gather (n : BitVec 4) (i : Nat) (hi : i < 8) : (x.gather c vb pi disp vd f lat).rv n i =
    if n = vd then f i else if pi ∧ n = vb then x.rv vb i + disp.signExtend 32 else x.rv n i := by
  rw [Winder.gather, Winder.writes_rv, Winder.rv_setVs _ _ _ _ _ hi, Winder.rv_postIncV _ _ _ _ _ _ _ hi]

theorem Winder.gather_ready (k : Nat) : sget (fun _ => 0) (x.gather c vb pi disp vd f lat).ready k =
    if k ∈ kV vd then c + lat else if pi ∧ k ∈ kV vb then c + 2 else sget (fun _ => 0) x.ready k := by
  rw [Winder.gather, sget_writes, Winder.setVs_ready, Winder.postIncV_ready]

end

theorem Dev.awin_profIssue (d : Dev) (w t p a : Nat) : (d.profIssue w t).awin p a = d.awin p a := by
  rw [Dev.awin, Dev.profIssue_port]
  rfl

/-- Settles O8: a load of the window reads the records of the served tree port; LDAG reads one word for each lane's own address. -/
theorem allocationLoads : Obligations.AllocationLoads := by
  intro s w rd rb vd vb pi disp c hs x base sum ea word aw av inc others
  have hw (b : Word) : eaW b pi disp = aw b := eaW_eq b pi disp
  have hv : eaV base pi disp = av := eaV_eq base pi disp
  have hword (a : Nat) : (s.dev.profIssue w c).awin x.port a = word a := s.dev.awin_profIssue w c x.port a
  have hothers (y : Winder) (occ lat : Nat) (hy : y.sansRegs = x.sansRegs) :
      others (s.run ((s.dev.profIssue w c).setWinder w ((y.allocLoad c occ lat).retire c 1))) occ lat := by
    obtain ⟨hrun, hfell, hport, hloads, hcal, hlocal⟩ := Winder.retire_allocLoad hy c occ lat
    refine ⟨?_, ?_, s.sameOutside hs w c _, ?_, ?_, ?_, ?_⟩ <;> rwa [State.run_winder_set]
  refine ⟨fun hi ha hsp => ?lda, fun hi ha hsp => ?ldav, fun hi ha hsp => ?ldag⟩
  case lda =>
    have hf : (if awinSize ≤ eaW base pi disp then none else some ((s.dev.profIssue w c).setWinder w
        (((x.loadG c rb pi disp rd ((s.dev.profIssue w c).awin x.port (eaW base pi disp)) 12).allocLoad c 1 12).retire c 1))) = _ :=
      if_neg (by rw [hw]; exact Nat.not_le.mpr ha)
    refine ⟨_, s.exec_winder hi hsp _ _ rfl hf, hothers _ 1 12 (x.loadG_sansRegs ..), ?_⟩
    rw [State.run_winder_set, hword, hw]
    refine ⟨Winder.sameRegs_retire (Winder.sameRegs_allocLoad (x.loadG_sameRegs ..) c 1 12) c 1, fun n => ?_, fun k => ?_⟩
    · rw [Winder.retire_rg, Winder.allocLoad_rg, Winder.rg_loadG]
    · rw [Winder.retire_ready, Winder.allocLoad_ready, Winder.loadG_ready]
  case ldav =>
    have hf : (if awinSize ≤ eaV base pi disp then none else some ((s.dev.profIssue w c).setWinder w
        (((x.loadV c rb pi disp vd (fun i => (s.dev.profIssue w c).awin x.port (eaV base pi disp + 4 * i)) 12).allocLoad c 1 12).retire
          c 1))) = _ := if_neg (by rw [hv]; exact Nat.not_le.mpr ha)
    refine ⟨_, s.exec_winder hi hsp _ _ rfl hf, hothers _ 1 12 (x.loadV_sansRegs ..), ?_⟩
    simp only [hword, hv]
    rw [State.run_winder_set]
    refine ⟨Winder.sameRegs_retire (Winder.sameRegs_allocLoad (x.loadV_sameRegs ..) c 1 12) c 1, fun n => ?_, fun n i hi => ?_, fun k => ?_⟩
    · rw [Winder.retire_rg, Winder.allocLoad_rg, Winder.rg_loadV]
    · rw [Winder.retire_rv, Winder.allocLoad_rv, Winder.rv_loadV _ _ _ _ _ _ _ _ _ _ hi]
    · rw [Winder.retire_ready, Winder.allocLoad_ready, Winder.loadV_ready]
  case ldag =>
    have hin : ((List.range 8).any fun i => decide (awinSize ≤ eaW (x.rv vb i) pi disp)) = false := by
      rw [List.any_eq_false]
      intro i hi8
      rw [decide_eq_true_eq, hw]
      exact Nat.not_le.mpr (ha i (List.mem_range.mp hi8))
    have hf : (if ((List.range 8).any fun i => decide (awinSize ≤ eaW (x.rv vb i) pi disp)) = true then none else
        some ((s.dev.profIssue w c).setWinder w
          (((x.gather c vb pi disp vd (fun i => (s.dev.profIssue w c).awin x.port (eaW (x.rv vb i) pi disp)) 19).allocLoad c 8 19).retire
            c 1))) = _ := if_neg (by rw [hin]; exact Bool.false_ne_true)
    refine ⟨_, s.exec_winder hi hsp _ _ rfl hf, hothers _ 8 19 (x.gather_sansRegs ..), ?_⟩
    simp only [hword, hw]
    rw [State.run_winder_set]
    refine ⟨Winder.sameRegs_retire (Winder.sameRegs_allocLoad (x.gather_sameRegs ..) c 8 19) c 1, fun n i hi => ?_, fun k => ?_⟩
    · rw [Winder.retire_rv, Winder.allocLoad_rv, Winder.rv_gather _ _ _ _ _ _ _ _ _ _ hi]
    · rw [Winder.retire_ready, Winder.allocLoad_ready, Winder.gather_ready]

end Sys2Proof.Machine
end

section
/-! SUPPORT. Branches, jumps, loops and the system instructions (R208 to R210, R216): which loop entries a taken branch pops, where each goes,
and what the profiler keeps of a SAMPLE. -/
namespace Sys2Proof.Machine
open Sys2Proof

/-! ### Loop entries that a branch pops (R210) -/

/-- The longest tail whose elements satisfy `p` is what is left after `k` elements: none of the tail fails, and the last one dropped does. -/
theorem reverse_takeWhile_eq_drop {α : Type} (p : α → Bool) (l : List α) :
    ∃ k, k ≤ l.length ∧ (l.reverse.takeWhile p).reverse = l.drop k ∧ (∀ a ∈ l.drop k, p a = true) ∧
      ∀ j, k = j + 1 → ∀ a, l[j]? = some a → p a = false := by
  induction l using List.reverseRecOn with
  | nil => exact ⟨0, Nat.le_refl 0, rfl, fun a h => (List.not_mem_nil h).elim, fun j h => by omega⟩
  | append_singleton l a ih =>
    obtain ⟨k, hk, htake, hall, hlast⟩ := ih
    rw [List.reverse_append, List.reverse_singleton, List.singleton_append, List.takeWhile_cons]
    cases hp : p a with
    | true =>
      refine ⟨k, by rw [List.length_append]; omega, ?_, ?_, fun j hj b hb => hlast j hj b ?_⟩
      · rw [List.drop_append_of_le_length hk, ← htake, if_pos rfl, List.reverse_cons]
      · rw [List.drop_append_of_le_length hk]
        intro b hb
        rcases List.mem_append.mp hb with hb | hb
        · exact hall b hb
        · rwa [List.mem_singleton.mp hb]
      · rwa [List.getElem?_append_left (by omega)] at hb
    | false =>
      have hdrop : (l ++ [a]).drop (l ++ [a]).length = [] := List.drop_length
      refine ⟨(l ++ [a]).length, Nat.le_refl _, ?_, ?_, fun j hj b hb => ?_⟩
      · rw [hdrop]; rfl
      · rw [hdrop]
        exact fun b hb => (List.not_mem_nil hb).elim
      · rw [List.length_append, List.length_singleton, Nat.add_right_cancel_iff] at hj
        rw [← hj, List.getElem?_concat_length, Option.some.injEq] at hb
        rwa [← hb]

theorem popLoops_eq_drop (target : Nat) (l : List LoopEnt) :
    ∃ k, popLoops target l = l.drop k ∧ (∀ e ∈ l.drop k, e.start ≤ target ∧ target ≤ e.stop) ∧
      ∀ j, k = j + 1 → ∀ e, l[j]? = some e → ¬(e.start ≤ target ∧ target ≤ e.stop) := by
  obtain ⟨k, _, hpop, hall, hlast⟩ := reverse_takeWhile_eq_drop (fun e : LoopEnt => decide (e.start ≤ target ∧ target ≤ e.stop)) l
  exact ⟨k, hpop, fun e he => of_decide_eq_true (hall e he), fun j hj e he => of_decide_eq_false (hlast j hj e he)⟩

/-! ### Branches and jumps (R208) -/

theorem Winder.atBodyEnd_false {x : Winder} (h : ∀ e ∈ x.loops, e.stop ≠ x.pc.toNat) : x.atBodyEnd = false := by
  rw [Winder.atBodyEnd, List.any_eq_false]
  intro e he
  rw [beq_iff_eq]
  exact h e he

theorem Dev.icount_profIssue (d : Dev) (w t p : Nat) : (d.profIssue w t).icount p = d.icount p := by
  rw [Dev.icount, Dev.profIssue_port]
  rfl

theorem toNat_ofNat_pc {n : Nat} (h : n < 4096) : (BitVec.ofNat 12 n).toNat = n := by
  rw [BitVec.toNat_ofNat, Nat.mod_eq_of_lt h]

theorem brTarget_lt (pc : Nat) (off : Half) : brTarget pc off < 4096 := by
  unfold brTarget
  omega

/-- Settles O10: a taken branch goes to its target and leaves the loops that the target leaves; one not taken falls through. -/
theorem branchResults : Obligations.BranchResults := by
  intro s w rs rt off c hs x target inside hi hend htgt e he hsp
  have hrow := of_forall_mem (P := fun e => exec (e.1 w rs rt off) s = s.oliol w (e.1 w rs rt off) (s.dev.branch w rs rt off e.2)) he (by
    simp only [List.forall_mem_cons, List.not_mem_nil, false_imp_iff, implies_true, and_true, ← not_slt_eq, ← not_ult_eq, ne_eq, decide_not]
    and_intros <;> rfl)
  have hgood : (x.atBodyEnd || decide ((s.dev.profIssue w c).icount x.port ≤ target)) = false := by
    rw [Winder.atBodyEnd_false hend, Dev.icount_profIssue, Bool.false_or, decide_eq_false_iff_not]
    exact Nat.not_le.mpr htgt
  have hexec (y : Winder) (hy : (if e.2 (x.rg rs) (x.rg rt) = true then
      ({ x with loops := popLoops target x.loops } : Winder).jump c 3 target else x.retire c 1) = y) :
      exec (e.1 w rs rt off) s = .next (s.run ((s.dev.profIssue w c).setWinder w y)) := by
    refine s.exec_winder hi hsp _ y hrow ((if_neg (ne_true_of_eq_false hgood)).trans ?_)
    rw [← hy]
    split <;> rfl
  cases hc : e.2 (x.rg rs) (x.rg rt) with
  | true =>
    obtain ⟨k, hpop, hin, hout⟩ := popLoops_eq_drop target x.loops
    refine ⟨_, hexec _ (if_pos hc), ?_⟩
    rw [State.run_winder_set, if_pos rfl]
    exact ⟨⟨fun _ _ => rfl, fun _ _ _ => rfl, fun _ _ => rfl, fun _ _ => rfl⟩, Winder.sameRun_of_kept rfl, rfl, ⟨rfl, rfl, rfl, rfl⟩,
      s.sameOutside hs w c _, toNat_ofNat_pc (brTarget_lt _ _), rfl, k, hpop, hin, hout⟩
  | false =>
    refine ⟨_, hexec _ (if_neg (by rw [hc]; exact Bool.false_ne_true)), ?_⟩
    rw [State.run_winder_set, if_neg Bool.false_ne_true]
    obtain ⟨hregs, hrun, hready, hfell, hports⟩ := x.retire_frame c 1
    exact ⟨hregs, hrun, hready, hports, s.sameOutside hs w c _, hfell⟩

/-- What a jump keeps of the winder, and what it links (R208). -/
def Winder.linked (x : Winder) (rd : BitVec 5) (c target : Nat) : Winder :=
  ((x.setG rd (BitVec.ofNat 32 ((x.pc.toNat + 1) % 4096))).writes c 1 (kG rd)).jump c 3 target

theorem Winder.linked_frame (x : Winder) (rd : BitVec 5) (c target : Nat) :
    let y := x.linked rd c target
    x.SameRegs y false true true true ∧ x.SameRun y ∧ y.loops = x.loops ∧ x.SamePorts y := by
  have h : ((x.setG rd (BitVec.ofNat 32 ((x.pc.toNat + 1) % 4096))).writes c 1 (kG rd)).sansRegs = x.sansRegs := x.setG_sansRegs rd _
  obtain ⟨h1, h2, h3, h4, h5, h6, h7, h8, h9, h10⟩ := Winder.sameRun_of_sansRegs h
  obtain ⟨k1, k2, k3, k4⟩ := Winder.samePorts_of_sansRegs h
  exact ⟨⟨(fun h => by cases h), fun _ => x.setG_rv rd _, fun _ => x.setG_rp rd _, fun _ => x.setG_lw rd _⟩,
    ⟨h1, h2, h3, h4, h5, h6, h7, h8, h9, h10⟩, (congrArg Winder.loops h :), ⟨k1, k2, k3, k4⟩⟩

theorem Winder.linked_ready (x : Winder) (rd : BitVec 5) (c target k : Nat) : sget (fun _ => 0) (x.linked rd c target).ready k =
    if k ∈ kG rd then c + 1 else sget (fun _ => 0) x.ready k := by
  show sget (fun _ => 0) ((x.setG rd _).writes c 1 (kG rd)).ready k = _
  rw [sget_writes, Winder.setG_ready]

/-- Settles O11: the target is read before the link is written, and the loop stack stays. -/
theorem jumpResults : Obligations.JumpResults := by
  intro s w rd rs target c hs x done hend
  have hgood (tgt : Nat) (htgt : tgt < s.dev.icount x.port) :
      (x.atBodyEnd || decide ((s.dev.profIssue w c).icount x.port ≤ tgt)) = false := by
    rw [Winder.atBodyEnd_false hend, Dev.icount_profIssue, Bool.false_or, decide_eq_false_iff_not]
    exact Nat.not_le.mpr htgt
  have hjump (i : Instr) (keys : List Nat) (tgt : Winder → Nat) (hi : s.dev.Issues w (keys ++ kG rd) noWait c) (hsp : s.dev.Spells w i)
      (hrow : exec i s = s.oliol w i (s.dev.jumpTo w rd keys tgt)) (htgt : tgt x < s.dev.icount x.port) (hlt : tgt x < 4096) :
      ∃ t, exec i s = .next t ∧ done t (tgt x) := by
    refine ⟨_, s.exec_winder hi hsp _ (x.linked rd c (tgt x)) hrow (if_neg (ne_true_of_eq_false (hgood _ htgt))), ?_⟩
    obtain ⟨hregs, hrun, hloops, hports⟩ := x.linked_frame rd c (tgt x)
    dsimp only [done]
    rw [State.run_winder_set]
    exact ⟨fun n => x.rg_setG rd n _, hregs, hrun, hloops, toNat_ofNat_pc hlt, rfl, hports, s.sameOutside hs w c _, x.linked_ready rd c (tgt x)⟩
  exact ⟨fun hi htgt hsp => hjump _ [] (fun _ => target.toNat) hi hsp rfl htgt target.isLt,
    fun hi htgt hsp => hjump _ (kG rs) (fun x => (x.rg rs).toNat % 4096) hi hsp rfl htgt (Nat.mod_lt _ (by decide))⟩

/-! ### Loops (R209, R210) -/

/-- The winder after a LOOP with `n` passes of a body of `len` instructions: past the body, or at its start with an entry pushed. -/
def Winder.looped (x : Winder) (c n len : Nat) : Winder :=
  if n = 0 then x.jump c 1 ((x.pc.toNat + len + 1) % 4096)
  else { x with loops := ⟨x.pc.toNat + 1, x.pc.toNat + len, n⟩ :: x.loops }.jump c 1 (x.pc.toNat + 1)

theorem Winder.looped_frame (x : Winder) (c n len : Nat) :
    let y := x.looped c n len
    x.SameRegs y true true true true ∧ x.SameRun y ∧ y.ready = x.ready ∧ x.SamePorts y ∧ y.cycle = c + 1 := by
  unfold Winder.looped
  split <;> exact ⟨⟨fun _ _ => rfl, fun _ _ _ => rfl, fun _ _ => rfl, fun _ _ => rfl⟩, Winder.sameRun_of_kept rfl, rfl,
    ⟨rfl, rfl, rfl, rfl⟩, rfl⟩

/-- Where it goes on, and the loop stack. -/
theorem Winder.looped_next (x : Winder) (c n len : Nat) (h : x.pc.toNat + len ≤ 4095) (hlen : 0 < len) :
    let y := x.looped c n len
    if n = 0 then y.pc.toNat = (x.pc.toNat + len + 1) % 4096 ∧ y.loops = x.loops
    else y.pc.toNat = x.pc.toNat + 1 ∧ y.loops = ⟨x.pc.toNat + 1, x.pc.toNat + len, n⟩ :: x.loops := by
  unfold Winder.looped
  split
  · exact ⟨toNat_ofNat_pc (Nat.mod_lt _ (by decide)), rfl⟩
  · exact ⟨toNat_ofNat_pc (by omega), rfl⟩

/-- Settles O12: a body that may stand where it does is skipped or begun, and the step at its end is that of `loopStep`. -/
theorem loopResults : Obligations.LoopResults := by
  refine ⟨?_, fun _ => rfl, fun pc e l h => if_neg h, fun e l h => ?_, fun e l h => ?_⟩
  · intro s w rs count len c hs x a ends body done
    have hloop (i : Instr) (keys : List Nat) (n : Winder → Nat) (hi : s.dev.Issues w keys noWait c) (hsp : s.dev.Spells w i)
        (hrow : exec i s = s.oliol w i (s.dev.loopWith w keys n len.toNat)) (hb : body (n x)) : ∃ t, exec i s = .next t ∧ done t (n x) := by
      obtain ⟨hlen, hn, hends, himage, hdepth, hinside⟩ := hb
      have hgood : (x.atBodyEnd || decide (len.toNat = 0 ∨ 4096 < n x ∨ 4095 < ends ∨ (s.dev.profIssue w c).icount x.port ≤ ends) ||
          decide (4 ≤ x.loops.length) || x.loops.any fun e => decide (e.stop < ends)) = false := by
        have hany : (x.loops.any fun e => decide (e.stop < ends)) = false := by
          rw [List.any_eq_false]
          intro e he
          rw [decide_eq_true_eq]
          exact Nat.not_lt.mpr (hinside e he).2
        rw [hany, Winder.atBodyEnd_false fun e he => (hinside e he).1, Dev.icount_profIssue, decide_eq_false (by omega),
          decide_eq_false (by omega)]
        rfl
      refine ⟨_, s.exec_winder hi hsp _ (x.looped c (n x) len.toNat) hrow
        ((if_neg (ne_true_of_eq_false hgood)).trans ?_), ?_⟩
      · unfold Winder.looped
        split <;> rfl
      · obtain ⟨hregs, hrun, hready, hports, hcycle⟩ := x.looped_frame c (n x) len.toNat
        dsimp only [done]
        rw [State.run_winder_set]
        exact ⟨hregs, hrun, hready, hports, s.sameOutside hs w c _, hcycle, x.looped_next c (n x) len.toNat hends hlen⟩
    have hcount : (if count = 0 then 4096 else count.toNat) = if count.toNat = 0 then 4096 else count.toNat :=
      if_congr BitVec.toNat_inj.symm rfl rfl
    refine ⟨fun hi hb hsp => hloop _ _ (fun x => (x.rg rs).toNat) hi hsp rfl hb, ?_⟩
    intro hi n hb hsp
    exact hloop _ [] (fun _ => n) hi hsp (by show execLoopi w count len s = _; rw [execLoopi, hcount]) hb
  · rw [loopStep, if_pos rfl, if_pos h]
  · rw [loopStep, if_pos rfl, if_neg (Nat.not_lt.mpr h)]

/-! ### WAIT, SAMPLE and HALT (R216) -/

theorem Dev.profStop_prof (d : Dev) (c reason : Nat) : ((d.profStop c reason).cluster c).prof.recs = (d.cluster c).prof.recs := by
  unfold Dev.profStop
  dsimp only
  split
  · rfl
  · rw [Dev.emit_cluster_at, Dev.modCluster_get, if_pos rfl]

/-- A record that enters the buffer of a recording is its newest one. -/
theorem Dev.profAdd_newest (d : Dev) (c : Nat) (r : ProfRec) (t : Nat) (h : (d.cluster c).prof.on = true) :
    ((d.profAdd c r t).cluster c).prof.recs.getLast? = some r := by
  unfold Dev.profAdd
  dsimp only
  rw [if_neg (by rw [h]; decide)]
  generalize (if decide (4096 ≤ (d.cluster c).prof.recs.length) = true then (d.cluster c).prof.recs.drop 1
    else (d.cluster c).prof.recs) = l
  split
  · rw [Dev.profStop_prof, Dev.modCluster_get, if_pos rfl, List.getLast?_concat]
  · rw [Dev.modCluster_get, if_pos rfl, List.getLast?_concat]

/-- Recording an issue leaves what the profiler was set to. -/
theorem Dev.profStop_set (d : Dev) (c reason : Nat) : ((d.profStop c reason).cluster c).prof.set = (d.cluster c).prof.set := by
  unfold Dev.profStop
  dsimp only
  split
  · rfl
  · rw [Dev.emit_cluster_at, Dev.modCluster_get, if_pos rfl]

theorem Dev.profAdd_set (d : Dev) (c : Nat) (r : ProfRec) (t : Nat) : ((d.profAdd c r t).cluster c).prof.set = (d.cluster c).prof.set := by
  unfold Dev.profAdd
  dsimp only
  split
  · rfl
  · generalize (if decide (4096 ≤ (d.cluster c).prof.recs.length) = true then (d.cluster c).prof.recs.drop 1
      else (d.cluster c).prof.recs) = l
    split
    · rw [Dev.profStop_set, Dev.modCluster_get, if_pos rfl]
    · rw [Dev.modCluster_get, if_pos rfl]

theorem Dev.profIssue_set (d : Dev) (w t : Nat) : ((d.profIssue w t).cluster (w / 5)).prof.set = (d.cluster (w / 5)).prof.set := by
  unfold Dev.profIssue
  dsimp only
  split
  · rfl
  · split
    · rw [Dev.modCluster_get, if_pos rfl]
    · split
      · rw [Dev.profAdd_set, Dev.modCluster_get, if_pos rfl, Dev.modCluster_get, if_pos rfl]
      · rw [Dev.modCluster_get, if_pos rfl, Dev.modCluster_get, if_pos rfl]

theorem Dev.profWatches_profIssue (d : Dev) (w t : Nat) : (d.profIssue w t).profWatches w = d.profWatches w := by
  rw [Dev.profWatches, Dev.profIssue_set, Dev.profIssue_winder]
  rfl

/-- SAMPLE leaves everything outside its winder but its cluster, which records the issue and the marker. -/
theorem State.sameOutside_mark (s : State) (hs : s.Settled) (w c : Nat) (tag : Half) (y : Winder) :
    s.SameOutside (s.run (((s.dev.profIssue w c).profMark w c tag).setWinder w y)) w true where
  winders u hu := by simp [Dev.setWinder_get, hu]
  ports _ p := by simp
  mem a := by
    have hquiet : quiet s.dev.outbox := by rw [hs.outbox]; exact fun op ho => (List.not_mem_nil ho).elim
    unfold State.byte
    rw [State.run_mem_quiet]
    · exact Dev.profMark_quiet _ w c tag (Dev.profIssue_quiet s.dev w c hquiet)
    · simp [hs.dma]
  queue := by simp
  units := by simp
  clusters k hk := by
    rw [State.run_cluster, Dev.setWinder_cluster_at, Dev.profMark_cluster _ _ _ _ _ hk, Dev.profIssue_cluster _ _ _ _ hk]

/-- The marker record of a SAMPLE on a winder that a recording watches. -/
theorem Dev.profMark_newest (d : Dev) (w t : Nat) (tag : Half) (hw : d.profWatches w = true) (hon : (d.cluster (w / 5)).prof.on = true) :
    ((d.profMark w t tag).cluster (w / 5)).prof.recs.getLast? = some { d.profRecord w t true with word := sampleWord tag } := by
  rw [Dev.profMark, if_pos hw, Dev.profAdd_newest _ _ _ _ hon]

/-- Settles O13: WAIT retires late, SAMPLE leaves its marker beside the recorded issue, and HALT ends the run. -/
theorem systemResults : Obligations.SystemResults := by
  intro s w rs imm tag c hs x same
  refine ⟨fun hi hsp => ?wait, fun hi => ⟨fun hsp => ?sample, fun hp hserve hsp => ?halt⟩⟩
  case wait =>
    refine ⟨_, s.exec_winder hi hsp _ _ rfl rfl, ?_⟩
    obtain ⟨hregs, hrun, hready, hfell, hports⟩ := x.retire_frame c (max 1 ((x.rg rs + zextH imm).toNat - x.cyc0 - c))
    dsimp only [same]
    rw [State.run_winder_set]
    refine ⟨⟨hregs, hready, hports⟩, hrun, s.sameOutside hs w c _, ?_⟩
    rw [← Nat.sub_sub]
    exact hfell
  case sample =>
    have hrow : exec (.sample w tag) s = .next (s.run (((s.dev.profIssue w c).profMark w c tag).setWinder w (x.retire c 1))) := by
      show execSample w tag s = _
      rw [execSample, Dev.issue_eq hi, s.oliol_at hi hsp]
    obtain ⟨hregs, hrun, hready, hfell, hports⟩ := x.retire_frame c 1
    refine ⟨_, hrow, ?_⟩
    dsimp only [same]
    rw [State.run_winder_set]
    refine ⟨⟨hregs, hready, hports⟩, hrun, s.sameOutside_mark hs w c tag _, hfell, fun hwatch hon => ?_⟩
    rw [State.run_cluster, Dev.setWinder_cluster_at,
      Dev.profMark_newest _ w c tag ((s.dev.profWatches_profIssue w c).trans hwatch) hon]
    exact ⟨_, rfl, rfl, congrArg (fun x : Winder => x.pc.toNat) (s.dev.profIssue_winder w c w), rfl⟩
  case halt =>
    let d : Dev := (s.dev.profIssue w c).setWinder w { x with cycle := c }
    have hrow : exec (.halt w) s = .next (s.run (d.endRun x.port .halted)) := by
      show execHalt w s = _
      rw [execHalt, Dev.issue_eq hi, s.oliol_at hi hsp]
    have hport : d.port x.port = s.dev.port x.port := s.dev.profIssue_port w c x.port
    obtain ⟨hw, _, hkept⟩ := d.endRun_eq x.port .halted
    rw [hport, hserve] at hw
    have hdw : d.winder w = { x with cycle := c } := (Dev.setWinder_get ..).trans (if_pos rfl)
    refine ⟨_, hrow, ?_⟩
    dsimp only [same]
    rw [State.run_winder, hw, if_pos rfl, hdw, State.run_port]
    exact ⟨⟨⟨fun _ _ => rfl, fun _ _ _ => rfl, fun _ _ => rfl, fun _ _ => rfl⟩, rfl, ⟨rfl, rfl, rfl, rfl⟩⟩, rfl, (Port.sealKept_eq hkept).2.1⟩

end Sys2Proof.Machine
end

section
/-! SUPPORT. Rings (R47 to R49, R66, R70, R74 to R78): what of the banksman an event or a completion leaves alone, doorbells, the writes of a ring's
registers, and the way of an event into host memory. -/
namespace Sys2Proof.Machine
open Sys2Proof

/-! ### What a raised event leaves alone -/

/-- The banksman without what it takes events into: the event ring, its pointers, and the moderation of MSI-X. -/
def Bank.ringPart (b : Bank) : Bank := { b with seq := 0, lastSeq := 0, backlog := [], held := [], lost := none, lostCnt := 0 }

theorem Bank.flushLost_ringPart (b : Bank) (time : Dword) : (b.flushLost time).ringPart = b.ringPart := by
  unfold Bank.flushLost
  split
  · rfl
  · split <;> rfl

theorem Bank.drain_ringPart (time : Dword) : ∀ (l : List Done) (b : Bank), (Bank.drain time l b).ringPart = b.ringPart
  | [], b => by
    show (b.flushDue time).ringPart = _
    unfold Bank.flushDue
    split
    · exact b.flushLost_ringPart time
    · rfl
  | x :: xs, b => by
    unfold Bank.drain
    dsimp only
    split
    · exact b.flushLost_ringPart time
    · exact (Bank.drain_ringPart time xs _).trans (b.flushLost_ringPart time)

/-- A raising request leaves the event ring alone and writes nothing. -/
theorem BankOp.apply_ringPart (op : BankOp) (b : Bank) (h : raising op) : (op.apply b).1.ringPart = b.ringPart ∧ (op.apply b).2 = [] := by
  cases op with
  | event typ src payload time =>
    refine ⟨?_, rfl⟩
    show (b.offer typ src payload time).ringPart = _
    unfold Bank.offer
    split
    · rfl
    · exact b.flushLost_ringPart time
  | done x =>
    refine ⟨?_, rfl⟩
    show (b.offerDone x).ringPart = _
    unfold Bank.offerDone
    dsimp only
    split <;> exact b.flushLost_ringPart x.time
  | _ => exact h.elim

/-- The completions that new events bring join the requests. -/
theorem Dev.matchWaits_raising (l : List EvEntry) (d : Dev) (h : ∀ op ∈ d.outbox, raising op) :
    ∀ op ∈ (l.foldl (fun d e => d.matchWaits e) d).outbox, raising op :=
  foldl_raising _ (fun _ _ hd => foldl_raising _ (fun d c hd => d.complete_raising c _ _ hd) _ _ hd) l d h

theorem State.deliver_ringPart : ∀ (n : Nat) (s : State), (∀ op ∈ s.dev.outbox, raising op) →
    (s.deliver n).bank.ringPart = s.bank.ringPart ∧ (s.deliver n).mem = s.mem
  | 0, _, _ => ⟨rfl, rfl⟩
  | n + 1, s, h => by
    unfold State.deliver
    split
    · exact ⟨rfl, rfl⟩
    · next op rest ho =>
      rw [ho] at h
      obtain ⟨hbank, hmem⟩ := op.apply_ringPart s.bank (h op List.mem_cons_self)
      obtain ⟨hb, hm⟩ := State.deliver_ringPart n
        { s with
          dev := (newEvents s.bank (op.apply s.bank).1).foldl (fun d e => d.matchWaits e) { s.dev with outbox := rest }
          bank := (op.apply s.bank).1
          mem := (op.apply s.bank).2.foldl (fun m (w : Nat × Bytes) => memWrite m w.1 w.2) s.mem }
        (Dev.matchWaits_raising _ _ fun o ho => h o (List.mem_cons_of_mem _ ho))
      exact ⟨hb.trans hbank, hm.trans (by rw [hmem]; rfl)⟩

/-- A command with one request: what the request does to the event ring and to host memory, the completions it brings do not change. -/
theorem State.run_request (s : State) (hs : s.Settled) (op : BankOp) :
    (s.run (s.dev.ask op)).bank.ringPart = (op.apply s.bank).1.ringPart ∧
      (s.run (s.dev.ask op)).mem = (op.apply s.bank).2.foldl (fun m (w : Nat × Bytes) => memWrite m w.1 w.2) s.mem := by
  have ho : (s.dev.ask op).outbox = [op] := congrArg (· ++ [op]) hs.outbox
  rw [s.run_of_no_dma (s.dev.ask op) hs.dma, State.deliver]
  simp only [ho]
  exact State.deliver_ringPart _ _ (Dev.matchWaits_raising _ _ fun o ho => (List.not_mem_nil ho).elim)

theorem State.run_request_units (s : State) (hs : s.Settled) (op : BankOp) : s.SameUnits (s.run (s.dev.ask op)) := by
  have h := s.run_dev (s.dev.ask op)
  have hlast := s.run_lastRing (s.dev.ask op)
  unfold State.SameUnits
  rw [hlast]
  refine h.trans ?_
  have hout := hs.outbox
  have hdma := hs.dma
  generalize (s.run (s.dev.ask op)).dev.cmds = cs
  revert hout hdma
  generalize s.dev = d
  intro hout hdma
  obtain ⟨⟩ := d
  subst hout hdma
  rfl

/-! ### Doorbells, pause, resume and EXPSEQ (R48, R76, R77) -/

theorem Dev.open2_of_booted {s : State} (h : s.booted) : s.dev.open2 = true := by
  rw [Dev.open2, h.1, h.2]
  rfl

/-- An event of the rings in a package that has booted, which changes the device alone. -/
theorem State.event_ring (s : State) (hs : s.Settled) (hb : s.booted) (f : Dev → Dev) (e : Dev) (he : f s.dev = e)
    (ho : e.outbox = s.dev.outbox) (hd : e.dma = s.dev.dma) : s.event f = .next { s with dev := e } := by
  rw [s.event_on f hb.1, he, s.run_silent hs e ho hd]

theorem Dev.cmdBell_inside {d : Dev} (ho : d.open2 = true) (r : Fin 8) (v : Word)
    (hv : (d.cmdRing r).en = true → v.toNat % 2 ^ 20 < 2 ^ (d.cmdRing r).size) :
    d.cmdBell r v = d.modCmdRing r fun x => { x with wptr := v.toNat % 2 ^ 20 % 2 ^ 16 } := by
  have hin : ((d.cmdRing r).en && decide (2 ^ (d.cmdRing r).size ≤ v.toNat % 2 ^ 20)) = false := by
    rw [Bool.and_eq_false_imp]
    exact fun h => decide_eq_false (Nat.not_le.mpr (hv h))
  unfold Dev.cmdBell
  dsimp only
  rw [ho, if_neg (by decide), if_neg (ne_true_of_eq_false hin)]

theorem Dev.pktBell_inside (d : Dev) (x : PktRing) (v : Word) (hv : x.en = true → v.toNat % 2 ^ 20 < x.entries) :
    d.pktBell x v = ({ x with wptr := v.toNat % 2 ^ 20 % 2 ^ 16 }, d) := by
  have hin : (x.en && decide (x.entries ≤ v.toNat % 2 ^ 20)) = false := by
    rw [Bool.and_eq_false_imp]
    exact fun h => decide_eq_false (Nat.not_le.mpr (hv h))
  unfold Dev.pktBell
  dsimp only
  rw [if_neg (ne_true_of_eq_false hin)]

theorem Dev.puntBell_inside {d : Dev} (ho : d.open2 = true) (r : Fin 16) (v : Word)
    (hv : (d.punt r).en = true → v.toNat % 2 ^ 20 < (d.punt r).entries) :
    d.puntBell r v = d.modPunt r fun x => { x with wptr := v.toNat % 2 ^ 20 % 2 ^ 16 } := by
  rw [Dev.puntBell, ho, if_neg (by decide), Dev.pktBell_inside _ _ v hv]
  rfl

theorem Dev.injBell_inside {d : Dev} (ho : d.open2 = true) (r : Fin 16) (v : Word)
    (hv : (d.injRing r).en = true → v.toNat % 2 ^ 20 < (d.injRing r).entries) :
    d.injBell r v = d.modInj r fun x => { x with wptr := v.toNat % 2 ^ 20 % 2 ^ 16 } := by
  rw [Dev.injBell, ho, if_neg (by decide), Dev.pktBell_inside _ _ v hv]
  rfl

theorem Dev.evtBell_inside {d : Dev} (ho : d.open2 = true) (b : Bank) (v : Word) (hv : v.toNat % 2 ^ 20 < b.entries)
    (hu : (v.toNat % 2 ^ 20 + b.entries - b.rptr) % b.entries ≤ b.used) :
    d.evtBell b v = d.ask (.evtDoorbell (v.toNat % 2 ^ 20) d.stamp) := by
  unfold Dev.evtBell
  dsimp only
  rw [ho, if_neg (by decide), if_neg (by rw [decide_eq_true_eq]; omega), if_neg (by rw [decide_eq_true_eq]; omega)]

/-- Settles O31: within Table 2-18 a doorbell sets its pointer, and EXPSEQ is kept by a ring that fetches. -/
theorem doorbellsAndRings : Obligations.DoorbellsAndRings := by
  intro s v b hs hb
  have ho := Dev.open2_of_booted hb
  have hopen : ¬(!s.dev.open2) = true := by rw [ho]; decide
  refine ⟨fun r hv => ?cmd, fun r hv => ?punt, fun r hv => ?inject, fun hv hu => ?evt, fun r => ⟨?resume, ?pause, ?expseq⟩⟩
  case cmd => exact s.event_ring hs hb (fun d => d.cmdBell r v) _ (Dev.cmdBell_inside ho r v hv) rfl rfl
  case punt => exact s.event_ring hs hb (fun d => d.puntBell r v) _ (Dev.puntBell_inside ho r v hv) rfl rfl
  case inject => exact s.event_ring hs hb (fun d => d.injBell r v) _ (Dev.injBell_inside ho r v hv) rfl rfl
  case evt =>
    let op : BankOp := .evtDoorbell (v.toNat % 2 ^ 20) s.dev.stamp
    have hrow : exec (.eventDoorbell v) s = .next (s.run (s.dev.ask op)) :=
      (s.event_on (fun d => d.evtBell s.bank v) hb.1).trans (by rw [Dev.evtBell_inside ho s.bank v hv hu])
    obtain ⟨hring, hmem⟩ := s.run_request hs op
    have hring := hring.trans (Bank.drain_ringPart s.dev.stamp (s.bank.doorbell (v.toNat % 2 ^ 20)).held (s.bank.doorbell (v.toNat % 2 ^ 20)))
    exact ⟨_, hrow, s.run_request_units hs op, hmem, (congrArg Bank.rptr hring :), (congrArg Bank.wptr hring :),
      (congrArg Bank.rseq hring :)⟩
  case resume => exact s.event_ring hs hb (fun d => d.ringResume r) _ (if_neg hopen) rfl rfl
  case pause => exact s.event_ring hs hb (fun d => d.ringPause r b) _ (if_neg hopen) rfl rfl
  case expseq =>
    refine ⟨_, s.event_ring hs hb (fun d => d.expseq r v) _ (if_neg hopen) rfl rfl,
      fun k hk => (Dev.modCmdRing_get ..).trans (if_neg hk), ?_⟩
    dsimp only
    rw [Dev.modCmdRing_get, if_pos rfl]
    simp only [Bool.or_eq_true, Bool.not_eq_true', or_assoc]

/-! ### The registers of a ring (R49) -/

theorem PktRing.setCtrl_on (x : PktRing) (h : x.en = false) :
    let y := x.setCtrl ((x.ctrl &&& 0xFFFFFFFE#32) ||| BitVec.ofNat 32 (b2n true))
    y.en = true ∧ y = { x with ctrl := y.ctrl, rptr := 0, wptr := 0 } := by
  have hon : ((x.ctrl &&& 0xFFFFFFFE#32) ||| BitVec.ofNat 32 (b2n true)).getLsbD 0 = true := by
    rw [BitVec.getLsbD_or, show (BitVec.ofNat 32 (b2n true)).getLsbD 0 = true by decide, Bool.or_true]
  dsimp only
  unfold PktRing.setCtrl
  dsimp only
  rw [h, hon, if_pos (by rfl)]
  refine ⟨?_, rfl⟩
  show (_ &&& 0x03FFFF01#32).getLsbD 0 = true
  rw [BitVec.getLsbD_and, hon]
  rfl

theorem Dev.modCmdRing_congr (d : Dev) {r : Nat} {f g : CmdRing → CmdRing} (h : f (d.cmdRing r) = g (d.cmdRing r)) :
    d.modCmdRing r f = d.modCmdRing r g := by
  unfold Dev.modCmdRing
  rw [h]

/-- The first 16 bytes of a ring's registers hold no counter. -/
theorem isCtrReg_ring (v : Variant) (off : Nat) (hlo : 0x10000 ≤ off) (hhi : off < 0x10800) (ho : off % 0x20 < 0x10) : isCtrReg v off = false := by
  refine List.any_eq_false.2 fun b hm => Bool.eq_false_iff.1 (b.holds_eq_false v off ?_)
  revert b
  simp only [ctrBlocks, hubCtrs, dieCtrs, List.forall_mem_append, List.forall_mem_cons, List.not_mem_nil, false_imp_iff, implies_true, and_true]
  and_intros <;> omega

/-- A write of a base or size register of the command-stream block. -/
theorem State.exec_ringReg (s : State) (hb : s.booted) (a : Nat) (v : Word) (ha : a < 0x800) (h4 : a % 4 = 0)
    (ho : a % 0x20 < 0x10) : exec (.registerWrite (BitVec.ofNat 32 (0x10000 + a)) v) s = .next (s.run (s.dev.cmdWrite a v)) := by
  have hoff : (BitVec.ofNat 32 (0x10000 + a)).toNat = 0x10000 + a := by rw [BitVec.toNat_ofNat]; omega
  have hset : s.dev.regWrite (0x10000 + a) v = s.dev.cmdWrite a v := by
    have hq : (0x10000 + a) / 0x10000 = 1 := by omega
    have hm : (0x10000 + a) % 0x10000 = a := by omega
    rw [Dev.regWrite, hb.1, hb.2, if_neg (by decide), Dev.regSet, if_pos (by omega),
      isCtrReg_ring _ _ (by omega) (by omega) (by omega), if_neg (by decide), Dev.hubSet, hq, hm]
    rfl
  rw [exec_registerWrite_aligned s _ v (by omega), hoff, s.event_on _ hb.1, hset]

theorem CmdRing.write_on {x : CmdRing} (h : x.en = true) {o : Nat} (ho : o ∈ [0x0, 0x4, 0x8]) (v : Word) : x.write o v = x := by
  fin_cases ho <;> exact if_pos h

theorem PktRing.write_on {x : PktRing} (h : x.en = true) {o : Nat} (ho : o ∈ [0x0, 0x4, 0x8]) (v : Word) : x.write o v = x := by
  fin_cases ho <;> exact if_pos h

theorem Bank.setReg_on {b : Bank} (h : b.en = true) {o : Nat} (ho : o ∈ [0x0, 0x4, 0x8]) (v : Nat) : b.setReg (0x200 + o) v = b := by
  fin_cases ho <;> exact if_pos h

theorem baseOrSize_bounds {o : Nat} (ho : o ∈ [0x0, 0x4, 0x8]) : o ≤ 8 ∧ o % 4 = 0 := by
  fin_cases ho <;> decide

/-- A request for a ring register that an enabled event ring ignores. -/
theorem Dev.cmdWrite_evt (d : Dev) {o : Nat} (ho : o ∈ [0x0, 0x4, 0x8]) (v : Word) :
    d.cmdWrite (0x200 + o) v = d.ask (.setReg (0x200 + o) v.toNat) := by
  fin_cases ho <;> rfl

/-- Settles O32: each ring by its own write of EN, and an enabled one by its write of base and size. -/
theorem ringEnableResetsPointers : Obligations.RingEnableResetsPointers := by
  intro s v hs hb
  have hopen : ¬(!s.dev.open2) = true := by rw [Dev.open2_of_booted hb]; decide
  refine ⟨fun r hen => ?cmdOn, fun r => ?cmdOff, fun r hen => ?puntOn, fun r hen => ?injOn, fun hen => ?evtOn, fun o hmem =>
    ⟨fun r hen => ?cmdReg, fun r hen => ?puntReg, fun r hen => ?injReg, fun hen => ?evtReg⟩⟩
  case cmdOn =>
    exact s.event_ring hs hb (fun d => d.ringEn (.cmd r) true) _
      ((if_neg hopen).trans (s.dev.modCmdRing_congr (if_pos (by rw [hen]; rfl)))) rfl rfl
  case cmdOff => exact s.event_ring hs hb (fun d => d.ringEn (.cmd r) false) _ (if_neg hopen) rfl rfl
  case puntOn =>
    obtain ⟨hon, hy⟩ := (s.dev.punt r).setCtrl_on hen
    refine ⟨_, s.event_ring hs hb (fun d => d.ringEn (.punt r) true) _ (if_neg hopen) rfl rfl,
      fun k hk => (Dev.modPunt_get ..).trans (if_neg hk), ?_⟩
    dsimp only
    rw [Dev.modPunt_get, if_pos rfl]
    exact ⟨hon, hy⟩
  case injOn =>
    obtain ⟨hon, hy⟩ := (s.dev.injRing r).setCtrl_on hen
    refine ⟨_, s.event_ring hs hb (fun d => d.ringEn (.inj r) true) _ (if_neg hopen) rfl rfl,
      fun k hk => (Dev.modInj_get ..).trans (if_neg hk), ?_⟩
    dsimp only
    rw [Dev.modInj_get, if_pos rfl]
    exact ⟨hon, hy⟩
  case evtOn =>
    let op : BankOp := .setEn true s.dev.stamp
    have hrow : exec (.ringEnWrite .evt true) s = .next (s.run (s.dev.ask op)) :=
      (s.event_on (fun d => d.ringEn .evt true) hb.1).trans (congrArg (fun d => Host.Outcome.next (s.run d)) (if_neg hopen))
    obtain ⟨hring, hmem⟩ := s.run_request hs op
    have hring := hring.trans (Bank.drain_ringPart s.dev.stamp (s.bank.setEn true).held (s.bank.setEn true))
    rw [Bank.setEn, hen, if_pos (by rfl)] at hring
    exact ⟨_, hrow, s.run_request_units hs op, hmem, (congrArg Bank.en hring :), (congrArg Bank.wptr hring :),
      (congrArg Bank.rptr hring :)⟩
  case cmdReg =>
    obtain ⟨hle, h4⟩ := baseOrSize_bounds hmem
    have hr := r.isLt
    have hrow := s.exec_ringReg hb (0x40 * r.val + o) v (by omega) (by omega) (by omega)
    rw [← Nat.add_assoc, Dev.cmdWrite, if_pos (by omega), show (0x40 * r.val + o) / 0x40 = r.val by omega,
      show (0x40 * r.val + o) % 0x40 = o by omega, s.run_silent hs (s.dev.modCmdRing r.val fun x => x.write o v) rfl rfl] at hrow
    refine ⟨_, hrow, fun k => (Dev.modCmdRing_get ..).trans ?_, rfl⟩
    rw [CmdRing.write_on hen hmem]
    exact ite_eq_right_iff.mpr fun h => by rw [h]
  case puntReg =>
    obtain ⟨hle, h4⟩ := baseOrSize_bounds hmem
    have hr := r.isLt
    have hrow := s.exec_ringReg hb (0x400 + 0x20 * r.val + o) v (by omega) (by omega) (by omega)
    rw [← Nat.add_assoc, ← Nat.add_assoc, Dev.cmdWrite, if_neg (by omega), if_neg (by omega), if_pos (by omega),
      show (0x400 + 0x20 * r.val + o - 0x400) / 0x20 = r.val by omega, show (0x400 + 0x20 * r.val + o) % 0x20 = o by omega,
      s.run_silent hs (s.dev.modPunt r.val fun x => x.write o v) rfl rfl] at hrow
    refine ⟨_, hrow, fun k => (Dev.modPunt_get ..).trans ?_, rfl⟩
    rw [PktRing.write_on hen hmem]
    exact ite_eq_right_iff.mpr fun h => by rw [h]
  case injReg =>
    obtain ⟨hle, h4⟩ := baseOrSize_bounds hmem
    have hr := r.isLt
    have hrow := s.exec_ringReg hb (0x600 + 0x20 * r.val + o) v (by omega) (by omega) (by omega)
    rw [← Nat.add_assoc, ← Nat.add_assoc, Dev.cmdWrite, if_neg (by omega), if_neg (by omega), if_neg (by omega), if_pos (by omega),
      show (0x600 + 0x20 * r.val + o - 0x600) / 0x20 = r.val by omega, show (0x600 + 0x20 * r.val + o) % 0x20 = o by omega,
      s.run_silent hs (s.dev.modInj r.val fun x => x.write o v) rfl rfl] at hrow
    refine ⟨_, hrow, fun k => (Dev.modInj_get ..).trans ?_, rfl⟩
    rw [PktRing.write_on hen hmem]
    exact ite_eq_right_iff.mpr fun h => by rw [h]
  case evtReg =>
    obtain ⟨hle, h4⟩ := baseOrSize_bounds hmem
    have hrow := s.exec_ringReg hb (0x200 + o) v (by omega) (by omega) (by omega)
    rw [show 0x10000 + (0x200 + o) = 0x10200 + o by omega, s.dev.cmdWrite_evt hmem v,
      s.run_unanswered (s.dev.ask (.setReg (0x200 + o) v.toNat)) (.setReg (0x200 + o) v.toNat) (congrArg (· ++ [_]) hs.outbox) hs.dma
        (congrArg (·, []) (Bank.setReg_on hen hmem v.toNat))] at hrow
    rw [hrow]
    refine congrArg Host.Outcome.next (congrArg (fun d : Dev => { s with dev := d }) ?_)
    show { s.dev with outbox := [] } = s.dev
    rw [← hs.outbox]

/-! ### An event goes to the event ring (R66, R70, R74) -/

/-- A request that raises nothing: the banksman and host memory as it leaves them, the device as it was. -/
theorem State.run_ask_silent (s : State) (hs : s.Settled) (op : BankOp) (hn : newEvents s.bank (op.apply s.bank).1 = []) :
    s.run (s.dev.ask op) =
      { s with
        bank := (op.apply s.bank).1
        mem := (op.apply s.bank).2.foldl (fun m (w : Nat × Bytes) => memWrite m w.1 w.2) s.mem } := by
  have ho : (s.dev.ask op).outbox = [op] := congrArg (· ++ [op]) hs.outbox
  have hd : { s.dev.ask op with outbox := [] } = s.dev :=
    show { s.dev with outbox := [] } = s.dev by rw [← hs.outbox]
  rw [s.run_of_no_dma (s.dev.ask op) hs.dma, State.deliver]
  simp only [ho, hn, List.foldl_nil, hd]
  exact State.deliver_none _ _ hs.outbox

/-- The banksman after the oldest event has left for the ring. -/
def Bank.afterWrite (b : Bank) (e : EvEntry) (rest : List EvEntry) : Bank :=
  let b1 := { b with backlog := rest, wptr := (b.wptr + 1) % b.entries }.count0Step
  if e.urgent then b1.signal 1 else b1

theorem Bank.ringWrite_cons {b : Bank} {e : EvEntry} {rest : List EvEntry} (hb : b.backlog = e :: rest) (hr : b.room ≠ 0) :
    let addr := ringBase b.baseLo b.baseHi + b.wptr * 32
    b.ringWrite = (b.afterWrite e rest, [(addr + 4, e.bytes.drop 4), (addr, e.bytes.take 4)]) := by
  unfold Bank.ringWrite
  rw [hb]
  exact if_neg hr

/-- Vector 0 is signalled when COUNT events have been counted (R74). -/
theorem Bank.count0Step_eq (b : Bank) : b.count0Step =
    { b with
      count0 := if b.modCount ≤ b.count0 + 1 then 0 else b.count0 + 1
      time0 := if b.modCount ≤ b.count0 + 1 then false else true
      messages := b.messages ++ if b.modCount ≤ b.count0 + 1 then [0] else [] } := by
  unfold count0Step signal
  split
  · rfl
  · rw [List.append_nil]

theorem Bank.afterWrite_fields (b : Bank) (e : EvEntry) (rest : List EvEntry) :
    let y := b.afterWrite e rest
    let full := max 1 (b.modr.toNat % 4096) ≤ b.count0 + 1
    y.backlog = rest ∧ y.wptr = (b.wptr + 1) % b.entries ∧ y.rptr = b.rptr ∧ y.seq = b.seq ∧
      y.count0 = (if full then 0 else b.count0 + 1) ∧
      y.messages = b.messages ++ (if full then [0] else []) ++ (if e.urgent then [1] else []) := by
  dsimp only
  rw [afterWrite, count0Step_eq]
  cases e.urgent with
  | false => exact ⟨rfl, rfl, rfl, rfl, rfl, (List.append_nil _).symm⟩
  | true => exact ⟨rfl, rfl, rfl, rfl, rfl, rfl⟩

/-- The 32 bytes of an entry, the word with its sequence number last. -/
theorem memWrite_entry (m : Sparse Byte) (a : Nat) (bs : Bytes) (h : bs.length = 32) :
    let m' := memWrite (memWrite m (a + 4) (bs.drop 4)) a (bs.take 4)
    memRead m' a 32 = bs ∧ ∀ k, k < a ∨ a + 32 ≤ k → sget memDflt m' k = sget memDflt m k := by
  have htake : (bs.take 4).length = 4 := by rw [List.length_take, h]; rfl
  have hdrop : (bs.drop 4).length = 28 := by rw [List.length_drop, h]
  refine ⟨List.ext_getElem (by simp [memRead, h]) fun i hi hb => ?_, fun k hk => ?_⟩
  · simp only [memRead, List.getElem_map, List.getElem_range]
    by_cases h4 : i < 4
    · rw [memWrite_inside _ _ _ _ (by omega), List.getD_eq_getElem _ _ (by omega), List.getElem_take]
    · have hin := memWrite_inside (bs.drop 4) m (a + 4) (i - 4) (by omega)
      rw [memWrite_outside _ _ _ _ (by omega), show a + i = a + 4 + (i - 4) by omega, hin, List.getD_eq_getElem _ _ (by omega),
        List.getElem_drop]
      exact getElem_congr_idx (by omega)
  · rw [memWrite_outside _ _ _ _ (by omega), memWrite_outside _ _ _ _ (by omega)]

/-- Settles O43: the write raises nothing, and the two writes of host memory are those of one entry. -/
theorem eventRingWriteGoesToMemory : Obligations.EventRingWriteGoesToMemory := by
  intro s e rest hs hr hb hroom hlen hlo hhi addr full
  have hgood : (decide (10 ≤ s.bank.size ∧ s.bank.size ≤ 20) || !s.bank.en) = true := by
    rw [decide_eq_true ⟨hlo, hhi⟩, Bool.true_or]
  obtain ⟨hlog, hwptr, hrptr, hseq, hcount, hmsg⟩ := s.bank.afterWrite_fields e rest
  have hwrite := Bank.ringWrite_cons hb hroom
  have hnew : newEvents s.bank (BankOp.apply .ringWrite s.bank).1 = [] := by
    show newEvents s.bank s.bank.ringWrite.1 = []
    rw [hwrite, newEvents, hseq, BitVec.sub_self]
    exact List.drop_length
  have hrow : exec .eventRingWrite s = .next (s.run (s.dev.ask .ringWrite)) :=
    (s.event_on (fun d => d.evtRingWrite s.bank) hr).trans (congrArg (fun d => Host.Outcome.next (s.run d)) (if_pos hgood))
  rw [s.run_ask_silent hs .ringWrite hnew] at hrow
  have happly : BankOp.apply .ringWrite s.bank = _ := hwrite
  rw [happly] at hrow
  obtain ⟨hbytes, hrest⟩ := memWrite_entry s.mem addr e.bytes hlen
  exact ⟨_, hrow, rfl, hbytes, hrest, hlog, hwptr, hrptr, hseq, hcount, hmsg⟩

end Sys2Proof.Machine
end

section
/-! SUPPORT. The life of a host command that something keeps waiting, or that has a mistake in it (R57 to R60, R87); the commands of stream control
(Table 2-8); the fetch of a command entry (R75, R76). -/
namespace Sys2Proof.Machine
open Sys2Proof

/-! ### What an end of a command leaves of the accepted ones -/

theorem dropFirst_sublist {α : Type} (p : α → Bool) (l : List α) : (dropFirst p l).Sublist l := by
  rw [dropFirst_eq_eraseP]
  exact List.eraseP_sublist

theorem Dev.complete_cmds_sublist (d : Dev) (c : Tag) (st : Nat) (r : Bytes) : (d.complete c st r).cmds.Sublist d.cmds := by
  unfold Dev.complete
  split
  · exact List.Sublist.refl _
  · exact dropFirst_sublist _ _

theorem foldl_cmds_sublist {β : Type} (f : Dev → β → Dev) (h : ∀ d b, (f d b).cmds.Sublist d.cmds) :
    ∀ (l : List β) (d : Dev), (l.foldl f d).cmds.Sublist d.cmds
  | [], _ => List.Sublist.refl _
  | b :: l, d => (foldl_cmds_sublist f h l (f d b)).trans (h d b)

theorem Dev.matchWaits_cmds_sublist (l : List EvEntry) (d : Dev) : (l.foldl (fun d e => d.matchWaits e) d).cmds.Sublist d.cmds :=
  foldl_cmds_sublist _ (fun d _ => foldl_cmds_sublist _ (fun d c => d.complete_cmds_sublist c _ _) _ d) l d

theorem State.deliver_cmds_sublist : ∀ (n : Nat) (s : State), (s.deliver n).dev.cmds.Sublist s.dev.cmds
  | 0, _ => List.Sublist.refl _
  | n + 1, s => by
    unfold State.deliver
    split
    · exact List.Sublist.refl _
    · next op rest ho =>
      exact (State.deliver_cmds_sublist n _).trans (Dev.matchWaits_cmds_sublist _ { s.dev with outbox := rest })

/-- The end of a command only takes accepted commands away. -/
theorem State.run_cmds_sublist (s : State) (d : Dev) : (s.run d).dev.cmds.Sublist d.cmds :=
  State.deliver_cmds_sublist _ { s with dev := { d with dma := [] }, mem := _ }

theorem Dev.eq_of_no_requests (d : Dev) (ho : d.outbox = []) (hd : d.dma = []) : { d with outbox := [], dma := [] } = d := by
  obtain ⟨⟩ := d
  subst ho hd
  rfl

/-- A command with one raising request leaves host memory as it is. -/
theorem State.run_request_mem (s : State) (d : Dev) (op : BankOp) (ho : d.outbox = [op]) (hd : d.dma = []) (hr : raising op) :
    (s.run d).mem = s.mem := by
  rw [s.run_of_no_dma d hd]
  exact (State.deliver_ringPart _ { s with dev := d } (by
    show ∀ op ∈ d.outbox, raising op
    rw [ho]
    exact List.forall_mem_singleton.mpr hr)).2

/-! ### Mistakes (R87) -/

/-- What a mistake asks of the banksman are events, behind what was asked before. -/
theorem Reach.merge_outbox (r : Reach) (d x : Dev) : ∃ ops, (r.merge d x).outbox = d.outbox ++ ops ∧ ∀ op ∈ ops, raising op := by
  have hfilter (l : List BankOp) (src : Nat → Bool) : ∀ op ∈ l.filter (BankOp.eventOf src), raising op := by
    intro op ho
    have h := (List.mem_filter.mp ho).2
    cases op <;> trivial
  cases r with
  | package => exact ⟨_, rfl, hfilter _ _⟩
  | tree p => exact ⟨_, rfl, hfilter _ _⟩
  | _ => exact ⟨[], (List.append_nil _).symm, fun _ h => nomatch h⟩

theorem Dev.spoil_outbox (d : Dev) (r : Reach) : ∃ ops, (d.spoil r).outbox = d.outbox ++ ops ∧ ∀ op ∈ ops, raising op := by
  unfold Dev.spoil
  dsimp only
  split
  · exact ⟨[], (List.append_nil _).symm, fun _ h => nomatch h⟩
  · exact r.merge_outbox _ _

theorem Dev.spoils_outbox : ∀ (rs : List Reach) (d : Dev), ∃ ops, (rs.foldl Dev.spoil d).outbox = d.outbox ++ ops ∧ ∀ op ∈ ops, raising op
  | [], d => ⟨[], (List.append_nil _).symm, fun _ h => nomatch h⟩
  | r :: rs, d => by
    obtain ⟨ops, hops, hraise⟩ := d.spoil_outbox r
    obtain ⟨ops', hops', hraise'⟩ := Dev.spoils_outbox rs (d.spoil r)
    refine ⟨ops ++ ops', by rw [List.foldl_cons, hops', hops, List.append_assoc], fun op ho => ?_⟩
    exact (List.mem_append.mp ho).elim (hraise op) (hraise' op)

theorem length_le_bytes (n v : Nat) : (le n v).length = n := by
  induction n generalizing v with
  | zero => rfl
  | succ n ih => rw [le, List.length_cons, ih]

/-- A host command with a mistake in it ends in one CMD_DONE, with a status that is not GAP (R87). -/
theorem State.host_mistaken_completes (s : State) (i : Instr) (c : Tag) (obj : Word) (h : HostCmd) (ho : s.Open) (hn : s.New c)
    (hr : s.Ready i c obj h) (hg : h.good = false) :
    ∃ t st res, s.host i c obj h = .next t ∧ st < 5 ∧ res.length = 8 ∧ s.Completes t c h.opc st res := by
  let d := s.dev.startOn i c obj h.opc .running
  let d2 : Dev := ((d.pick 3).2.pick 64).2
  let st := (d.pick 3).1 % 5
  let res := le 8 ((d.pick 3).2.pick 64).1
  have hcomplete : d2.complete c st res =
      { d2 with cmds := s.dev.cmds, outbox := [.done { tag := c, opc := h.opc, status := st, result := padTo 8 res, time := s.dev.stamp }] } := by
    have hnew := Dev.complete_new d2 s.dev.cmds ⟨c, obj, h.opc, i, .running, 0⟩ rfl hn st res
    have hout : d2.outbox = [] := ho.settled.outbox
    rw [hout] at hnew
    exact hnew
  obtain ⟨ops, hops, hraise⟩ := Dev.spoils_outbox h.reach (d2.complete c st res)
  have hout : (d.mistaken c h.reach).outbox =
      .done { tag := c, opc := h.opc, status := st, result := padTo 8 res, time := s.dev.stamp } :: ops :=
    hops.trans (congrArg (fun d : Dev => d.outbox ++ ops) hcomplete)
  refine ⟨_, st, res, s.host_mistaken i c obj h hr hg, Nat.mod_lt _ (by decide), length_le_bytes 8 _, ?_⟩
  exact s.run_completes ho (d.mistaken c h.reach) c h.opc st res ops hout hraise

/-! ### COMMAND_START (R57, R60) -/

/-- The turn is that of the one ring that could start a command. -/
theorem Dev.turnOf_only (d : Dev) (has : Fin 8 → Bool) (r : Fin 8) (hr : has r = true) (ho : ∀ k, has k = true → k = r) :
    d.turnOf has = some r := by
  have hmem : r ∈ (List.range 8).map fun k => Fin.ofNat 8 (d.lastRing + 1 + k) := by
    refine List.mem_map.mpr ⟨(r.val + (7 - d.lastRing % 8)) % 8, List.mem_range.mpr (Nat.mod_lt _ (by decide)), Fin.ext ?_⟩
    have h := r.isLt
    show (d.lastRing + 1 + (r.val + (7 - d.lastRing % 8)) % 8) % 8 = r.val
    omega
  obtain ⟨k, hk⟩ := Option.isSome_iff_exists.mp (List.find?_isSome.mpr ⟨r, hmem, hr⟩)
  rw [Dev.turnOf, hk, ho k (List.find?_some hk)]

theorem Dev.nextHeld_only {d : Dev} {a : Active} (hc : d.cmds = [a]) (hp : a.phase = .held) (k : Fin 8) :
    d.nextHeld k = if a.tag.ring = k then some a else none := by
  unfold Dev.nextHeld
  rw [hc, List.find?_singleton, List.filter_singleton, hp]
  by_cases hk : a.tag.ring = k
  · simp [hk]
  · simp [hk]

/-- The one command that waits is started and begins. -/
theorem Dev.startNext_only {d : Dev} {a : Active} (hc : d.cmds = [a]) (hp : a.phase = .held) (e : Env) (he : e.bank.stalled = false)
    (hdram : d.ddr.ready = true ∨ needsDram a.cmd a.obj = false) :
    d.startNext e a.tag.ring =
      { d with cmds := [{ a with phase := .started }], lastRing := a.tag.ring.val }.begin e { a with phase := .started } := by
  have hnone : d.canBegin a.tag.ring [] [a] = none := by
    unfold Dev.canBegin
    rw [hp, if_neg (by simp)]
    rfl
  have hturn : d.turn = some a.tag.ring := by
    refine d.turnOf_only _ _ ?_ fun k hk => ?_
    · rw [Dev.nextHeld_only hc hp, if_pos rfl]
      rfl
    · rw [Dev.nextHeld_only hc hp] at hk
      by_contra hne
      rw [if_neg (Ne.symm hne)] at hk
      cases hk
  have hdrop : dropFirst (fun x => x == a) [a] = [] := by rw [dropFirst, if_pos (by rw [beq_self_eq_true])]
  have hgo : ({ d with cmds := [{ a with phase := .started }], lastRing := a.tag.ring.val } : Dev).waitsFor []
      { a with phase := .started } = false := by
    rcases hdram with h | h <;> simp [Dev.waitsFor, h]
  unfold Dev.startNext
  rw [hc, hnone]
  dsimp only
  rw [Dev.nextHeld_only hc hp, if_pos rfl]
  dsimp only
  rw [he, hturn, if_neg (by simp), hdrop]
  exact if_neg (ne_true_of_eq_false hgo)

theorem modWhere_started (a : Active) : modWhere (fun x => x.tag == a.tag && x.phase == .started) (fun x => { x with phase := .running })
    [{ a with phase := .started }] = [{ a with phase := .running }] := by
  simp [modWhere]

theorem Dev.dieLost_iff (d : Dev) (x : Nat) : d.dieLost x = false ↔ (d.drift x).silent = false ∧ (d.drift x).held = false := by
  rw [Dev.dieLost, Bool.or_eq_false_iff]

/-- The effect of a command whose object is there and reached. -/
theorem Dev.effect_good {d : Dev} {c : Tag} {obj : Word} {h : HostCmd} (ho : objAbsent d.variant obj = false) (ha : h.absent = false)
    (hd : ∀ x ∈ objDie obj, d.dieLost x = false) (hg : h.good = true) : d.effect c obj h = h.body d := by
  have hheld : (objDie obj).any (fun x => (d.drift x).held) = false := by
    cases hx : objDie obj with
    | none => rfl
    | some x => exact ((d.dieLost_iff x).mp (hd x hx)).2
  have hsilent : (objDie obj).any (fun x => (d.drift x).silent) = false := by
    cases hx : objDie obj with
    | none => rfl
    | some x => exact ((d.dieLost_iff x).mp (hd x hx)).1
  unfold Dev.effect
  rw [ho, ha, hheld, hsilent, hg]
  rfl

/-- Settles O40: each way to wait is a branch of `Dev.start`; the only command that waits is the next to start. -/
theorem commandsWaitTheirTurn : Obligations.CommandsWaitTheirTurn := by
  refine ⟨fun s i c obj h hs => ?accept, fun s r a c obj h hs hb hst hc hr hp => ?start, fun s r a ho hb hst hc hr hp hcmd => ?nop⟩
  case accept =>
    intro may waits
    have hmay : (!s.dev.board.bootDone || decide (256 ≤ s.dev.active s.bank c.ring)) = true ↔ ¬may := by
      simp only [may, Bool.or_eq_true, Bool.not_eq_true', decide_eq_true_eq, not_and_or, Bool.not_eq_true, Nat.not_lt]
    have hwaits : (s.bank.stalled || s.dev.ringHolds c || s.dev.outOfTurn c.ring) = true ↔ waits := by
      simp only [waits, Bool.or_eq_true, or_assoc]
    refine ⟨fun hm => ?_, fun hm hw => ?_, fun hm hw hobj => ?_, s.host_mistaken_completes i c obj h⟩
    · rw [State.host, Dev.start, if_pos (hmay.mpr hm), State.next, s.run_self hs]
    · rw [State.host, Dev.start, if_neg (fun hn => hmay.mp hn hm), if_pos (hwaits.mpr hw), State.next,
        s.run_silent hs (s.dev.accept i c obj h.opc .held) rfl rfl]
    · rw [State.host, Dev.start, if_neg (fun hn => hmay.mp hn hm), if_neg (fun hn => hw (hwaits.mp hn)),
        if_pos (by rcases hobj with h | ⟨h1, h2⟩ <;> simp [*]), State.next, s.run_silent hs (s.dev.startOn i c obj h.opc .started) rfl rfl]
      rfl
  case start =>
    intro d hdram hknown hcmd hobj habs hdie hgood
    subst hr
    refine (s.event_on (fun d => d.startNext s.env a.tag.ring) hb.1).trans (congrArg (fun d => Host.Outcome.next (s.run d)) ?_)
    rw [Dev.startNext_only hc hp s.env hst hdram, Dev.begin, modWhere_started]
    dsimp only
    rw [if_neg (by rw [show ({ a with phase := .started } : Active).unknown = a.unknown from rfl, hknown]; decide), hcmd]
    exact Dev.effect_good (d := d) hobj habs hdie hgood
  case nop =>
    subst hr
    let d : Dev := { s.dev with cmds := [{ a with phase := .running }], lastRing := a.tag.ring }
    let st := if a.opc = 1 then 0 else 2
    have hbegin : s.dev.startNext s.env a.tag.ring = d.complete a.tag st := by
      rw [Dev.startNext_only hc hp s.env hst (.inr (by rw [hcmd]; rfl)), Dev.begin, modWhere_started]
      dsimp only
      by_cases hopc : a.opc = 1
      · have hknown : ({ a with phase := .started } : Active).unknown = false := by simp [Active.unknown, hcmd, hopc]
        have hhost (e : Env) (d : Dev) : hostCmd a.cmd e d = some (a.tag, 0, cmdNop a.tag 0 d) := by rw [hcmd]; rfl
        rw [hknown, if_neg (by decide), hhost]
        have hbody := Dev.effect_good (d := d) (c := a.tag) (obj := 0) (h := cmdNop a.tag 0 d) rfl rfl
          (fun x hx => by rw [show objDie 0 = none from rfl] at hx; cases hx) rfl
        rw [show st = stOk from if_pos hopc]
        exact hbody
      · have hunknown : ({ a with phase := .started } : Active).unknown = true := by simp [Active.unknown, hcmd, hopc]
        rw [hunknown, if_pos rfl, show st = stFailed from if_neg hopc]
    have hcomplete := Dev.complete_new d [] { a with phase := .running } rfl (fun _ hx => nomatch hx) st []
    have hrow := (s.event_on (fun d => d.startNext s.env a.tag.ring) hb.1).trans
      (congrArg (fun d => Host.Outcome.next (s.run d)) (hbegin.trans hcomplete))
    let e : Dev := { d with cmds := [], outbox := d.outbox ++ [.done ⟨a.tag, a.opc, st, padTo 8 [], d.stamp⟩] }
    have hcmds : (s.run e).dev.cmds = [] := List.sublist_nil.mp (s.run_cmds_sublist e)
    have hdev := s.run_dev e
    rw [hcmds] at hdev
    refine ⟨_, hrow, ?_, hdev.trans ?_⟩
    · exact s.run_completes ho e a.tag a.opc st [] [] (congrArg (· ++ [_]) ho.settled.outbox) (fun _ hx => nomatch hx)
    · exact Dev.eq_of_no_requests { s.dev with cmds := [], lastRing := a.tag.ring.val } ho.settled.outbox ho.settled.dma

/-! ### Stream control (Table 2-8) -/

/-- A command that begins and neither ends nor changes the device: it is left running. -/
theorem State.host_runs_on (s : State) (hs : s.Settled) {i : Instr} {c : Tag} {obj : Word} {h : HostCmd} (hf : s.Free i c obj h)
    (hb : h.body (s.dev.startOn i c obj h.opc .running) = s.dev.startOn i c obj h.opc .running) :
    s.host i c obj h = .next { s with dev := { s.dev.accept i c obj h.opc .running with lastRing := c.ring.val } } := by
  rw [s.host_free i c obj h hf, State.after, hb, s.run_silent hs (s.dev.startOn i c obj h.opc .running) rfl rfl]
  rfl

/-- A command that ends at once and does nothing else. -/
theorem State.host_ends (s : State) (ho : s.Open) {i : Instr} {c : Tag} {obj : Word} {h : HostCmd} (hn : s.New c) (hf : s.Free i c obj h)
    {st : Nat} {r : Bytes} (hb : h.body (s.dev.startOn i c obj h.opc .running) = (s.dev.startOn i c obj h.opc .running).complete c st r) :
    ∃ t, s.host i c obj h = .next t ∧ s.Completes t c h.opc st r ∧ s.SameUnits t := by
  obtain ⟨t, hrow, hdone, hdev⟩ := s.host_completes ho hn hf _ hb rfl rfl rfl
  have hempty := Dev.eq_of_no_requests { s.dev with cmds := t.dev.cmds, lastRing := c.ring.val } ho.settled.outbox ho.settled.dma
  have hdev := hdev.trans hempty
  have hlast : t.dev.lastRing = c.ring.val := by rw [hdev]
  exact ⟨t, hrow, hdone, by rw [State.SameUnits, hlast]; exact hdev⟩

theorem Dev.regRead_scratch (d : Dev) (b : Bank) (hr : d.board.resetN = false) (hb : d.board.bootDone = true) :
    d.regRead b 0xC = d.board.scratch.toNat := by
  rw [Dev.regRead, hr, hb, if_neg (by decide), if_pos (by rfl), Dev.regAt, if_pos (by decide), isCtrReg_hub _ _ (by decide), if_neg (by decide)]
  rfl

theorem Dev.regWrite_scratch (d : Dev) (v : Word) (hr : d.board.resetN = false) (hb : d.board.bootDone = true) :
    d.regWrite 0xC v = { d with board := { d.board with scratch := v } } := by
  rw [Dev.regWrite, hr, hb, if_neg (by decide), Dev.regSet_hub _ _ _ (by decide)]
  rfl

/-- Settles O41: each command of Table 2-8 either ends at once or is left running. -/
theorem streamControlResults : Obligations.StreamControlResults := by
  intro s c sec ns limit value mask typ src m ho hn hb
  refine ⟨fun hf => ?nop, fun hf => ?time, fun hf => ?event, fun hf => ?read, fun hf => ?write⟩
  case nop => exact s.host_ends ho hn hf rfl
  case time =>
    split
    next h => exact s.host_ends ho hn hf (if_pos h)
    next h => exact s.host_runs_on ho.settled hf (if_neg h)
  case event =>
    split
    next h => exact s.host_ends ho hn hf (if_pos h)
    next h => exact s.host_runs_on ho.settled hf (if_neg h)
  case read =>
    refine s.host_ends ho hn hf ?_
    let d := s.dev.startOn (.readReg c 0 0xC 1) c 0 4 .running
    have hread : d.hostRead s.bank 0xC = (s.dev.board.scratch.toNat, d) := by
      refine Prod.ext (d.regRead_scratch s.bank hb.1 hb.2) ?_
      show d.readEffect 0xC = d
      rw [Dev.readEffect, if_neg (by rw [show d.board.bootDone = true from hb.2]; decide)]
      rfl
    have hbody : (cmdReadReg c 0 0xC 1 s.env s.dev).body d =
        (d.hostRead s.bank 0xC).2.complete c stOk (le 4 (d.hostRead s.bank 0xC).1) := rfl
    rw [hread] at hbody
    exact hbody
  case write =>
    let d := s.dev.startOn (.writeReg c 0 0xC value mask) c 0 5 .running
    let v : Word := (value &&& mask) ||| (s.dev.board.scratch &&& ~~~mask)
    have hmasked : d.masked s.bank 0xC value mask = v := by
      rw [Dev.masked, d.regRead_scratch s.bank hb.1 hb.2, ofNat_toNat_self, show w1cBits 0xC = 0#32 by decide, BitVec.or_zero]
      rfl
    have hbody : (cmdWriteReg c 0 0xC value mask s.env s.dev).body d =
        ({ d with board := { d.board with scratch := v } } : Dev).complete c stOk := by
      show (d.regWrite 0xC (d.masked s.bank 0xC value mask)).complete c stOk = _
      rw [hmasked, d.regWrite_scratch v hb.1 hb.2]
    obtain ⟨t, hrow, hdone, hdev⟩ := s.host_completes ho hn hf _ hbody rfl rfl rfl
    have hdev := hdev.trans (Dev.eq_of_no_requests
      { s.dev with cmds := t.dev.cmds, lastRing := c.ring.val, board := { s.dev.board with scratch := v } } ho.settled.outbox ho.settled.dma)
    have hlast : t.dev.lastRing = c.ring.val := by rw [hdev]
    exact ⟨t, hrow, hdone, by rw [hlast]; exact hdev⟩

/-! ### Fetch (R75, R76) -/

theorem ofLe_lt (b : Bytes) : ofLe b < 256 ^ b.length := by
  induction b with
  | nil => exact Nat.one_pos
  | cons x b ih =>
    have hx := x.isLt
    rw [ofLe, List.length_cons, Nat.pow_succ]
    omega

theorem le_ofLe (b : Bytes) : le b.length (ofLe b) = b := by
  induction b with
  | nil => rfl
  | cons x b ih =>
    have hx := x.isLt
    have hhead : BitVec.ofNat 8 (x.toNat + 256 * ofLe b) = x := BitVec.eq_of_toNat_eq (by rw [BitVec.toNat_ofNat]; omega)
    rw [List.length_cons, ofLe, le, hhead, show (x.toNat + 256 * ofLe b) / 256 = ofLe b by omega, ih]

/-- A field that lies within the bytes. -/
theorem bslice_within (b : Bytes) (o n : Nat) (h : o + n ≤ b.length) : bslice b o n = (b.drop o).take n := by
  have hlen : ((b.drop o).take n).length = n := by rw [List.length_take, List.length_drop]; omega
  rw [bslice, hlen, Nat.sub_self, List.replicate_zero, List.append_nil]

theorem eW_toNat (b : Bytes) (o : Nat) (h : o + 4 ≤ b.length) : (eW b o).toNat = ofLe ((b.drop o).take 4) := by
  have hlt := ofLe_lt ((b.drop o).take 4)
  rw [List.length_take, List.length_drop, show min 4 (b.length - o) = 4 by omega] at hlt
  rw [eW, BitVec.toNat_ofNat, fld, bslice_within b o 4 h, Nat.mod_eq_of_lt (by omega)]

theorem length_memRead (m : Sparse Byte) (a n : Nat) : (memRead m a n).length = n := by
  unfold memRead
  rw [List.length_map, List.length_range]

/-- The ring is one that fetches: enabled, neither halted nor paused, with an entry to read and room for a command (R56, R58). -/
structure Dev.Fetches (d : Dev) (bk : Bank) (r : Fin 8) : Prop where
  opened : d.open2 = true
  en : (d.cmdRing r).en = true
  halted : (d.cmdRing r).halted = false
  paused : (d.cmdRing r).paused = false
  size : 6 ≤ (d.cmdRing r).size ∧ (d.cmdRing r).size ≤ 16
  room : d.active bk r < 256
  entry : (d.cmdRing r).rptr ≠ (d.cmdRing r).wptr

/-- The entry at RPTR. -/
def Dev.entryAt (d : Dev) (m : Sparse Byte) (r : Fin 8) : Bytes :=
  memRead m (ringBase (d.cmdRing r).baseLo (d.cmdRing r).baseHi + (d.cmdRing r).rptr * 64) 64

/-- The tag that an entry with the expected SEQ gives its command. -/
def CmdRing.tagOf (x : CmdRing) (r : Fin 8) (b : Bytes) : Tag := { ring := r, seq := x.expSeq, flags := eH b 6 }

theorem Dev.accept_cmdRing (d : Dev) (i : Instr) (c : Tag) (obj : Word) (opc : Nat) (ph : Phase) (k : Nat) :
    (d.accept i c obj opc ph).cmdRing k = d.cmdRing k := rfl

theorem Dev.fetchEntry_eq {d : Dev} {bk : Bank} {r : Fin 8} (h : d.Fetches bk r) (m : Sparse Byte) (b : Bytes) (hb : d.entryAt m r = b) :
    d.fetchEntry bk m r =
      if eW b 0 = (d.cmdRing r).expSeq then
        (d.modCmdRing r fun x => { x with rptr := (x.rptr + 1) % 2 ^ x.size, expSeq := x.expSeq + 1 }).accept
          ((entryInstr ((d.cmdRing r).tagOf r b) (fld b 4 2) (eW b 8) b).getD (.nop ((d.cmdRing r).tagOf r b) (eW b 8)))
          ((d.cmdRing r).tagOf r b) (eW b 8) (fld b 4 2) .held
      else
        (d.modCmdRing r fun x => { x with halted := true, gapSeq := eW b 0 }).ask
          (.done { tag := { ring := r, seq := eW b 0, flags := 0 }, opc := fld b 4 2, status := stGap,
                   result := padTo 8 (le 4 (d.cmdRing r).expSeq.toNat), time := d.stamp }) := by
  have hgo : (!d.open2 || !(d.cmdRing r).en || (d.cmdRing r).halted || (d.cmdRing r).paused || decide (256 ≤ d.active bk r) ||
      (d.cmdRing r).rptr == (d.cmdRing r).wptr) = false := by
    rw [h.opened, h.en, h.halted, h.paused, decide_eq_false (Nat.not_le.mpr h.room), beq_false_of_ne h.entry]
    rfl
  have hread : d.readEntry m r = (b, d) := (if_pos (decide_eq_true h.size)).trans (congrArg (·, d) hb)
  unfold Dev.fetchEntry
  dsimp only
  rw [hgo, if_neg Bool.false_ne_true, hread]
  dsimp only
  split
  next hseq => rw [hseq]; rfl
  next => rfl

theorem padTo_of_le {n : Nat} {b : Bytes} (h : b.length ≤ n) : padTo n b = b ++ List.replicate (n - b.length) 0 := by
  rw [padTo, bslice, List.drop_zero, List.take_of_length_le h]

/-- The payload of an event counts as padded to its 16 bytes. -/
theorem State.Raises.congr {s t : State} {typ src : Nat} {pl pl' : Bytes} (h : s.Raises t typ src pl) (hp : padTo 16 pl = padTo 16 pl') :
    s.Raises t typ src pl' := by
  unfold State.Raises
  rw [← hp]
  exact h

/-- The payload of a GAP completion (R76). -/
theorem gapPayload (b : Bytes) (r : Fin 8) (e : Nat) (h : 6 ≤ b.length) :
    padTo 16 (le 4 (ofLe (b.take 4)) ++ le 1 stGap ++ le 1 r.val ++ le 2 (ofLe ((b.drop 4).take 2)) ++ padTo 8 (padTo 8 (le 4 e))) =
      padTo 16 (b.take 4 ++ [5, BitVec.ofNat 8 r.val] ++ (b.drop 4).take 2 ++ le 4 e) := by
  have h4 : (b.take 4).length = 4 := by rw [List.length_take]; omega
  have h2 : ((b.drop 4).take 2).length = 2 := by rw [List.length_take, List.length_drop]; omega
  have hseq : le 4 (ofLe (b.take 4)) = b.take 4 := by
    have h := le_ofLe (b.take 4)
    rwa [h4] at h
  have hopc : le 2 (ofLe ((b.drop 4).take 2)) = (b.drop 4).take 2 := by
    have h := le_ofLe ((b.drop 4).take 2)
    rwa [h2] at h
  have he := length_le_bytes 4 e
  have hpad : padTo 8 (padTo 8 (le 4 e)) = le 4 e ++ List.replicate 4 0 := by rw [padTo_padTo, padTo_of_le (by omega), he]
  rw [hseq, hopc, hpad, padTo_of_le (by simp [h4, h2, he, length_le_bytes]), padTo_of_le (by simp [h4, h2, he])]
  simp [h4, h2, le, stGap]

/-- Settles O42: the entry's SEQ is the expected one, or the GAP completion is the ring's only request. -/
theorem fetchComparesSequenceNumbers : Obligations.FetchComparesSequenceNumbers := by
  intro s r ho hb x hen hhalt hpause hlo hhi hroom hentry entry
  have hf : s.dev.Fetches s.bank r := ⟨Dev.open2_of_booted hb, hen, hhalt, hpause, ⟨hlo, hhi⟩, hroom, hentry⟩
  have hlen : entry.length = 64 := length_memRead ..
  have hseqNat : (eW entry 0).toNat = ofLe (entry.take 4) := eW_toNat entry 0 (by omega)
  have hopc : fld entry 4 2 = ofLe ((entry.drop 4).take 2) := by rw [fld, bslice_within _ _ _ (by omega)]
  have hrow : exec (.commandEntryFetch r) s = _ := s.event_on (fun d => d.fetchEntry s.bank s.mem r) hb.1
  rw [Dev.fetchEntry_eq hf s.mem entry rfl] at hrow
  by_cases hseq : ofLe (entry.take 4) = x.expSeq.toNat
  case pos =>
    rw [if_pos (BitVec.eq_of_toNat_eq (hseqNat.trans hseq)), s.run_silent ho.settled (Dev.accept (s.dev.modCmdRing r fun x =>
      { x with rptr := (x.rptr + 1) % 2 ^ x.size, expSeq := x.expSeq + 1 }) _ _ _ _ _) rfl rfl] at hrow
    refine ⟨_, hrow, rfl, fun k hk => ?_, fun _ => ⟨?_, rfl, _, rfl, rfl, rfl, hopc, eW_toNat entry 8 (by omega), rfl⟩,
      fun hne => absurd hseq hne⟩
    all_goals
      dsimp only
      rw [Dev.accept_cmdRing, Dev.modCmdRing_get]
    · exact if_neg hk
    · exact if_pos rfl
  case neg =>
    rw [if_neg (fun h => hseq (hseqNat.symm.trans (congrArg BitVec.toNat h)))] at hrow
    let d : Dev := s.dev.modCmdRing r fun x => { x with halted := true, gapSeq := eW entry 0 }
    let op : BankOp := .done { tag := { ring := r, seq := eW entry 0, flags := 0 }, opc := fld entry 4 2, status := stGap,
                               result := padTo 8 (le 4 x.expSeq.toNat), time := s.dev.stamp }
    have hout : (d.ask op).outbox = [op] := congrArg (· ++ [op]) ho.settled.outbox
    have hring (k : Nat) : (s.run (d.ask op)).dev.cmdRing k = d.cmdRing k := s.run_cmdRing (d.ask op) k
    have hdone := s.run_completes ho (d.ask op) _ (fld entry 4 2) stGap (le 4 x.expSeq.toNat) [] hout (fun _ h => nomatch h)
    refine ⟨_, hrow, s.run_request_mem (d.ask op) op hout ho.settled.dma trivial,
      fun k hk => (hring k).trans ((Dev.modCmdRing_get ..).trans (if_neg hk)), fun heq => absurd heq hseq, fun _ =>
      ⟨(hring r).trans ((Dev.modCmdRing_get ..).trans ((if_pos rfl).trans ?_)), fun a ha => (s.run_cmds_sublist (d.ask op)).subset ha,
        State.Raises.congr hdone ?_⟩⟩
    · rw [← hseqNat, BitVec.ofNat_toNat, BitVec.setWidth_eq]
    · rw [hseqNat, hopc]
      exact gapPayload entry r x.expSeq.toNat (by omega)

end Sys2Proof.Machine
end

section
/-! SUPPORT. An inject send to an uplink port (R82, R85, R321, R363): its descriptor, its way through partition 2 of the packet buffer, the tail of the
egress queue, and the sends of its ring that end before it. -/
namespace Sys2Proof.Machine
open Sys2Proof

/-! ### The packet buffer (R321, R322) -/

/-- What the uplink ports and the sends in flight see of the device. -/
structure Dev.SameSends (d e : Dev) : Prop where
  ulk : e.ulk = d.ulk
  cls : e.cls = d.cls
  rings : e.injRings = d.injRings
  inj : e.inj = d.inj

theorem Dev.SameSends.trans {d e f : Dev} (h : d.SameSends e) (k : e.SameSends f) : d.SameSends f :=
  ⟨k.ulk.trans h.ulk, k.cls.trans h.cls, k.rings.trans h.rings, k.inj.trans h.inj⟩

theorem Dev.setPart_sameSends (d : Dev) (k : Nat) (f : Part → Part) : d.SameSends (d.setPart k f) := by
  unfold Dev.setPart Dev.notePool
  split
  · exact ⟨rfl, rfl, rfl, rfl⟩
  · split <;> exact ⟨rfl, rfl, rfl, rfl⟩

/-- What a partition takes turns on the three partitions. -/
theorem Dtm.takes_congr {x y : Dtm} (h : ∀ k, k < 3 → x.part k = y.part k) (k c : Nat) : x.takes k c = y.takes k c := by
  have h0 : x.part0 = y.part0 := h 0 (by decide)
  have h1 : x.part1 = y.part1 := h 1 (by decide)
  have h2 : x.part2 = y.part2 := h 2 (by decide)
  unfold Dtm.takes Dtm.part Dtm.shared
  rw [h0, h1, h2]

/-- A frame that goes through a partition leaves what every partition takes. -/
theorem Dev.takes_through (d : Dev) {n : Nat} (hn : n < 3) (c k m : Nat) :
    ((d.setPart n fun q => { q with used := q.used + c }).freeCells n c).dtm.takes k m = d.dtm.takes k m := by
  refine Dtm.takes_congr (fun j hj => ?_) k m
  rw [Dev.freeCells, Dev.setPart_part _ hn hj, Dev.setPart_part _ hn hj]
  split
  · dsimp only
    rw [Nat.add_sub_cancel]
  · rfl

/-! ### The egress queue (R363) -/

/-- The port takes the frame: it is live and not draining, the frame is not too long, and its queue and partition 1 have room. -/
structure Dev.Accepts (d : Dev) (u tc n : Nat) : Prop where
  live : d.ulkLive u = true
  stage : (d.uplink u).stage ≠ .draining
  short : n + 4 ≤ (d.uplink u).cfg.maxFrame
  room : (d.uplink u).cfg.qlim = 0 ∨ (d.uplink u).qBytes tc + n ≤ (d.uplink u).cfg.qlim
  cells : d.dtm.takes 1 (cellsOf n) = true

theorem Dev.egress_accepted {d : Dev} {u tc : Nat} {data : Bytes} (h : d.Accepts u tc data.length) (inj : Option Nat) :
    ((d.egress u tc data inj).uplink u).q = (d.uplink u).q ++ [{ tc := tc, data := data, inj := inj }] ∧
      (d.egress u tc data inj).injRings = d.injRings ∧ (d.egress u tc data inj).inj = d.inj := by
  have hstage : (!d.ulkLive u || (d.uplink u).stage == .draining) = false := by
    rw [h.live, beq_false_of_ne h.stage]
    rfl
  have hroom : ((d.uplink u).cfg.qlim != 0 && decide ((d.uplink u).cfg.qlim < (d.uplink u).qBytes tc + data.length)) = false := by
    rcases h.room with hq | hq
    · rw [hq]
      rfl
    · rw [decide_eq_false (Nat.not_lt.mpr hq), Bool.and_false]
  have hsame := d.setPart_sameSends 1 fun q => { q with used := q.used + cellsOf data.length }
  unfold Dev.egress
  dsimp only
  rw [hstage, if_neg Bool.false_ne_true, if_neg (Nat.not_lt.mpr h.short), hroom, if_neg Bool.false_ne_true, Dev.takeCells, if_pos h.cells]
  refine ⟨?_, hsame.rings, hsame.inj⟩
  show (sget Uplink.dflt (sset Uplink.dflt _ u _) u).q = _
  rw [sget_sset_same]
  show (sget Uplink.dflt (Dev.setPart d 1 _).ulk u).q ++ _ = _
  rw [hsame.ulk]
  rfl

/-- A frame of a send that its port takes stands at the tail of its queue. -/
theorem Dev.injOne_accepted {d : Dev} {u tc : Nat} {data : Bytes} (hu : u < 32) (h : d.Accepts u tc data.length)
    (h2 : d.dtm.takes 2 (cellsOf data.length) = true) (key : Nat) :
    ((d.injOne 0 u tc key data).uplink u).q = (d.uplink u).q ++ [{ tc := tc, data := data, inj := some key }] ∧
      (d.injOne 0 u tc key data).injRings = d.injRings ∧ (d.injOne 0 u tc key data).inj = d.inj := by
  let e := (d.setPart 2 fun q => { q with used := q.used + cellsOf data.length }).freeCells 2 (cellsOf data.length)
  have hsame : d.SameSends e := (d.setPart_sameSends 2 _).trans (Dev.setPart_sameSends _ 2 _)
  have huplink : e.uplink u = d.uplink u := congrArg (fun m => sget Uplink.dflt m u) hsame.ulk
  have hacc : e.Accepts u tc data.length := by
    refine ⟨?_, huplink ▸ h.stage, huplink ▸ h.short, huplink ▸ h.room, (d.takes_through (by decide) _ 1 _).trans h.cells⟩
    rw [Dev.ulkLive, hsame.cls]
    exact h.live
  have hone : d.injOne 0 u tc key data = e.egress u tc data (some key) := by
    unfold Dev.injOne
    dsimp only
    rw [Dev.takeCells, if_pos h2, Nat.mod_eq_of_lt hu]
    rfl
  obtain ⟨hq, hrings, hinj⟩ := Dev.egress_accepted hacc (some key)
  rw [hone]
  exact ⟨by rw [hq, huplink], hrings.trans hsame.rings, hinj.trans hsame.inj⟩

/-! ### Sends that have ended (R84) -/

theorem Dev.injWrite_frame (d : Dev) (x : InjFlight) :
    (d.injWrite x).ulk = d.ulk ∧ (d.injWrite x).injRings = d.injRings ∧ (d.injWrite x).inj = d.inj := by
  let keeps (e : Dev) : Prop := e.ulk = d.ulk ∧ e.injRings = d.injRings ∧ e.inj = d.inj
  refine List.foldlRecOn (motive := keeps) x.flags.zipIdx _ ⟨rfl, rfl, rfl⟩ fun e he b _ => ?_
  dsimp only
  split <;> exact he

/-- Sends of the ring that have ended are written back; a send with a frame to go, the newest, stays. -/
theorem Dev.injFlush_keeps (r : Nat) (f : InjFlight) (hf : f.ring = r) (hl : f.left ≠ 0) : ∀ (n : Nat) (d : Dev) (l : List InjFlight),
    d.inj = l ++ [f] → f ∈ (Dev.injFlush r n d).inj ∧ (Dev.injFlush r n d).ulk = d.ulk ∧ (Dev.injFlush r n d).injRings = d.injRings
  | 0, d, l, h => ⟨by rw [Dev.injFlush, h]; exact List.mem_append_right _ List.mem_cons_self, rfl, rfl⟩
  | n + 1, d, l, h => by
    unfold Dev.injFlush
    rw [h, List.find?_append]
    cases hx : l.find? fun x => x.ring == r with
    | none =>
      rw [Option.none_or, List.find?_cons_of_pos (by rw [hf, beq_self_eq_true])]
      dsimp only
      rw [if_pos (bne_iff_ne.mpr hl), h]
      exact ⟨List.mem_append_right _ List.mem_cons_self, rfl, rfl⟩
    | some x =>
      rw [Option.some_or]
      dsimp only
      split
      · rw [h]
        exact ⟨List.mem_append_right _ List.mem_cons_self, rfl, rfl⟩
      · have hdrop : dropFirst (fun y : InjFlight => y.key == x.key) (l ++ [f]) = dropFirst (fun y => y.key == x.key) l ++ [f] := by
          rw [dropFirst_eq_eraseP, dropFirst_eq_eraseP,
            List.eraseP_append_left (p := fun y : InjFlight => y.key == x.key) (beq_self_eq_true x.key) _ (List.mem_of_find?_eq_some hx)]
        obtain ⟨hulk, hrings, hinj⟩ := Dev.injWrite_frame { d with inj := dropFirst (fun y => y.key == x.key) (l ++ [f]) } x
        obtain ⟨h1, h2, h3⟩ := Dev.injFlush_keeps r f hf hl n _ _ (hinj.trans hdrop)
        exact ⟨h1, h2.trans hulk, h3.trans hrings⟩

/-! ### The send of one descriptor (R82, R85) -/

theorem fld_within (b : Bytes) (o n : Nat) (h : o + n ≤ b.length) : fld b o n = ofLe ((b.drop o).take n) := by
  rw [fld, bslice_within b o n h]

/-- A byte is the field of one byte. -/
theorem toNat_byteAt (b : Bytes) (o : Nat) (h : o < b.length) : (byteAt b o).toNat = ofLe ((b.drop o).take 1) := by
  rw [List.drop_eq_getElem_cons h, byteAt, List.getD_eq_getElem _ _ h, List.take_succ_cons, List.take_zero, ofLe, ofLe]
  omega

/-- The descriptor asks for a whole send, without SEG or CSUM, of `n` bytes to uplink port `u` (Table 2-12). -/
structure PlainSend (b : Bytes) (u n : Nat) : Prop where
  length : b.length = 32
  flags : (byteAt b 10).toNat % 16 = 3
  len : fld b 8 2 = n
  dest : fld b 12 4 = u
  bounds : 1 ≤ n ∧ n ≤ 16383
  lane : u < 32

theorem PlainSend.flag {b : Bytes} {u n : Nat} (h : PlainSend b u n) (k : Nat) (hk : k < 4) : (byteAt b 10).getLsbD k = decide (k < 2) := by
  have hf := h.flags
  rw [BitVec.getLsbD, Nat.testBit_eq_decide_div_mod_eq, decide_eq_decide]
  interval_cases k <;> omega

/-- Its plan is the one frame that stands in host memory. -/
theorem sendPlan_plain {b : Bytes} {u n : Nat} (h : PlainSend b u n) (m : Sparse Byte) : sendPlan m [b] = .frames [memRead m (fld b 0 8) n] := by
  have hlane := h.lane
  have hbounds := h.bounds
  have hfirst : (byteAt b 10).getLsbD 0 = true := h.flag 0 (by decide)
  have hseg : (byteAt b 10).getLsbD 2 = false := h.flag 2 (by decide)
  have hcsum : (byteAt b 10).getLsbD 3 = false := h.flag 3 (by decide)
  have hpairs : sendPairs [b] = true := by rw [sendPairs, hfirst]; rfl
  have hlen : decide (n = 0 ∨ 16384 < n) = false := decide_eq_false (by omega)
  have hdest : u / 2 ^ 28 = 0 := by omega
  have hnum : u % 2 ^ 20 = u := by omega
  unfold sendPlan
  simp only [List.headD_cons, List.any_cons, List.any_nil, List.map_cons, List.map_nil, List.foldl_cons, List.foldl_nil, List.flatMap_cons,
    List.flatMap_nil, List.append_nil, h.len, h.dest, hseg, hcsum, hpairs, hlen, hdest, hnum]
  rw [if_neg (by simp; omega), if_neg (by simp; omega)]
  rfl

/-- The ring has a plain send at its read pointer. -/
structure PktRing.HasSend (x : PktRing) (m : Sparse Byte) (b : Bytes) (u n : Nat) : Prop where
  en : x.en = true
  size : 6 ≤ x.size ∧ x.size ≤ 16
  posted : x.posted ≠ 0
  entry : memRead m (x.descAddr x.rptr) 32 = b
  plain : PlainSend b u n

theorem PktRing.HasSend.sizeOk {x : PktRing} {m : Sparse Byte} {b : Bytes} {u n : Nat} (h : x.HasSend m b u n) : x.sizeOk = true :=
  decide_eq_true h.size

theorem PktRing.HasSend.nextSend_eq {x : PktRing} {m : Sparse Byte} {b : Bytes} {u n : Nat} (h : x.HasSend m b u n) (free : Nat) :
    nextSend (x.postedDescs m free) = some [b] := by
  have hlast : (byteAt b 10).getLsbD 1 = true := h.plain.flag 1 (by decide)
  have hdesc : x.desc m free (x.rptr + 0) = b := (if_pos h.sizeOk).trans h.entry
  obtain ⟨k, hk⟩ : ∃ k, min 64 x.posted = k + 1 := ⟨min 64 x.posted - 1, by have := h.posted; omega⟩
  rw [nextSend, PktRing.postedDescs, hk, List.range_succ_eq_map, List.map_cons, hdesc, List.findIdx?_cons, hlast, if_pos rfl]
  rfl

/-- The send in flight of a plain send. -/
def PktRing.flight (x : PktRing) (r u : Nat) (b : Bytes) : InjFlight :=
  { ring := r, first := x.rptr, flags := [byteAt b 10], left := 1, stampReq := (byteAt b 10).getLsbD 4, port := some u }

theorem Dev.injectFrame_plain {d : Dev} {m : Sparse Byte} {r u n : Nat} {b : Bytes} (h : (d.injRing r).HasSend m b u n) :
    d.injectFrame m r =
      let x := d.injRing r
      let e : Dev := { (d.modInj r fun _ => { x with rptr := (x.rptr + 1) % x.entries }) with inj := d.inj ++ [x.flight r u b] }
      ((e.injOne 0 u (fld b 22 1 % 8) (x.flight r u b).key (memRead m (fld b 0 8) n))).injFlush r (d.inj.length + 1) := by
  have hopen : ¬(!(d.injRing r).en || decide ((d.injRing r).posted = 0)) = true := by
    rw [h.en, decide_eq_false h.posted]
    decide
  have hptr : d.pktPtr (d.injRing r) = (d.injRing r, d) := if_pos h.sizeOk
  have hdest : fld b 12 4 / 2 ^ 28 = 0 ∧ fld b 12 4 % 2 ^ 20 = u ∧ fld b 12 4 % 32 = u := by
    have hlane := h.plain.lane
    rw [h.plain.dest]
    omega
  obtain ⟨hkind, hnum, hport⟩ := hdest
  unfold Dev.injectFrame
  dsimp only
  rw [if_neg hopen, hptr]
  dsimp only
  rw [h.nextSend_eq]
  dsimp only
  rw [sendPlan_plain h.plain]
  unfold Dev.startSend
  simp only [List.headD_cons, hkind, hnum, hport, List.map_cons, List.map_nil, List.length_cons, List.length_nil, List.foldl_cons, List.foldl_nil,
    if_pos]
  rw [List.length_append]
  rfl

/-- Settles O34: the rows are events; the send has one descriptor and one frame, which its port takes. -/
theorem registerWritesAndStarts : Obligations.RegisterWritesAndStarts := by
  refine ⟨fun s p r8 r16 ring en arm term off v reg e he => ?rows, ?send⟩
  case rows =>
    have hrow : exec e.1 s = s.event e.2 := State.Rows.exec_eq he (by
      simp only [State.rows_cons_iff, State.rows_nil, and_true]
      and_intros <;> rfl)
    rw [hrow]
    exact ⟨(s.event_cases e.2).1, fun hr => (s.event_cases e.2).2 (ne_false_of_eq_true hr)⟩
  case send =>
    intro s r u hs hr x y b n prio hen hlo hhi hposted hflags hn1 hn2 hdest hlive hstage hshort hroom hcells2 hcells1
    have hlen : b.length = 32 := length_memRead ..
    have hplain : PlainSend b u n := ⟨hlen, by rw [toNat_byteAt b 10 (by omega)]; exact hflags, fld_within b 8 2 (by omega),
      (fld_within b 12 4 (by omega)).trans hdest, ⟨hn1, hn2⟩, u.isLt⟩
    have hsend : x.HasSend s.mem b u n := ⟨hen, ⟨hlo, hhi⟩, hposted, rfl, hplain⟩
    have hdata : (memRead s.mem (fld b 0 8) n).length = n := length_memRead ..
    let e : Dev := { (s.dev.modInj r fun _ => { x with rptr := (x.rptr + 1) % x.entries }) with inj := s.dev.inj ++ [x.flight r u b] }
    have hacc : e.Accepts u (fld b 22 1 % 8) (memRead s.mem (fld b 0 8) n).length := by
      rw [hdata, fld_within b 22 1 (by omega)]
      exact ⟨hlive, hstage, hshort, hroom, hcells1⟩
    obtain ⟨hq, hrings, hinj⟩ := Dev.injOne_accepted u.isLt hacc (by rw [hdata]; exact hcells2) (x.flight r u b).key
    obtain ⟨hmem, hulk', hrings'⟩ := Dev.injFlush_keeps r (x.flight r u b) rfl Nat.one_ne_zero (s.dev.inj.length + 1) _ s.dev.inj hinj
    have hrow : exec (.injectFrame r) s = _ := s.event_on (fun d => d.injectFrame s.mem r.val) hr
    rw [Dev.injectFrame_plain hsend] at hrow
    have hering (k : Nat) : e.injRing k = if k = r.val then { x with rptr := (x.rptr + 1) % x.entries } else s.dev.injRing k :=
      Dev.modInj_get s.dev r (fun _ => { x with rptr := (x.rptr + 1) % x.entries }) k
    have hring (k : Nat) := (Dev.injRing_of_eq _ _ k (hrings'.trans hrings)).trans (hering k)
    refine ⟨_, hrow, ?_, ?_, ⟨_, (by rw [State.run_inj]; exact hmem), rfl, rfl, rfl⟩, fun k hk => ?_⟩
    · rw [State.run_injRing]
      exact (hring r).trans (if_pos rfl)
    · have huplink (d : Dev) : (s.run d).dev.uplink u = d.uplink u := congrArg (fun m => sget Uplink.dflt m u) (s.run_ulk d)
      rw [huplink, Dev.uplink, hulk']
      rw [fld_within b 22 1 (by omega), fld_within b 0 8 (by omega)] at hq
      rw [fld_within b 22 1 (by omega), fld_within b 0 8 (by omega)]
      exact hq
    · rw [State.run_injRing]
      exact (hring k).trans (if_neg hk)

end Sys2Proof.Machine
end

section
/-! SUPPORT. Mistakes of a program (R218, R240): what lies within their reach, which instructions make them, and that each row an instruction word
spells belongs to the winder that reads it. -/
namespace Sys2Proof.Machine
open Sys2Proof

/-! ### Merging what a mistake reaches -/

theorem sget_sclear {α : Type} (dflt : Nat → α) (p : Nat → Bool) (m : Sparse α) (k : Nat) (h : p k = false) :
    sget dflt (sclear p m) k = sget dflt m k := by
  induction m with
  | nil => rfl
  | cons e m ih =>
    unfold sclear at ih ⊢
    by_cases hk : e.1 = k
    · rw [List.filter_cons_of_pos (by rw [hk, h]; rfl), sget, sget, if_pos hk, if_pos hk]
    · rw [sget, if_neg hk, ← ih, List.filter_cons]
      split
      · rw [sget, if_neg hk]
      · rfl

/-- A key outside the reach keeps what it holds. -/
theorem sget_smerge {α : Type} [DecidableEq α] (dflt : Nat → α) (p : Nat → Bool) (m x : Sparse α) (k : Nat) (h : p k = false) :
    sget dflt (smerge dflt p m x) k = sget dflt m k := by
  rw [← sget_sclear dflt p m k h]
  refine List.foldlRecOn (motive := fun n => sget dflt n k = sget dflt (sclear p m) k) (x.filter fun e => p e.1) _ rfl fun n hn e he => ?_
  have hpe : p e.1 = true := (List.mem_filter.mp he).2
  rw [sget_sset_ne _ _ _ _ _ (fun hk => by rw [hk, hpe] at h; cases h), hn]

/-! ### The maps of a tree port (Tables 5-12, 6-21) -/

/-- What a mistake of the program of winder `w` leaves of the device. -/
structure Dev.MapsSpoilt (d e : Dev) (p w : Nat) : Prop where
  ports : ∀ k, k ≠ p → e.port k = d.port k
  winders : ∀ u, u ≠ w → e.winder u = d.winder u
  port : e.port p = { d.port p with
    main := { (d.port p).main with map := (e.port p).main.map, tail := (e.port p).main.tail }
    comp := { (d.port p).comp with map := (e.port p).comp.map, tail := (e.port p).comp.tail }
    wnd := { (d.port p).wnd with
      run := (e.port p).wnd.run, v := (e.port p).wnd.v, shift := (e.port p).wnd.shift, cal := (e.port p).wnd.cal
      marks := (e.port p).wnd.marks, rptSet := (e.port p).wnd.rptSet, alloc := (e.port p).wnd.alloc, wild := true } }
  records : ∀ k, k % 16 < 12 → sget (fun _ => 0#32) (e.port p).wnd.alloc k = sget (fun _ => 0#32) (d.port p).wnd.alloc k
  rest : e = { d with free := e.free, ports := e.ports, winders := e.winders }

theorem Reach.merge_maps_port (d x : Dev) (p w k : Nat) :
    ((Reach.maps p w).merge d x).port k = if k = p then (d.port p).spoiledMaps (x.port p) else d.port k :=
  Dev.modPort_get d p (fun q => q.spoiledMaps (x.port p)) k

theorem Reach.merge_maps_winder (d x : Dev) (p w u : Nat) :
    ((Reach.maps p w).merge d x).winder u = if u = w then (d.winder w).spoiled (x.winder w) else d.winder u :=
  Dev.modWinder_get (d.modPort p fun q => q.spoiledMaps (x.port p)) w (fun y => y.spoiled (x.winder w)) u

theorem Port.spoiledMaps_records (q x : Port) (k : Nat) (h : k % 16 < 12) :
    sget (fun _ => 0#32) (q.spoiledMaps x).wnd.alloc k = sget (fun _ => 0#32) q.wnd.alloc k :=
  sget_smerge _ _ _ _ k (decide_eq_false (Nat.not_le.mpr h))

theorem Dev.oliolMistake_spoils (d : Dev) (w : Nat) : d.MapsSpoilt (d.oliolMistake w) (d.winder w).port w := by
  unfold Dev.oliolMistake Dev.spoil
  dsimp only
  split
  next =>
    refine ⟨fun k hk => ?_, fun _ _ => rfl, ?_, fun k _ => ?_, rfl⟩
    · rw [Dev.modPort_get, if_neg hk]
      rfl
    · rw [Dev.modPort_get, if_pos rfl]
      rfl
    · rw [Dev.modPort_get, if_pos rfl]
      rfl
  next x hx =>
    refine ⟨fun k hk => ?_, fun u hu => ?_, ?_, fun k hk => ?_, rfl⟩
    · rw [Dev.modPort_get, if_neg hk, Reach.merge_maps_port, if_neg hk]
      rfl
    · rw [Dev.modPort_winder_at, Reach.merge_maps_winder, if_neg hu]
      rfl
    · rw [Dev.modPort_get, if_pos rfl, Reach.merge_maps_port, if_pos rfl]
      rfl
    · rw [Dev.modPort_get, if_pos rfl, Reach.merge_maps_port, if_pos rfl]
      exact Port.spoiledMaps_records _ _ k hk

/-- A mistake of a program, as the state it leaves. -/
theorem State.oliolMistake_spoilt (s : State) (hs : s.Settled) (w : Nat) :
    s.SpoiltMaps (s.run (s.dev.oliolMistake w)) (s.dev.winder w).port w := by
  obtain ⟨hports, hwinders, hport, hrecords, hrest⟩ := s.dev.oliolMistake_spoils w
  rw [s.run_silent hs (s.dev.oliolMistake w) (by rw [hrest]) (by rw [hrest])]
  exact ⟨hports, hwinders, hport, hrecords, congrArg (fun d : Dev => { s with dev := d }) hrest⟩

section
variable (s : State) (hs : s.Settled) {w : Fin 80} {i : Instr}
include hs

/-- An instruction that issues and breaks Table 6-21. -/
theorem State.exec_breaks {keys : List Nat} {adj : Winder → Nat → Nat} {c : Nat} (hi : s.dev.Issues w keys adj c)
    (f : Nat → Winder → Dev → Option Dev) (hrow : exec i s = s.oliol w i (s.dev.issue w keys adj f))
    (hf : f c (s.dev.winder w) (s.dev.profIssue w c) = none) (hw : s.dev.Spells w i) :
    ∃ t, exec i s = .next t ∧ s.SpoiltMaps t (s.dev.winder w).port w :=
  ⟨_, by rw [hrow, Dev.issue_eq hi, hf, s.oliol_broken hi.reached hi.running hw], s.oliolMistake_spoilt hs w⟩

/-- A word with an RSV bit set. -/
theorem State.exec_reserved (hu : s.dev.winderUp w = true) (hr : (s.dev.winder w).running = true) (r : Option Dev)
    (hrow : exec i s = s.oliol w i r) (hi : (wordInstr w (s.dev.wordAt w)).1 = i) (hspelled : Instr.spelled i = i)
    (hrsv : (wordInstr w (s.dev.wordAt w)).2 = true) : ∃ t, exec i s = .next t ∧ s.SpoiltMaps t (s.dev.winder w).port w := by
  have hat : s.dev.atRow w i = true := by
    rw [Dev.atRow, hu, hr, hi, hspelled, beq_self_eq_true]
    rfl
  refine ⟨_, ?_, s.oliolMistake_spoilt hs w⟩
  rw [hrow, State.oliol, Dev.oliol, hat, hrsv]
  rfl

end

/-! ### The rows that words spell (R194, R195) -/

/-- The row is one of winder `w`, and what it spells is itself. -/
def OnWinder (w : Fin 80) (i : Instr) : Prop := (∀ s, ∃ r, exec i s = s.oliol w i r) ∧ Instr.spelled i = i

theorem wordShift_onWinder (w : Fin 80) (v : Word) : OnWinder w (wordShift w v).1 := by
  unfold wordShift
  dsimp only
  split <;> exact ⟨fun _ => ⟨_, rfl⟩, rfl⟩

theorem wordValu_onWinder (w : Fin 80) (v : Word) : OnWinder w (wordValu w v).1 := by
  unfold wordValu
  dsimp only
  split <;> exact ⟨fun _ => ⟨_, rfl⟩, rfl⟩

theorem wordVcmp_onWinder (w : Fin 80) (v : Word) : OnWinder w (wordVcmp w v).1 := by
  unfold wordVcmp
  dsimp only
  split <;> exact ⟨fun _ => ⟨_, rfl⟩, rfl⟩

theorem wordVsel_onWinder (w : Fin 80) (v : Word) : OnWinder w (wordVsel w v).1 := by
  unfold wordVsel
  split <;> exact ⟨fun _ => ⟨_, rfl⟩, rfl⟩

theorem wordVred_onWinder (w : Fin 80) (v : Word) : OnWinder w (wordVred w v).1 := by
  unfold wordVred
  dsimp only
  split <;> exact ⟨fun _ => ⟨_, rfl⟩, rfl⟩

theorem wordVlane_onWinder (w : Fin 80) (v : Word) : OnWinder w (wordVlane w v).1 := by
  unfold wordVlane
  split <;> exact ⟨fun _ => ⟨_, rfl⟩, rfl⟩

theorem wordVpred_onWinder (w : Fin 80) (v : Word) : OnWinder w (wordVpred w v).1 := by
  unfold wordVpred
  dsimp only
  split <;> exact ⟨fun _ => ⟨_, rfl⟩, rfl⟩

theorem wordSched_onWinder (w : Fin 80) (v : Word) : OnWinder w (wordSched w v).1 := by
  unfold wordSched
  dsimp only
  split
  case h_1 => split <;> exact ⟨fun _ => ⟨_, rfl⟩, rfl⟩
  all_goals exact ⟨fun _ => ⟨_, rfl⟩, rfl⟩

theorem wordInstr_onWinder (w : Fin 80) (v : Word) : OnWinder w (wordInstr w v).1 := by
  unfold wordInstr
  dsimp only
  split
  case h_22 => exact wordShift_onWinder w v
  case h_39 => split <;> exact ⟨fun _ => ⟨_, rfl⟩, rfl⟩
  case h_40 => split <;> exact ⟨fun _ => ⟨_, rfl⟩, rfl⟩
  case h_41 => exact wordValu_onWinder w v
  case h_42 => exact wordVcmp_onWinder w v
  case h_43 => exact wordVsel_onWinder w v
  case h_44 => exact wordVred_onWinder w v
  case h_45 => exact wordVlane_onWinder w v
  case h_46 => exact wordVpred_onWinder w v
  case h_53 => exact wordSched_onWinder w v
  all_goals exact ⟨fun _ => ⟨_, rfl⟩, rfl⟩

/-! ### A store under the calendar (Table 7-9) -/

theorem Reach.merge_calendar_port (d x : Dev) (p w k : Nat) : ((Reach.calendar p w).merge d x).port k =
    if k = p then { d.port p with wnd := { (d.port p).wnd with cal := (x.port p).wnd.cal } } else d.port k :=
  Dev.modPort_get d p (fun q => { q with wnd := { q.wnd with cal := (x.port p).wnd.cal } }) k

/-- The mistake reaches the calendar and the link words, bytes 0xE000 to 0xFFFF of local memory. -/
theorem Dev.spoil_calendar (d : Dev) (p w : Nat) : ∃ cal m,
    (∀ k, (d.spoil (.calendar p w)).port k = if k = p then { d.port p with wnd := { (d.port p).wnd with cal := cal } } else d.port k) ∧
      (d.spoil (.calendar p w)).winder w = { d.winder w with lmem := m } ∧
      ∀ k, k < 0x3800 → sget (fun _ => 0#32) m k = sget (fun _ => 0#32) (d.winder w).lmem k := by
  unfold Dev.spoil
  dsimp only
  split
  next =>
    refine ⟨(d.port p).wnd.cal, (d.winder w).lmem, fun k => ?_, rfl, fun _ _ => rfl⟩
    split
    next h => rw [h]; rfl
    next => rfl
  next x hx =>
    exact ⟨_, _, fun k => Reach.merge_calendar_port _ x p w k, (Dev.modWinder_get _ w _ w).trans (if_pos rfl),
      fun k hk => sget_smerge _ _ _ _ k (decide_eq_false (Nat.not_le.mpr hk))⟩

/-- A store to the link words while a record is in the calendar: the words are stored and the base takes its increment as ever, and the calendar may
hold anything. -/
theorem State.exec_store_under (s : State) {w : Fin 80} {i : Instr} {keys : List Nat} {c : Nat} {rb : BitVec 5} {pi : Bool}
    {disp : BitVec 15} (hi : s.dev.Issues w keys localAt c) (hw : s.dev.Spells w i) (m : Sparse Word) (a : Nat)
    (ha : 0xE000 ≤ a) (hbusy : s.dev.calBusy (s.dev.winder w).port = true)
    (hm : ∀ b, b < 0xE000 → ({ s.dev.winder w with lmem := m } : Winder).lw b = (s.dev.winder w).lw b)
    (f : Nat → Winder → Dev → Option Dev) (hrow : exec i s = s.oliol w i (s.dev.issue w keys localAt f))
    (hf : f c (s.dev.winder w) (s.dev.profIssue w c) = some (((s.dev.profIssue w c).setWinder w
      (({ s.dev.winder w with lmem := m }.postInc c rb pi disp).retire c 1)).calStored w (s.dev.winder w).port a)) :
    let x := s.dev.winder w
    let q := s.dev.port x.port
    ∃ t, exec i s = .next t ∧ (∀ p, p ≠ x.port → t.dev.port p = s.dev.port p) ∧
      t.dev.port x.port = { q with wnd := { q.wnd with cal := (t.dev.port x.port).wnd.cal } } ∧
      (∀ n, (t.dev.winder w).rg n = if n = 0 then 0 else if pi ∧ n = rb then x.rg rb + disp.signExtend 32 else x.rg n) ∧
      (∀ b, b < 0xE000 → (t.dev.winder w).lw b = x.lw b) ∧ x.FellThrough (t.dev.winder w) c 1 := by
  intro x q
  let y : Winder := ({ x with lmem := m }.postInc c rb pi disp).retire c 1
  let d : Dev := (s.dev.profIssue w c).setWinder w y
  have hport (k : Nat) : d.port k = s.dev.port k := s.dev.profIssue_port w c k
  have hwinder : d.winder w = y := (Dev.setWinder_get ..).trans (if_pos rfl)
  have hstored : d.calStored w x.port a = d.spoil (.calendar x.port w) := by
    refine if_pos ?_
    rw [decide_eq_true ha, Bool.true_and, Dev.calBusy, hport]
    exact hbusy
  obtain ⟨cal, m', hp, hy, hl⟩ := d.spoil_calendar x.port w
  obtain ⟨⟨_, _, _, hlocal⟩, _⟩ := Winder.postInc_frame { x with lmem := m } c rb pi disp
  obtain ⟨_, hfell, _⟩ := Winder.retire_of_sansRegs (x := x) (Winder.postInc_sansRegs { x with lmem := m } c rb pi disp) c 1
  rw [hwinder] at hy hl
  simp only [hport] at hp
  refine ⟨s.run (d.spoil (.calendar x.port w)), ?_, fun p hne => ?_, ?_, fun n => ?_, fun b hb => ?_, ?_⟩
  · rw [hrow, Dev.issue_eq hi, hf, s.oliol_at hi hw]
    exact congrArg (fun d => Host.Outcome.next (s.run d)) hstored
  · rw [State.run_port, hp, if_neg hne]
  · rw [State.run_port, hp, if_pos rfl]
  · rw [State.run_winder, hy]
    exact Winder.rg_postInc { x with lmem := m } c rb pi disp n
  · rw [State.run_winder, hy]
    exact ((hl (b / 4) (by omega)).trans (hlocal rfl b)).trans (hm b hb)
  · rw [State.run_winder, hy]
    exact hfell

/-! ### Operands of the map builder, and a bad PRECUT list (Table 7-9) -/

theorem Dev.grantOps_same (d : Dev) (a b j : Nat) : (d.grantOps a b).2.winder j = d.winder j ∧ (d.grantOps a b).2.port j = d.port j := by
  unfold Dev.grantOps
  split <;> exact ⟨rfl, rfl⟩

theorem Dev.rngOps_same (d : Dev) (a b j : Nat) : (d.rngOps a b).2.winder j = d.winder j ∧ (d.rngOps a b).2.port j = d.port j := by
  unfold Dev.rngOps
  split <;> exact ⟨rfl, rfl⟩

theorem Dev.oddSize_same (d : Dev) (p size j : Nat) : (d.oddSize p size).2.winder j = d.winder j ∧ (d.oddSize p size).2.port j = d.port j := by
  unfold Dev.oddSize
  split <;> exact ⟨rfl, rfl⟩

/-- A grant, whatever its records hold, leaves every winder and every other port. -/
theorem Dev.grant_same (d : Dev) (p ri profIx flags start size j : Nat) : (d.grant p ri profIx flags start size).2.winder j = d.winder j ∧
    (j ≠ p → (d.grant p ri profIx flags start size).2.port j = d.port j) := by
  obtain ⟨hw, hp⟩ := d.oddSize_same p size j
  unfold Dev.grant
  dsimp only
  generalize (d.oddSize p size).2 = e at hw hp
  generalize (e.port p).decideGrant ri profIx flags start (d.oddSize p size).1 = r
  obtain ⟨_ | _, q⟩ := r
  · refine ⟨?_, fun hj => ?_⟩
    · dsimp only
      split <;> split <;> simp [hw]
    · dsimp only
      split <;> split <;> simp [Dev.setPort_get, hj, hp]
  · exact ⟨by simp [hw], fun hj => by simp [hp]⟩

/-- A GRANT whose operands may have RSV bits set: some result is written to `rd`, and the other tree ports stay. -/
theorem State.exec_grant_wrote (s : State) (hs : s.Settled) {w : Fin 80} {rd rs rt : BitVec 5} {c : Nat}
    (hi : s.dev.Issues w (kG rs ++ kG rt ++ kG rd) noWait c) (hw : s.dev.Spells w (.grant w rd rs rt)) :
    ∃ t v, exec (.grant w rd rs rt) s = .next t ∧ s.WroteG t w rd v c 20 2 ∧
      ∀ p, p ≠ (s.dev.winder w).port → t.dev.port p = s.dev.port p := by
  have hrow : exec (.grant w rd rs rt) s = execGrant w rd rs rt s := rfl
  rw [hrow, execGrant, Dev.issue_eq hi, s.oliol_at hi hw]
  refine ⟨_, _, rfl, s.wroteG_of_winder _ hs _ _ _ _ _ _ (State.run_winder_set ..), fun p hp => ?_⟩
  rw [State.run_port, Dev.setWinder_port_at, (Dev.grant_same ..).2 hp, (Dev.grantOps_same ..).2, Dev.profIssue_port]

/-- A RNGWIN whose operands may have RSV bits set. -/
theorem State.exec_rngwin_wrote (s : State) (hs : s.Settled) {w : Fin 80} {rd rs rt : BitVec 5} {c : Nat}
    (hi : s.dev.Issues w (kG rs ++ kG rt ++ kG rd) noWait c) (hw : s.dev.Spells w (.rngwin w rd rs rt)) :
    ∃ t v, exec (.rngwin w rd rs rt) s = .next t ∧ s.WroteG t w rd v c 24 24 ∧
      ∀ p, p ≠ (s.dev.winder w).port → t.dev.port p = s.dev.port p := by
  have hrow : exec (.rngwin w rd rs rt) s = execRngwin w rd rs rt s := rfl
  rw [hrow, execRngwin, Dev.issue_eq hi, s.oliol_at hi hw]
  refine ⟨_, _, rfl, s.wroteG_of_winder _ hs _ _ _ _ _ _ (State.run_winder_set ..), fun p hp => ?_⟩
  rw [State.run_port, Dev.setWinder_port_at, Dev.windowPlaced_port, if_neg hp, (Dev.rngOps_same ..).2, Dev.profIssue_port]

theorem length_eraseDups_le {α : Type} [BEq α] (l : List α) : l.eraseDups.length ≤ l.length := by
  induction hn : l.length using Nat.strongRecOn generalizing l with
  | _ n ih =>
    cases l with
    | nil => exact hn ▸ Nat.le_refl _
    | cons a l =>
      have hf : (l.filter fun b => !b == a).length ≤ l.length := List.length_filter_le _ _
      rw [List.length_cons] at hn
      rw [List.eraseDups_cons, List.length_cons]
      have := ih _ (by omega) (l.filter fun b => !b == a) rfl
      omega

/-- A list that holds something twice gets shorter. -/
theorem length_eraseDups_lt {α : Type} [BEq α] [LawfulBEq α] {l : List α} (h : ¬l.Nodup) : l.eraseDups.length < l.length := by
  induction l with
  | nil => exact absurd List.nodup_nil h
  | cons a l ih =>
    rw [List.eraseDups_cons, List.length_cons, List.length_cons, Nat.add_lt_add_iff_right]
    have hle := length_eraseDups_le (l.filter fun b => !b == a)
    by_cases ha : a ∈ l
    · exact Nat.lt_of_le_of_lt hle (List.length_filter_lt_length_iff_exists.mpr ⟨a, ha, by simp⟩)
    · have hf : l.filter (fun b => !b == a) = l := List.filter_eq_self.mpr fun b hb => by
        have hne : b ≠ a := fun e => ha (e ▸ hb)
        simpa using hne
      rw [hf]
      exact ih fun hl => h (List.nodup_cons.mpr ⟨ha, hl⟩)

/-- A PRECUT list that Table 7-9 does not allow: too long, out of local memory, or with an identifier out of range or twice. -/
theorem Winder.cutList_none (x : Winder) (a h : Nat) (hh : (x.lw a).toNat = h)
    (hbad : 4096 < h ∨ 0x10000 < a + 4 + 8 * h ∨ (∃ k, k < h ∧ 4096 ≤ (x.lw (a + 4 + 8 * k)).toNat) ∨
      ∃ j k, j < h ∧ k < h ∧ j ≠ k ∧ (x.lw (a + 4 + 8 * j)).toNat = (x.lw (a + 4 + 8 * k)).toNat) : x.cutList a = none := by
  unfold Winder.cutList
  dsimp only
  rw [hh]
  split
  next => rfl
  next hshape =>
    split
    next => rfl
    next hbound =>
      rw [Bool.or_eq_true, decide_eq_true_eq, decide_eq_true_eq, not_or] at hshape
      have hbound' : ∀ k, k < h → ¬4096 ≤ (x.lw (a + 4 + 8 * k)).toNat := by simpa using hbound
      obtain hlong | hend | ⟨k, hk, hri⟩ | ⟨j, k, hj, hk, hjk, hsame⟩ := hbad
      · exact absurd hlong hshape.1
      · exact absurd hend hshape.2
      · exact absurd hri (hbound' k hk)
      · refine if_pos ((length_eraseDups_lt fun hnodup => hjk ?_).trans_eq (List.length_map _))
        rw [List.map_map, List.map_map] at hnodup
        exact List.inj_on_of_nodup_map hnodup (List.mem_range.mpr hj) (List.mem_range.mpr hk) hsame

theorem Reach.merge_fixed_port (d x : Dev) (p w k : Nat) : ((Reach.fixed p w).merge d x).port k =
    if k = p then { d.port p with wnd := { (d.port p).wnd with marks := (x.port p).wnd.marks } } else d.port k :=
  Dev.modPort_get d p (fun q => { q with wnd := { q.wnd with marks := (x.port p).wnd.marks } }) k

/-- The mistake reaches the marks of the tree port and the local memory of its winder. -/
theorem Dev.spoil_fixed_port (d : Dev) (p w : Nat) : ∃ marks, ∀ k, (d.spoil (.fixed p w)).port k =
    if k = p then { d.port p with wnd := { (d.port p).wnd with marks := marks } } else d.port k := by
  unfold Dev.spoil
  dsimp only
  split
  next =>
    refine ⟨(d.port p).wnd.marks, fun k => ?_⟩
    split
    next h => rw [h]; rfl
    next => rfl
  next x hx => exact ⟨_, fun k => Reach.merge_fixed_port _ x p w k⟩

/-- PRECUT of a bad list: its result, the marks, its time and local memory may be anything, and nothing else. -/
theorem State.exec_precut_odd (s : State) {w : Fin 80} {rd rs rt : BitVec 5} {c : Nat}
    (hi : s.dev.Issues w (kG rs ++ kG rt ++ kG rd) precutAt c) (hw : s.dev.Spells w (.precut w rd rs rt))
    (hbad : (s.dev.winder w).cutList (((s.dev.winder w).rg rs).toNat / 4 * 4) = none) :
    let x := s.dev.winder w
    ∃ t cost, exec (.precut w rd rs rt) s = .next t ∧ 24 ≤ cost ∧ (∀ p, p ≠ x.port → t.dev.port p = s.dev.port p) ∧
      t.dev.port x.port = { s.dev.port x.port with
        wnd := { (s.dev.port x.port).wnd with marks := (t.dev.port x.port).wnd.marks } } ∧
      (∀ n, n ≠ rd → (t.dev.winder w).rg n = if n = 0 then 0 else x.rg n) ∧ x.FellThrough (t.dev.winder w) c cost := by
  intro x
  let d : Dev := (((s.dev.profIssue w c).pick 32).2.pick 17).2
  let tot : Nat := ((s.dev.profIssue w c).pick 32).1
  let cost : Nat := max 24 (((s.dev.profIssue w c).pick 32).2.pick 17).1
  let y : Winder := { x with lmem := ((d.spoil (.fixed x.port w)).winder w).lmem, portFree := c + cost, localFree := c + cost }
  have hport (k : Nat) : d.port k = s.dev.port k := s.dev.profIssue_port w c k
  obtain ⟨marks, hmarks⟩ := d.spoil_fixed_port x.port w
  simp only [hport] at hmarks
  have hrow : exec (.precut w rd rs rt) s = execPrecut w rd rs rt s := rfl
  have hodd : exec (.precut w rd rs rt) s = .next (s.run ((s.dev.profIssue w c).precutOdd w c x rd)) := by
    rw [hrow, execPrecut, Dev.issue_eq hi]
    dsimp only
    rw [toNat_and_wordMask, hbad]
    dsimp only
    rw [s.oliol_at hi hw]
  have hset : (s.dev.profIssue w c).precutOdd w c x rd = (d.spoil (.fixed x.port w)).setWinder w
      (((y.setG rd (BitVec.ofNat 32 tot)).writes c cost (kG rd)).retire c cost) := rfl
  rw [hset] at hodd
  have hsans := y.setG_sansRegs rd (BitVec.ofNat 32 tot)
  refine ⟨_, cost, hodd, Nat.le_max_left 24 _, fun p hp => ?_, ?_, fun n hn => ?_, ?_⟩
  · rw [State.run_port, Dev.setWinder_port_at, hmarks, if_neg hp]
  · rw [State.run_port, Dev.setWinder_port_at, hmarks, if_pos rfl]
  · rw [State.run_winder_set, Winder.retire_rg, Winder.writes_rg, Winder.rg_setG, if_neg hn]
    rfl
  · rw [State.run_winder_set]
    exact Winder.retire_fellThrough x _ c cost (congrArg Winder.pc hsans :) (congrArg Winder.loops hsans :)

/-! ### Branches, jumps and loops that may not stand where they do (R208 to R210) -/

theorem Winder.atBodyEnd_true {x : Winder} (h : ∃ e ∈ x.loops, e.stop = x.pc.toNat) : x.atBodyEnd = true := by
  obtain ⟨e, he, hstop⟩ := h
  exact List.any_eq_true.mpr ⟨e, he, beq_iff_eq.mpr hstop⟩

/-- A control word at the end of a body, or one that goes out of the image. -/
theorem Dev.misplaced (d : Dev) (w c tgt : Nat)
    (h : (∃ e ∈ (d.winder w).loops, e.stop = (d.winder w).pc.toNat) ∨ d.icount (d.winder w).port ≤ tgt) :
    ((d.winder w).atBodyEnd || decide ((d.profIssue w c).icount (d.winder w).port ≤ tgt)) = true := by
  rw [Dev.icount_profIssue, Bool.or_eq_true, decide_eq_true_eq]
  exact h.imp_left Winder.atBodyEnd_true

/-- A LOOP whose body may not stand where it does. -/
theorem Dev.misplaced_body (d : Dev) (w c n len : Nat)
    (h : ¬(0 < len ∧ n ≤ 4096 ∧ (d.winder w).pc.toNat + len ≤ 4095 ∧ (d.winder w).pc.toNat + len < d.icount (d.winder w).port ∧
      (d.winder w).loops.length < 4 ∧
      ∀ e ∈ (d.winder w).loops, e.stop ≠ (d.winder w).pc.toNat ∧ (d.winder w).pc.toNat + len ≤ e.stop)) :
    let x := d.winder w
    let ends := x.pc.toNat + len
    (x.atBodyEnd || decide (len = 0 ∨ 4096 < n ∨ 4095 < ends ∨ (d.profIssue w c).icount x.port ≤ ends) || decide (4 ≤ x.loops.length) ||
      x.loops.any fun e => decide (e.stop < ends)) = true := by
  intro x ends
  by_contra hgood
  simp only [Bool.or_eq_true, not_or, decide_eq_true_eq, Bool.not_eq_true, List.any_eq_false, Winder.atBodyEnd, beq_iff_eq,
    Dev.icount_profIssue] at hgood
  obtain ⟨⟨⟨hend, hlen, hn, hends, himage⟩, hdepth⟩, hinside⟩ := hgood
  exact h ⟨Nat.pos_of_ne_zero hlen, Nat.not_lt.mp hn, Nat.not_lt.mp hends, Nat.not_le.mp himage, Nat.not_le.mp hdepth,
    fun e he => ⟨hend e he, Nat.not_lt.mp (hinside e he)⟩⟩

/-- Settles O20: each of these mistakes reaches what its row of the table names, and the winder goes on. -/
theorem programMistakesAreBounded : Obligations.ProgramMistakesAreBounded := by
  intro s w rd rs rt vd vs pi disp off target count len c hs x q ea aw av inc spoils alone underCalendar stored atEnd image body a b at0 h ri
  have hw (v : Word) : eaW v pi disp = ea v / 4 * 4 := eaW_eq v pi disp
  have hv : eaV (x.rg rs) pi disp = av := eaV_eq (x.rg rs) pi disp
  have hwle {n : Nat} {v : Word} (h : n ≤ ea v / 4 * 4) : n ≤ eaW v pi disp := by rwa [hw]
  have hvle {n : Nat} (h : n ≤ av) : n ≤ eaV (x.rg rs) pi disp := by rwa [hv]
  have hbranch (i : Instr) (p : Word → Word → Bool) (hrow : exec i s = s.oliol w i (s.dev.branch w rs rt off p))
      (hi : s.dev.Issues w (kG rs ++ kG rt) noWait c) (hbad : atEnd ∨ image ≤ (((x.pc.toNat : Int) + 1 + off.toInt) % 4096).toNat) :
      spoils i := fun hsp => s.exec_breaks hs hi _ hrow (if_pos (s.dev.misplaced w c _ hbad)) hsp
  refine ⟨?reserved, fun hi ha => ⟨?ldw, ?stw⟩, fun hi ha => ⟨?ldv, ?stv⟩, ?stwUnder, ?stvUnder, ?lda, ?sta, ?ldav, ?ldag, ?branches, ?jal,
    ?jalr, ?loopR, ?loopi, fun hi => ⟨fun _ hsp => s.exec_grant_wrote hs hi hsp, fun _ hsp => s.exec_rngwin_wrote hs hi hsp⟩, ?precut⟩
  case reserved =>
    intro hu hr hrsv
    obtain ⟨hrow, hspelled⟩ := wordInstr_onWinder w (s.dev.wordAt w)
    obtain ⟨r, hrow⟩ := hrow s
    exact s.exec_reserved hs hu hr r hrow rfl hspelled hrsv
  case ldw => exact fun hsp => s.exec_breaks hs hi _ rfl (if_pos (hwle ha)) hsp
  case stw => exact fun hsp => s.exec_breaks hs hi _ rfl (if_pos (hwle ha)) hsp
  case ldv => exact fun hsp => s.exec_breaks hs hi _ rfl (if_pos (hvle ha)) hsp
  case stv => exact fun hsp => s.exec_breaks hs hi _ rfl (if_pos (hvle ha)) hsp
  case lda => exact fun hi ha hsp => s.exec_breaks hs hi _ rfl (if_pos (hwle ha)) hsp
  case sta => exact fun hi ha hsp => s.exec_breaks hs hi _ rfl (if_pos (hwle ha)) hsp
  case ldav => exact fun hi ha hsp => s.exec_breaks hs hi _ rfl (if_pos (hvle ha)) hsp
  case ldag =>
    intro hi ⟨i, hi8, ha⟩ hsp
    refine s.exec_breaks hs hi _ rfl (if_pos (List.any_eq_true.mpr ⟨i, List.mem_range.mpr hi8, decide_eq_true (hwle ha)⟩)) hsp
  case stwUnder =>
    intro hi ⟨ha, hin, hbusy⟩ hsp
    refine s.exec_store_under hi hsp (x.setLw (eaW (x.rg rs) pi disp) (x.rg rd)).lmem (eaW (x.rg rs) pi disp) (hwle ha) hbusy
      (fun k hk => ?_) _ rfl (if_neg (by rw [hw]; exact Nat.not_le.mpr hin))
    rw [hw]
    exact (x.lw_setLw aw k _).trans (if_neg (by omega))
  case stvUnder =>
    intro hi ⟨ha, hin, hbusy⟩ hsp
    have hst := x.storeWords_lmem (eaV (x.rg rs) pi disp) (x.rv vd) 8
    have hf : (if lmemSize ≤ eaV (x.rg rs) pi disp then none else some (((s.dev.profIssue w c).setWinder w
        (((x.storeWords (eaV (x.rg rs) pi disp) (x.rv vd) 8).postInc c rs pi disp).retire c 1)).calStored w x.port
          (eaV (x.rg rs) pi disp))) = some (((s.dev.profIssue w c).setWinder w
          (({ x with lmem := (x.storeWords (eaV (x.rg rs) pi disp) (x.rv vd) 8).lmem }.postInc c rs pi disp).retire c 1)).calStored w x.port
            (eaV (x.rg rs) pi disp)) := by
      rw [← hst]
      exact if_neg (by rw [hv]; exact Nat.not_le.mpr hin)
    refine s.exec_store_under hi hsp _ _ (hvle ha) hbusy (fun k hk => ?_) _ rfl hf
    rw [← hst, hv, Winder.lw_storeWords, if_neg (by omega)]
  case branches =>
    intro hi hbad
    simp only [List.forall_mem_cons, List.not_mem_nil, false_imp_iff, implies_true, and_true]
    and_intros <;> exact hbranch _ _ rfl hi hbad
  case jal => exact fun hi hbad hsp => s.exec_breaks hs hi _ rfl (if_pos (s.dev.misplaced w c _ hbad)) hsp
  case jalr => exact fun hi hbad hsp => s.exec_breaks hs hi _ rfl (if_pos (s.dev.misplaced w c _ hbad)) hsp
  case loopR => exact fun hi hbad hsp => s.exec_breaks hs hi _ rfl (if_pos (s.dev.misplaced_body w c _ _ hbad)) hsp
  case loopi => exact fun hi hbad hsp => s.exec_breaks hs hi _ rfl (if_pos (s.dev.misplaced_body w c _ _ hbad)) hsp
  case precut => exact fun hi hbad hsp => s.exec_precut_odd hi hsp (x.cutList_none at0 h rfl hbad)

end Sys2Proof.Machine
end
